-- ==== Sys2Proof/Word.lean ====
section
/-! DEFINITION. The word types of the TC-96 model and nothing more: a byte of the coach link, a seat-line
character, a set of zones and a set of languages (spec/00_scope.md sections 5.2 and 5.3, R59, R182). -/

namespace Sys2Proof

/-- One byte of the coach link, or the eight low bits of a seat-line character. -/
abbrev Byte := BitVec 8

/-- The nine data bits of a seat-line character; bit 8 is the header mark (R59). -/
abbrev LineBits := BitVec 9

/-- A set of zones: bit z stands for zone z (R182). -/
abbrev ZoneMask := BitVec 4

/-- A set of languages: bit i stands for language index i (R182). -/
abbrev LanguageMask := BitVec 12

end Sys2Proof
end

