-- ==== Sys2Proof/Config.lean ====
section
/-! DEFINITION. The fixed sizes of the TC-96: the capacities and durations the spec states as plain numbers.
No value of the spec is left to an implementation in a way that needs a free constant, so this file holds none:
where the spec lets two events fall in either order, the order is an operand of the command (Syntax.lean). -/

namespace Sys2Proof.Config

/-- Frames the playout queue holds (R5). -/
def playoutDepth : Nat := 4
/-- Samples of one channel in one audio frame (spec/00_scope.md 5.2). -/
def frameSamples : Nat := 32
/-- Requests the request queue holds (R167). -/
def requestDepth : Nat := 4
/-- Items the reply list holds (R168). -/
def replyDepth : Nat := 8
/-- Notices the notice queue holds (R173). -/
def noticeDepth : Nat := 16
/-- Entries the announcement queue holds, the path entry among them (R137). -/
def announceDepth : Nat := 8
/-- Cues the open-cue list holds (R113). -/
def openCueDepth : Nat := 16
/-- Entries of the cue table (R108). -/
def cueEntries : Nat := 256
/-- Items a REPORT frame carries at most (R174). -/
def reportItems : Nat := 4
/-- Bytes a REPORT body may reach by adding an item (R185). -/
def reportBodyLimit : Nat := 2400
/-- Longest body an inbound frame may announce (R179). -/
def inboundBodyLimit : Nat := 1077
/-- Bytes of the longest inbound frame: sync, kind, length, body and check (R179). -/
def inboundFrameLimit : Nat := 1084
/-- Reference ticks in one second (R85), which is the parts of a millisecond in which the model counts time. -/
def tickRate : Nat := 32768
/-- The parts of a millisecond that one reference tick takes: 32768 ticks make 1000 ms (R85). -/
def tickParts : Nat := 1000
/-- `n` milliseconds, counted in parts of 1/32768 ms. -/
def ms (n : Nat) : Nat := n * tickRate
/-- The frame period in ms (R2). -/
def framePeriod : Nat := 2
/-- The supervision time (R181). -/
def supervisionTime : Nat := ms 100
/-- The quiet time (R74). -/
def quietTime : Nat := ms 60000
/-- The minimum length of a poll round (R65). -/
def roundTime : Nat := ms 4
/-- The start timer (R143). -/
def startTime : Nat := ms 250
/-- The time between two fade steps in ms (R161). -/
def fadeStepTime : Nat := 10
/-- The largest value of a 24-bit conversion counter (R89). -/
def counterMax : Nat := 16777215
/-- The largest age a result record holds, in ms (R93). -/
def ageMax : Nat := 4294967295

end Sys2Proof.Config
end

