-- ==== Sys2Proof/Syntax.lean ====
section
/-! DEFINITION. The commands of the TC-96: one constructor per row of spec/opcode_table.json.

Two kinds of row stand in the table. An EVENT row (a frame ends, a timer expires, an edge comes) carries what the
event brings. A REQUEST row is the execution of the request at the head of the request queue (R168): its
operands, the tag and the parameters, are those of that queued request, which a REQUEST frame brought (R167). So
a request row has no operand of its own, and it takes effect when the head request is of its kind and the reply
list has a free place.

Where the spec lets two things inside one event fall in either order, the command says which is taken first by a
Bool operand, so that both orders are commands of the model (DESIGN CHOICE, notes/assumptions/4.md and 5.md). -/

namespace Sys2Proof

/-- The five sense inputs (spec/00_scope.md 5.3). -/
inductive SenseChan where
  | odo | lux | lref | nfwd | naft
  deriving DecidableEq, Repr

/-- One character received on a seat line's control pair: its nine data bits and whether its stop bit was high
(R59: a low stop bit is a missing stop bit). -/
structure LineChar where
  bits : LineBits
  stopHigh : Bool
  deriving DecidableEq, Repr

/-- How an event falls in which the route engine may ask whether a SEGMENT cue can be served (DESIGN CHOICE,
notes/assumptions/4.md). -/
structure EventTurn where
  /-- The row's own choice of order: `counted` of an odometer edge, `cuesFirst` of a conversion's end, `chimeFirst` of a
  frame start. -/
  choice : Bool
  /-- A LIVE OFF that stands at the head of the request queue falls together with the event and is taken first: the
  event's SEGMENT question finds live OFF, and the retry report follows it (R133). -/
  liveOffFirst : Bool
  deriving DecidableEq, Repr

/-- The commands, in the order of spec/opcode_table.json. -/
inductive Instr where
  /-- Power-on reset (R177). -/
  | powerOnReset
  /-- `bytes` arrive on the coach link and the frame that ends first in what the frame checker then holds is a
  valid AUDIO frame (R3). -/
  | audioFrame (bytes : List Byte)
  /-- As `audioFrame`, for a valid REQUEST frame (R167). -/
  | requestFrame (bytes : List Byte)
  /-- As `audioFrame`, for a frame that ends bad (R179, R180). -/
  | badFrame (bytes : List Byte)
  /-- `bytes` arrive and then a gap of more than 100 microseconds ends the frame they left unfinished (R179). -/
  | byteGapTimeout (bytes : List Byte)
  /-- The supervision timer expires (R181). `liveFirst` says whether live control deals with the loss before the
  announcement controller's path-free report (R129 allows both). -/
  | supervisionTimerExpiry (liveFirst : Bool)
  /-- The frame timer expires (R2). `reportFirst` says whether the REPORT frame is built before the frame-start
  work (R174, R178). The turn's choice, `chimeFirst`, says whether a chime's end reaches the announcement controller
  before the mix engine reads the path (R43); the event that asks its SEGMENT question is the handover, which may
  report a retry (R14, R127). -/
  | frameStart (reportFirst : Bool) (turn : EventTurn)
  | unknownKind
  | tableWriteUnknownTable
  | tableWriteLanguage
  | tableWriteSeat
  | tableWriteZone
  | tableWriteVolumeCurve
  | tableWriteMix
  | tableWriteNoiseBands
  | tableWriteClass
  | tableWriteChime
  | tableWriteSeatLine
  | tableWriteSenseChannel
  | tableWriteLimit
  | tableWriteCue
  | tableWriteScene
  | tableWriteLighting
  | tableRead
  | routeStart
  | routeHold
  | routeResume
  | routeStop
  | positionFix
  | announce
  | cancelByTicket
  | cancelByClass
  | liveOn
  | liveOff
  | sceneForce
  | senseStart
  | senseStop
  | limitClear
  | statusRead
  | reset
  /-- A low-to-high transition of the odometer input (R103). The turn's choice, `counted`, says whether an ODO
  conversion that is in flight takes this edge as well (R85, R89): false for an edge that falls with the gate's own
  tick, or that is given to the sense unit by a command of its own. -/
  | odometerEdge (turn : EventTurn)
  | startDelayExpiry
  /-- The first input edge of the INPUT-GATE conversion in flight (R90). -/
  | inputGateOpen
  /-- The REF-GATE conversion's gate closes (R89). The turn's choice, `cuesFirst`, says whether a cue's announcement
  request reaches the queue before a limit's from the same result (R96 allows both). -/
  | refGateClose (turn : EventTurn)
  /-- The N-th input edge closes the INPUT-GATE conversion (R90). `ticks` is the number of reference ticks that
  passed while the gate was open and that no idle step of the model has counted. -/
  | inputGateClose (ticks : Nat) (turn : EventTurn)
  | waitLimitTimeout (turn : EventTurn)
  | resultStale (channel : SenseChan)
  | pollRoundBegin (line : Fin 4)
  | roundTimerExpiry (line : Fin 4)
  | answerWindowExpiry (line : Fin 4)
  /-- A STATUS answer of the given characters ends (R61). -/
  | statusTransactionEnd (line : Fin 4) (answer : List LineChar)
  /-- An IDENT answer of the given characters ends (R62). -/
  | identTransactionEnd (line : Fin 4) (answer : List LineChar)
  | displayTransactionEnd (line : Fin 4)
  | echo (line : Fin 4)
  /-- The control pair has been low for 250 microseconds; `sending` says whether the controller was sending
  (R78). -/
  | controlPairLow (line : Fin 4) (sending : Bool)
  | wakePulse (line : Fin 4)
  | quietTimerExpiry (line : Fin 4)
  | startTimerExpiry
  | maximumDurationExpiry
  | fadeStep (lamp : Fin 8)
  | flashHalfExpiry (lamp : Fin 8)
  /-- An input edge on a sense input (R85). -/
  | senseInputEdge (channel : SenseChan)
  deriving DecidableEq, Repr

end Sys2Proof
end

