-- ==== Sys2Proof/WellFormed.lean ====
section
/-! DEFINITION. Which commands are well formed: the operands a coach can bring about. The meanings are total and
do not read this check; it says which commands the environment may send. -/

namespace Sys2Proof

/-- The well-formedness checks of a command: what arrives at one frame event is no longer than the longest inbound
frame (R179); an answer that ends has at least one character, since without one the answer window expires (R61); the
ticks of an INPUT-GATE conversion fit its 24-bit counter (R89, R90). -/
def Instr.wellFormed : Instr → Bool
  | .audioFrame bytes | .requestFrame bytes | .badFrame bytes | .byteGapTimeout bytes =>
      decide (bytes.length ≤ Config.inboundFrameLimit)
  | .statusTransactionEnd _ answer | .identTransactionEnd _ answer => !answer.isEmpty
  | .inputGateClose ticks _ => decide (ticks ≤ Config.counterMax)
  | _ => true

end Sys2Proof
end

