-- ==== Sys2Proof/Decode.lean ====
section
/-! DEFINITION. The command that a word spells by the bits of spec/opcode_table.json. No row of the table gives
bits (spec/98_reader.md: no row has fixed bits or fields), so no word spells a command. -/

namespace Sys2Proof

/-- The command of a word of `nbits` bits: none, for the table gives no row any bits. -/
def decodeTableWord (nbits w : Nat) : Option Instr :=
  match nbits, w with
  | _, _ => none

end Sys2Proof
end

