-- ==== Sys2Proof/Machine/Types.lean ====
section
/-! DEFINITION. The data of every block of the TC-96 as the chapters of spec/ give it: plain data, one type per
record or set of names. The order of the constructors of a named set is the order of the owning table, which
R182 numbers from 0. -/

namespace Sys2Proof.Machine

/-! ### Link interface (R179 to R181) -/

inductive LinkState where
  | wait | up | lost
  deriving DecidableEq, Repr

/-- The link interface. `supervision` is the time left in parts of 1/32768 ms, none while the timer is stopped;
`received` holds the inbound bytes the frame checker has not yet disposed of. `ended` holds, oldest first, the bytes
that gaps have ended while frames in them were still to be disposed of: they are hunted before `received`, and no frame
in them goes on with the bytes behind the gap (R179). -/
structure Link where
  state : LinkState
  supervision : Option Nat
  ended : List (List Byte)
  received : List Byte
  deriving DecidableEq, Repr

/-! ### Playout buffer (R1 to R16) -/

inductive PlayoutState where
  | filling | playing
  deriving DecidableEq, Repr

/-- What a kept announcement block holds beyond its samples (R1). -/
structure AnnMark where
  ticket : Nat
  endMark : Bool
  deriving DecidableEq, Repr

/-- A kept channel block (R1); `mark` is present on tag 31 only. -/
structure KeptBlock where
  tag : Nat
  samples : List Int
  mark : Option AnnMark
  deriving DecidableEq, Repr

/-- One entry of the playout queue (R1). -/
structure QueuedFrame where
  sequence : BitVec 16
  segment : Nat
  kept : List KeptBlock
  deriving DecidableEq, Repr

/-- The playout buffer (R1) with the free-running frame timer (R2), in ms left, the part of the present one being
the state's clock phase. -/
structure Playout where
  queue : List QueuedFrame
  state : PlayoutState
  lastSequence : Option (BitVec 16)
  segmentCopy : Nat
  frameTimer : Nat
  deriving DecidableEq, Repr

/-! ### Seat record store (R17 to R34) -/

/-- One entry of the language map (R17). -/
structure LangEntry where
  enabled : Bool
  tag : Nat
  code1 : Nat
  code2 : Nat
  liveEligible : Bool
  isDefault : Bool
  deriving DecidableEq, Repr

/-- One seat record (R21); `language` none is NONE, `jack` true is PRESENT, `fitted` false is UNFITTED. -/
structure Seat where
  zone : Nat
  language : Option Nat
  volume : Nat
  jack : Bool
  fitted : Bool
  lastLanguage : BitVec 4
  lastUp : BitVec 4
  lastDown : BitVec 4
  deriving DecidableEq, Repr

/-- The fields a SEAT write gives one seat (R22). -/
structure SeatWrite where
  zone : Nat
  language : Option Nat
  volume : Nat
  deriving DecidableEq, Repr

/-- A write held by the seat record store for the next frame start (R20, R23). -/
inductive HeldSeatWrite where
  | language (first : Nat) (records : List LangEntry)
  | seat (first : Nat) (records : List SeatWrite)
  deriving DecidableEq, Repr

structure SeatStore where
  map : List LangEntry
  seats : List Seat
  held : List HeldSeatWrite
  deriving DecidableEq, Repr

/-! ### Mix engine (R35 to R55) -/

/-- The mix parameters (R37). -/
structure MixParams where
  duckDepth : Nat
  attack : Nat
  release : Nat
  defaultStep : Nat
  noiseSlew : Nat
  deriving DecidableEq, Repr

/-- One class record (R38). -/
structure ClassRec where
  floor : Int
  trim : Int
  chime : Option Nat
  chimeTrim : Int
  maxSeconds : Nat
  muteOverride : Bool
  deriving DecidableEq, Repr

inductive NoiseSource where
  | nfwd | naft
  deriving DecidableEq, Repr

/-- One zone record (R39); `clip` true is SET. -/
structure Zone where
  source : Option NoiseSource
  offset : Nat
  target : Nat
  slew : Nat
  duck : Int
  clip : Bool
  clipNotice : Bool
  deriving DecidableEq, Repr

/-- The fields a ZONE write gives one zone (R39). -/
structure ZoneWrite where
  source : Option NoiseSource
  clipNotice : Bool
  deriving DecidableEq, Repr

/-- One noise band (R40). -/
structure Band where
  threshold : Nat
  offset : Nat
  deriving DecidableEq, Repr

/-- One tone: frequency in Hz, 0 for a rest, and duration in ms (R52). -/
structure Tone where
  frequency : Nat
  duration : Nat
  deriving DecidableEq, Repr

/-- One chime: the tone count and its four tone slots (R52). -/
structure Chime where
  count : Nat
  tones : List Tone
  deriving DecidableEq, Repr

/-- A write held by the mix engine for the next frame start (R44). -/
inductive HeldMixWrite where
  | volumeCurve (first : Nat) (records : List Int)
  | mix (record : MixParams)
  | cls (first : Nat) (records : List ClassRec)
  | zone (first : Nat) (records : List ZoneWrite)
  | noiseBands (first : Nat) (records : List Band)
  | chime (first : Nat) (records : List Chime)
  deriving DecidableEq, Repr

/-- What a chime sequence is played for (R54): an announcement entry, by its ticket, or a chime-only clearance
(ticket none), with the entry's zone mask; or a seat beep at a box. -/
inductive ChimeUse where
  | announcement (ticket : Option Nat) (mask : ZoneMask)
  | beep (line box : Nat)
  deriving DecidableEq, Repr

/-- A sequence the chime generator plays (R54): the present tone is the first of `tones`, and `left` of its
samples are still to be played. `tones` is empty once the last sample has been played. -/
structure Sequence where
  use : ChimeUse
  tones : List Tone
  left : Nat
  phase : BitVec 16
  deriving DecidableEq, Repr

/-- The mix engine; `generator` none is IDLE. -/
structure MixEngine where
  curve : List Int
  params : MixParams
  classes : List ClassRec
  zones : List Zone
  bands : List Band
  chimes : List Chime
  generator : Option Sequence
  held : List HeldMixWrite
  deriving DecidableEq, Repr

/-! ### Seat lines (R56 to R82) -/

inductive LineState where
  | awake | sleeping
  deriving DecidableEq, Repr

inductive BoxState where
  | absent | active | suspect | isolated
  deriving DecidableEq, Repr

inductive CheckMode where
  | short | full
  deriving DecidableEq, Repr

inductive TxKind where
  | status | display | ident
  deriving DecidableEq, Repr

/-- The four failures of a transaction (R64). -/
inductive LineFailure where
  | noResponse | check | framing | echo
  deriving DecidableEq, Repr

/-- One box record (R58). -/
structure Box where
  state : BoxState
  faultCount : Nat
  seatCount : Option Nat
  displayPending : Bool
  rounds : Nat
  baselinePending : Bool
  lastStop : BitVec 4
  boxFault : Bool
  lamp : Bool
  icon : Bool
  model : Byte
  firmware : Byte
  serial : List Byte
  deriving DecidableEq, Repr

/-- The transaction in flight on a line (section 4.3): the box, the kind, the check mode it began with (R57), the
box's state at the beginning of its turn (R66), the characters the controller sends, and whether the pair has
been held low since it began (R78). -/
structure Transaction where
  box : Nat
  kind : TxKind
  mode : CheckMode
  turnState : BoxState
  sent : List LineBits
  low : Bool
  deriving DecidableEq, Repr

/-- One line controller (R56). `quiet` is the quiet timer's time left in parts of 1/32768 ms, none while stopped.
`roundNext` is the next address of the present round, 12 when all have been served; `roundLeft` is what is left
of the round's minimum length in the same parts. `slots` holds, for each of the line's 24 seats, the samples sent in the
present frame (R79). `pairLow` holds that the pair has not yet returned high after the wake pulse that woke the
line, so that the first header of the new round still waits (R76). -/
structure Line where
  state : LineState
  sleepPending : Bool
  quiet : Option Nat
  roundNext : Nat
  roundLeft : Nat
  transaction : Option Transaction
  pairLow : Bool
  mode : CheckMode
  sleepEnable : Bool
  noResponses : Nat
  checkFailures : Nat
  framingFailures : Nat
  echoFailures : Nat
  boxes : List Box
  slots : List (List Int)
  deriving DecidableEq, Repr

/-- The line record a SEAT-LINE write gives (R57). -/
structure LineWrite where
  mode : CheckMode
  sleepEnable : Bool
  deriving DecidableEq, Repr

/-- The four line controllers and the SEAT-LINE writes held for the next frame start, each with its first index. -/
structure SeatLines where
  lines : List Line
  held : List (Nat × List LineWrite)
  deriving DecidableEq, Repr

/-! ### Sense unit (R83 to R101) -/

inductive GateMode where
  | refGate | inputGate
  deriving DecidableEq, Repr

/-- One channel record (R83). -/
structure SenseRec where
  enabled : Bool
  gateMode : GateMode
  gateLength : Nat
  edgeCount : Nat
  waitLimit : Nat
  averaging : Nat
  staleness : Nat
  pulse : Nat
  deriving DecidableEq, Repr

/-- One result record (R93). `age` is in parts of 1/32768 ms (notes/assumptions/3.md). -/
structure ResultRec where
  present : Bool
  value : Nat
  valid : Bool
  timedOut : Bool
  math : Bool
  age : Nat
  avgPresent : Bool
  avgValue : Nat
  avgValid : Bool
  blockCount : Nat
  blockSum : Nat
  /-- Whether a result of the present block was invalid (R94: an invalid result makes the block invalid; DESIGN CHOICE,
  notes/assumptions/2.md). -/
  blockInvalid : Bool
  deriving DecidableEq, Repr

/-- A reference record of LUX (R92): for REF-GATE the count and the gate length, for INPUT-GATE the period count
and the tick count. -/
inductive RefRecord where
  | empty
  | counts (first second : Nat)
  | zero
  deriving DecidableEq, Repr

/-- The conversion in flight: its channel, the settings it began with (R84), and its counters (R89, R90). -/
structure Conversion where
  channel : SenseChan
  settings : SenseRec
  gateOpen : Bool
  edges : Nat
  ticks : Nat
  waited : Nat
  deriving DecidableEq, Repr

/-- The four scan states (R86): DELAY holds the start delay's time left, in parts of
1/32768 ms (notes/assumptions/3.md), CONVERTING the conversion. -/
inductive Scan where
  | idle
  | delay (left : Nat)
  | converting (conversion : Conversion)
  | scanWait
  deriving DecidableEq, Repr

inductive ScanMode where
  | single | continuous
  deriving DecidableEq, Repr

inductive AnnClass where
  | clearance | safety | stop | service
  deriving DecidableEq, Repr

inductive LimitSource where
  | raw | avg
  deriving DecidableEq, Repr

inductive LimitDirection where
  | over | under
  deriving DecidableEq, Repr

inductive LimitMode where
  | latched | transparent
  deriving DecidableEq, Repr

inductive LimitAction where
  | nothing
  | baseScene (scene : Nat)
  | announce (clip : Nat) (cls : AnnClass) (mask : ZoneMask)
  deriving DecidableEq, Repr

/-- One limit (R97). -/
structure Limit where
  inUse : Bool
  channel : Nat
  source : LimitSource
  direction : LimitDirection
  threshold : Nat
  hysteresis : Nat
  mode : LimitMode
  action : LimitAction
  tripped : Bool
  deriving DecidableEq, Repr

/-- The sense unit; `selection` is the base scene selection last reported, none for DEFAULT (R99). -/
structure Sense where
  channels : List SenseRec
  results : List ResultRec
  refGateRecord : RefRecord
  inputGateRecord : RefRecord
  scan : Scan
  mode : ScanMode
  limits : List Limit
  selection : Option Nat
  deriving DecidableEq, Repr

/-! ### Route engine (R102 to R123) -/

inductive RouteState where
  | stopped | running | held
  deriving DecidableEq, Repr

inductive CueState where
  | armed | pending | deferred | fired | skipped
  deriving DecidableEq, Repr

inductive CueKind where
  | segment | stopApproach | stopArrival | clearance | scene | notice
  deriving DecidableEq, Repr

/-- The nine predicates of R110. -/
inductive Predicate where
  | always | lt | le | gt | ge | ult | ule | ugt | uge
  deriving DecidableEq, Repr

/-- One cue (R108). The fields are the numbers the CUE record carries, for a field that is not checked is stored
as given (R109): `kind`, `predicate`, `repeatable` and `preempt` are codes, `scene` 255 is RELEASE and
`conditionChannel` 255 is an absent condition (R182). -/
structure Cue where
  inUse : Bool
  trigger : Nat
  window : Nat
  kind : Nat
  conditionChannel : Nat
  predicate : Nat
  threshold : Nat
  segment : Nat
  clip : Nat
  mask : ZoneMask
  scene : Nat
  stop : Nat
  repeatable : Nat
  preempt : Nat
  state : CueState
  deriving DecidableEq, Repr

/-- The requested stop: its number and its STOP-ARRIVAL cue (R102). -/
structure StopRequest where
  stop : Nat
  cue : Nat
  deriving DecidableEq, Repr

structure Route where
  distance : BitVec 40
  state : RouteState
  cursor : Nat
  openCues : List Nat
  requested : Option StopRequest
  cues : List Cue
  deriving DecidableEq, Repr

inductive SkipReason where
  | window | overflow
  deriving DecidableEq, Repr

inductive StopClearCause where
  | route | skipped
  deriving DecidableEq, Repr

/-! ### Segment and live control (R124 to R133) -/

inductive LiveState where
  | off | requested | on
  deriving DecidableEq, Repr

structure Segment where
  requested : Nat
  count : BitVec 8
  live : LiveState
  liveMask : LanguageMask
  heldMask : LanguageMask
  deriving DecidableEq, Repr

/-! ### Announcement controller (R134 to R153) -/

inductive EntryState where
  | waiting | startingChime | startingClip | playing | chimeOnly
  deriving DecidableEq, Repr

inductive Origin where
  | cue (index : Nat)
  | limit (index : Nat)
  | headUnit
  deriving DecidableEq, Repr

/-- One entry of the announcement queue (R135). -/
structure Entry where
  cls : AnnClass
  clip : Nat
  mask : ZoneMask
  origin : Origin
  scene : Option Nat
  state : EntryState
  ticket : Option Nat
  arrival : Nat
  chime : Option Nat
  maxSeconds : Nat
  deriving DecidableEq, Repr

/-- The announcement controller (R134): the entry on the path, if any, the WAITING entries in rank order, the last
ticket issued, the two timers in parts of 1/32768 ms left (none while stopped), and the next arrival order. The path
state is the path entry's state, IDLE while there is none. -/
structure Announcer where
  path : Option Entry
  waiting : List Entry
  tickets : Nat
  startTimer : Option Nat
  durationTimer : Option Nat
  nextArrival : Nat
  deriving DecidableEq, Repr

inductive EndReason where
  | endMark | timeout
  deriving DecidableEq, Repr

inductive FailReason where
  | noStart | link
  deriving DecidableEq, Repr

/-! ### Lighting controller (R154 to R166) -/

inductive Pattern where
  | steady | flash
  deriving DecidableEq, Repr

/-- One part of a scene (R154). -/
structure ScenePart where
  claim : Bool
  target : Nat
  pattern : Pattern
  period : Nat
  fade : Nat
  deriving DecidableEq, Repr

/-- The lighting parameters (R156). -/
structure LightParams where
  baseScene : Nat
  indicatorChannel : Option Nat
  indicatorLevel : Nat
  beepChime : Nat
  deriving DecidableEq, Repr

/-- The five layers in rank order (R157). -/
inductive Layer where
  | alert | indicator | force | cue | base
  deriving DecidableEq, Repr

/-- A lamp channel's governing setting (R159). -/
structure Setting where
  layer : Option Layer
  scene : Option Nat
  target : Nat
  pattern : Pattern
  period : Nat
  fade : Nat
  deriving DecidableEq, Repr

/-- The transition states (R160): FADING holds the start level, the step count, the steps taken and the ms to the
next step; a flashing state the ms left in its half. -/
inductive Transition where
  | fading (start steps taken next : Nat)
  | steady
  | flashOn (left : Nat)
  | flashOff (left : Nat)
  deriving DecidableEq, Repr

/-- A lamp channel as it stood before the first change of the present moment (R166; the model's own record, DESIGN
CHOICE, notes/assumptions/25.md). -/
structure LampStart where
  level : Nat
  setting : Setting
  transition : Transition
  phase : Nat
  deriving DecidableEq, Repr

/-- One lamp channel (R160). `phase` is the part of a millisecond, in 1/32768 ms, that has passed on the channel's own
time, which its transition started at 0, so that no two channels are tied to each other (R161 to R163). `began` is the
channel as it stood before the changes of the present moment, where they have begun a transition; none once time has
passed or a step or a half has moved the level: the changes of one moment start from one level and have one outcome in
any order (R166; DESIGN CHOICE, notes/assumptions/25.md). -/
structure Lamp where
  level : Nat
  setting : Setting
  transition : Transition
  phase : Nat
  began : Option LampStart
  deriving DecidableEq, Repr

/-- The lighting controller; the layers hold what R157 gives (`base` none is DEFAULT). -/
structure Lighting where
  scenes : List (List ScenePart)
  params : LightParams
  alert : Option Nat
  indicator : Bool
  force : Option Nat
  cue : Option Nat
  base : Option Nat
  lamps : List Lamp
  deriving DecidableEq, Repr

/-! ### Management unit (R167 to R178) -/

/-- A request as it stands in the request queue (R167). -/
structure Request where
  tag : Byte
  kind : Byte
  params : List Byte
  deriving DecidableEq, Repr

/-- The reply codes in the order of R184. -/
inductive ReplyCode where
  | done | deferred | queueFull | unknownKind | badTable | badIndex | badField | badOrder | routeActive
  | routeState | notFound
  deriving DecidableEq, Repr

/-- A reply item (R168). -/
structure Reply where
  tag : Byte
  kind : Byte
  code : ReplyCode
  data : List Byte
  deriving DecidableEq, Repr

/-- The notices in the order of the notice table (R173). -/
inductive Notice where
  | zoneClip (zone : Nat)
  | boxState (line box : Nat) (state : BoxState) (faultCount : Nat)
  | boxFault (line box : Nat) (value : Bool)
  | limitTripped (limit value : Nat)
  | limitCleared (limit : Nat)
  | distanceOverflow
  | cueFired (cue kind position : Nat)
  | cueSkipped (cue : Nat) (reason : SkipReason) (position : Nat)
  | stopRequested (stop cue line box : Nat)
  | stopReached (stop : Nat)
  | stopCleared (stop : Nat) (cause : StopClearCause)
  | liveGranted (mask : LanguageMask)
  | liveEnded
  | announceDisplaced (cls : AnnClass) (clip : Nat) (origin : Origin)
  | announceDropped (cls : AnnClass) (clip : Nat) (origin : Origin)
  | clipCancel (ticket : Nat)
  | clipEnded (ticket clip : Nat) (cls : AnnClass) (reason : EndReason)
  | clipFailed (ticket clip : Nat) (cls : AnnClass) (reason : FailReason)
  | linkRestored
  deriving DecidableEq, Repr

/-- The management unit: request queue, reply list, notice queue and notices-lost flag. -/
structure Management where
  requests : List Request
  replies : List Reply
  notices : List Notice
  noticesLost : Bool
  deriving DecidableEq, Repr

end Sys2Proof.Machine
end

