-- ==== Sys2Proof/Machine/ResetValues.lean ====
section
/-! DEFINITION. The value of every block after power-on reset, as its chapter's table gives it. A RESET request
gives each block but the link interface the same values (R176). -/

namespace Sys2Proof.Machine

/-- The link after power-on reset: WAIT, timer stopped, nothing received (R177, section 11.2). -/
def linkReset : Link := { state := .wait, supervision := none, ended := [], received := [] }

/-- The playout buffer after either reset (R1), the frame timer just started (R2, R177; DESIGN CHOICE,
notes/assumptions/7.md). -/
def playoutReset : Playout :=
  { queue := [], state := .filling, lastSequence := none, segmentCopy := 0, frameTimer := Config.framePeriod }

/-- Language entry `i` after either reset (R17). -/
def langEntryReset (i : Nat) : LangEntry :=
  { enabled := false, tag := i, code1 := 0x20, code2 := 0x20, liveEligible := false, isDefault := false }

/-- The zone of a line's seats after either reset (R22). -/
def zoneOfLine : Nat → Nat
  | 0 => 0
  | 1 => 1
  | _ => 2

/-- Seat `n` after either reset (R21, R22). -/
def seatReset (n : Nat) : Seat :=
  { zone := zoneOfLine (n / 24), language := none, volume := 8, jack := false, fitted := true,
    lastLanguage := 0, lastUp := 0, lastDown := 0 }

def seatStoreReset : SeatStore :=
  { map := (List.range 12).map langEntryReset, seats := (List.range 96).map seatReset, held := [] }

/-- The mix parameters after either reset (R37). -/
def mixParamsReset : MixParams :=
  { duckDepth := 40, attack := 4, release := 1, defaultStep := 8, noiseSlew := 25 }

/-- The class table after either reset (R38). -/
def classesReset : List ClassRec :=
  [ { floor := 0, trim := 12, chime := some 0, chimeTrim := 6, maxSeconds := 20, muteOverride := true },
    { floor := -8, trim := 6, chime := some 1, chimeTrim := 0, maxSeconds := 60, muteOverride := true },
    { floor := -16, trim := 4, chime := some 2, chimeTrim := 0, maxSeconds := 30, muteOverride := false },
    { floor := -24, trim := 0, chime := none, chimeTrim := 0, maxSeconds := 60, muteOverride := false } ]

/-- A zone record after either reset with noise source `source` (R39). -/
def zoneReset (source : Option NoiseSource) : Zone :=
  { source := source, offset := 0, target := 0, slew := 0, duck := 0, clip := false, clipNotice := true }

/-- The noise band table after either reset (R40). -/
def bandsReset : List Band :=
  [ ⟨500, 0⟩, ⟨1000, 0⟩, ⟨1500, 2⟩, ⟨2000, 4⟩, ⟨2500, 6⟩, ⟨3000, 8⟩, ⟨3500, 10⟩, ⟨4000, 12⟩ ]

/-- The chime table after either reset (R52). -/
def chimesReset : List Chime :=
  [ ⟨4, [⟨1000, 150⟩, ⟨0, 50⟩, ⟨1000, 150⟩, ⟨0, 50⟩]⟩,
    ⟨2, [⟨880, 300⟩, ⟨660, 300⟩, ⟨0, 10⟩, ⟨0, 10⟩]⟩,
    ⟨3, [⟨523, 200⟩, ⟨659, 200⟩, ⟨784, 300⟩, ⟨0, 10⟩]⟩,
    ⟨1, [⟨1200, 80⟩, ⟨0, 10⟩, ⟨0, 10⟩, ⟨0, 10⟩]⟩ ]

/-- The mix engine after either reset (R36 to R40, R52, R54). -/
def mixReset : MixEngine :=
  { curve := (List.range 16).map fun k => 4 * (k : Int) - 48
    params := mixParamsReset
    classes := classesReset
    zones := [zoneReset (some .nfwd), zoneReset (some .naft), zoneReset none, zoneReset none]
    bands := bandsReset
    chimes := chimesReset
    generator := none
    held := [] }

/-- A box record after either reset (R58). -/
def boxReset : Box :=
  { state := .absent, faultCount := 0, seatCount := none, displayPending := false, rounds := 15,
    baselinePending := false, lastStop := 0, boxFault := false, lamp := false, icon := false, model := 0,
    firmware := 0, serial := [0x20, 0x20, 0x20] }

/-- A line's audio slots when it sends 0 in every slot (R80, R81). -/
def silentSlots : List (List Int) := List.replicate 24 (List.replicate Config.frameSamples 0)

/-- A line controller after either reset (R56, R81). -/
def lineReset : Line :=
  { state := .awake, sleepPending := false, quiet := some Config.quietTime, roundNext := 0,
    roundLeft := Config.roundTime, transaction := none, pairLow := false, mode := .full, sleepEnable := true,
    noResponses := 0, checkFailures := 0, framingFailures := 0, echoFailures := 0, boxes := List.replicate 12 boxReset,
    slots := silentSlots }

def seatLinesReset : SeatLines := { lines := List.replicate 4 lineReset, held := [] }

/-- The channel records after either reset, in channel order (R83). -/
def channelsReset : List SenseRec :=
  [ { enabled := false, gateMode := .inputGate, gateLength := 16384, edgeCount := 4, waitLimit := 32768,
      averaging := 1, staleness := 2000, pulse := 1000 },
    { enabled := false, gateMode := .refGate, gateLength := 32768, edgeCount := 16, waitLimit := 65535,
      averaging := 4, staleness := 5000, pulse := 0 },
    { enabled := false, gateMode := .refGate, gateLength := 32768, edgeCount := 16, waitLimit := 65535,
      averaging := 1, staleness := 5000, pulse := 0 },
    { enabled := false, gateMode := .refGate, gateLength := 8192, edgeCount := 16, waitLimit := 16384,
      averaging := 8, staleness := 1000, pulse := 0 },
    { enabled := false, gateMode := .refGate, gateLength := 8192, edgeCount := 16, waitLimit := 16384,
      averaging := 8, staleness := 1000, pulse := 0 } ]

/-- A cleared result record (R93). The values it holds while no result is present are the model's: 0 and VALID
(DESIGN CHOICE, notes/assumptions/19.md). -/
def resultCleared : ResultRec :=
  { present := false, value := 0, valid := true, timedOut := false, math := false, age := 0,
    avgPresent := false, avgValue := 0, avgValid := true, blockCount := 0, blockSum := 0, blockInvalid := false }

/-- A limit after either reset (R97). -/
def limitReset : Limit :=
  { inUse := false, channel := 0, source := .raw, direction := .over, threshold := 65535, hysteresis := 0,
    mode := .transparent, action := .nothing, tripped := false }

/-- The sense unit after either reset (R83, R86, R92, R93, R97, R101). -/
def senseReset : Sense :=
  { channels := channelsReset, results := List.replicate 5 resultCleared, refGateRecord := .empty,
    inputGateRecord := .empty, scan := .idle, mode := .single, limits := List.replicate 8 limitReset,
    selection := none }

/-- A cue after either reset (R108). The codes 5, 255 and 1 are NOTICE, an absent condition and RELEASE, and NO
(R182). -/
def cueReset : Cue :=
  { inUse := false, trigger := 0, window := 0, kind := 5, conditionChannel := 255, predicate := 0, threshold := 0,
    segment := 0, clip := 0, mask := 0, scene := 255, stop := 0, repeatable := 1, preempt := 1, state := .armed }

/-- The route engine after either reset (R102). -/
def routeReset : Route :=
  { distance := 0, state := .stopped, cursor := 0, openCues := [], requested := none,
    cues := List.replicate Config.cueEntries cueReset }

/-- Segment and live control after either reset (R124). -/
def segmentReset : Segment := { requested := 0, count := 0, live := .off, liveMask := 0, heldMask := 0 }

/-- The announcement controller after either reset (R134). -/
def announcerReset : Announcer :=
  { path := none, waiting := [], tickets := 0, startTimer := none, durationTimer := none, nextArrival := 0 }

/-- A scene part after either reset (R154). -/
def scenePartReset : ScenePart := { claim := false, target := 0, pattern := .steady, period := 1000, fade := 0 }

/-- The setting of a channel that no layer claims (R159). R159 gives it no period: the model holds 0 (DESIGN CHOICE,
notes/assumptions/28.md). -/
def unclaimedSetting : Setting :=
  { layer := none, scene := none, target := 0, pattern := .steady, period := 0, fade := 0 }

/-- The lighting controller after either reset (R154, R156, R157, R165). -/
def lightingReset : Lighting :=
  { scenes := List.replicate 16 (List.replicate 8 scenePartReset)
    params := { baseScene := 0, indicatorChannel := none, indicatorLevel := 1000, beepChime := 3 }
    alert := none
    indicator := false
    force := none
    cue := none
    base := none
    lamps := List.replicate 8 { level := 0, setting := unclaimedSetting, transition := .steady, phase := 0,
                                 began := none } }

/-- The management unit after power-on reset (R177). -/
def managementReset : Management := { requests := [], replies := [], notices := [], noticesLost := false }

end Sys2Proof.Machine
end

