-- ==== Sys2Proof/Machine/State.lean ====
section
/-! DEFINITION. The state of the TC-96: the eleven blocks of spec/00_scope.md section 3.1, each with the state it
owns, the last REPORT frame sent, the phase of the reference clock against the millisecond, and the queue of
waiting commands. Plain data throughout. -/

namespace Sys2Proof.Machine

/-- The whole device. -/
structure State where
  link : Link
  playout : Playout
  seats : SeatStore
  mix : MixEngine
  lines : SeatLines
  sense : Sense
  route : Route
  segment : Segment
  announce : Announcer
  lighting : Lighting
  manage : Management
  /-- The bytes of the last REPORT frame sent on the coach link; none before the first (DESIGN CHOICE,
  notes/assumptions/2.md). -/
  report : Option (List Byte)
  /-- The part of the present millisecond that has passed, in units of 1/32768 ms (DESIGN CHOICE,
  notes/assumptions/3.md). -/
  clockPhase : Nat
  /-- The commands that wait, first in, first out (DESIGN CHOICE, notes/assumptions/1.md). -/
  pending : List Instr
  deriving DecidableEq, Repr

/-- Why the machine stops with a fault. The manual gives the device no state in which it stops, so no meaning of
this model raises one: the one constructor is never used. -/
inductive Fault where
  /-- Raised by nothing; safe, since a fault only stops the model. -/
  | unreachable
  deriving DecidableEq, Repr

/-- Why a command has no meaning. -/
inductive Refusal where
  /-- Raised by the dispatcher alone for a command without a meaning; safe, since a refusal only stops the model.
  Every command has its meaning, so no arm uses it. -/
  | notModelled (mnemonic : String)
  deriving DecidableEq, Repr

/-- The device right after power-on reset (R177), no command waiting. -/
def State.reset : State where
  link := linkReset
  playout := playoutReset
  seats := seatStoreReset
  mix := mixReset
  lines := seatLinesReset
  sense := senseReset
  route := routeReset
  segment := segmentReset
  announce := announcerReset
  lighting := lightingReset
  manage := managementReset
  report := none
  clockPhase := 0
  pending := []

end Sys2Proof.Machine
end

