-- ==== Sys2Proof/Machine/Codes.lean ====
section
/-! DEFINITION. The numbers of the named sets (R182: one byte, numbered from 0 in the order the owning table lists
the set; NONE, absent, none and RELEASE are the all-ones value). -/

namespace Sys2Proof.Machine

/-- YES and NO, SET and CLEAR, PRESENT and ABSENT, ON and OFF, VALID and INVALID, YES and UNFITTED: the first
listed is 0. -/
def flagCode (b : Bool) : Nat := if b then 0 else 1

/-- A flag from its code. -/
def flagOf : Nat → Option Bool
  | 0 => some true
  | 1 => some false
  | _ => none

/-- A one-byte field that may be NONE. -/
def optCode : Option Nat → Nat
  | some n => n
  | none => 255

/-- A one-byte field with members 0..`top` and NONE. -/
def optOf (top n : Nat) : Option (Option Nat) :=
  if n = 255 then some none else if n ≤ top then some (some n) else none

def AnnClass.code : AnnClass → Nat
  | .clearance => 0 | .safety => 1 | .stop => 2 | .service => 3

def AnnClass.ofCode : Nat → Option AnnClass
  | 0 => some .clearance | 1 => some .safety | 2 => some .stop | 3 => some .service | _ => none

/-- The number of a sense channel (spec/00_scope.md 5.3). -/
def chanNumber : SenseChan → Nat
  | .odo => 0 | .lux => 1 | .lref => 2 | .nfwd => 3 | .naft => 4

/-- The channels in number order. -/
def channelsInOrder : List SenseChan := [.odo, .lux, .lref, .nfwd, .naft]

def NoiseSource.code : Option NoiseSource → Nat
  | some .nfwd => 0 | some .naft => 1 | none => 255

def NoiseSource.ofCode : Nat → Option (Option NoiseSource)
  | 0 => some (some .nfwd) | 1 => some (some .naft) | 255 => some none | _ => none

def CheckMode.code : CheckMode → Nat
  | .short => 0 | .full => 1

def CheckMode.ofCode : Nat → Option CheckMode
  | 0 => some .short | 1 => some .full | _ => none

def LineState.code : LineState → Nat
  | .awake => 0 | .sleeping => 1

def BoxState.code : BoxState → Nat
  | .absent => 0 | .active => 1 | .suspect => 2 | .isolated => 3

/-- The kind field of a header character (R59). -/
def TxKind.code : TxKind → Nat
  | .status => 0 | .display => 1 | .ident => 2

def GateMode.code : GateMode → Nat
  | .refGate => 0 | .inputGate => 1

def GateMode.ofCode : Nat → Option GateMode
  | 0 => some .refGate | 1 => some .inputGate | _ => none

def ScanMode.code : ScanMode → Nat
  | .single => 0 | .continuous => 1

def ScanMode.ofCode : Nat → Option ScanMode
  | 0 => some .single | 1 => some .continuous | _ => none

def Scan.code : Scan → Nat
  | .idle => 0 | .delay _ => 1 | .converting _ => 2 | .scanWait => 3

def LimitSource.code : LimitSource → Nat
  | .raw => 0 | .avg => 1

def LimitSource.ofCode : Nat → Option LimitSource
  | 0 => some .raw | 1 => some .avg | _ => none

def LimitDirection.code : LimitDirection → Nat
  | .over => 0 | .under => 1

def LimitDirection.ofCode : Nat → Option LimitDirection
  | 0 => some .over | 1 => some .under | _ => none

def LimitMode.code : LimitMode → Nat
  | .latched => 0 | .transparent => 1

def LimitMode.ofCode : Nat → Option LimitMode
  | 0 => some .latched | 1 => some .transparent | _ => none

def RouteState.code : RouteState → Nat
  | .stopped => 0 | .running => 1 | .held => 2

def CueState.code : CueState → Nat
  | .armed => 0 | .pending => 1 | .deferred => 2 | .fired => 3 | .skipped => 4

def CueKind.ofCode : Nat → Option CueKind
  | 0 => some .segment | 1 => some .stopApproach | 2 => some .stopArrival | 3 => some .clearance
  | 4 => some .scene | 5 => some .notice | _ => none

def Predicate.ofCode : Nat → Option Predicate
  | 0 => some .always | 1 => some .lt | 2 => some .le | 3 => some .gt | 4 => some .ge
  | 5 => some .ult | 6 => some .ule | 7 => some .ugt | 8 => some .uge | _ => none

def SkipReason.code : SkipReason → Nat
  | .window => 0 | .overflow => 1

def StopClearCause.code : StopClearCause → Nat
  | .route => 0 | .skipped => 1

def LiveState.code : LiveState → Nat
  | .off => 0 | .requested => 1 | .on => 2

/-- The state of an entry in the ANNOUNCE-QUEUE view (R135). -/
def EntryState.code : EntryState → Nat
  | .waiting => 0 | .startingChime => 1 | .startingClip => 2 | .playing => 3 | .chimeOnly => 4

/-- The path state of the report header and of the view: IDLE is 0, and the other states are those of the entry on
the path (R134, section 11.5). -/
def pathCode : Option Entry → Nat
  | none => 0
  | some e => e.state.code

def EndReason.code : EndReason → Nat
  | .endMark => 0 | .timeout => 1

def FailReason.code : FailReason → Nat
  | .noStart => 0 | .link => 1

def Pattern.code : Pattern → Nat
  | .steady => 0 | .flash => 1

def Pattern.ofCode : Nat → Option Pattern
  | 0 => some .steady | 1 => some .flash | _ => none

def Layer.code : Layer → Nat
  | .alert => 0 | .indicator => 1 | .force => 2 | .cue => 3 | .base => 4

def Transition.code : Transition → Nat
  | .fading .. => 0 | .steady => 1 | .flashOn _ => 2 | .flashOff _ => 3

/-- The link view of a report: UP 0, LOST 1 (section 11.5). A link in WAIT sends no report. -/
def LinkState.viewCode : LinkState → Nat
  | .up => 0 | .lost => 1 | .wait => 1

/-- The reply codes of R184. -/
def ReplyCode.code : ReplyCode → Nat
  | .done => 0 | .deferred => 1 | .queueFull => 2 | .unknownKind => 3 | .badTable => 4 | .badIndex => 5
  | .badField => 6 | .badOrder => 7 | .routeActive => 8 | .routeState => 9 | .notFound => 10

end Sys2Proof.Machine
end

