-- ==== Sys2Proof/Machine/Ops.lean ====
section
/-! DEFINITION. The operations the blocks share: bytes and numbers, lists as tables, the CRC of the coach link, the
update of one block of the state, and the queueing of a notice. -/

namespace Sys2Proof.Machine

/-! ### Bytes and numbers (R182: unsigned, high byte first) -/

/-- The number that bytes spell, high byte first. -/
def beNat (bytes : List Byte) : Nat :=
  bytes.foldl (fun n b => n * 256 + b.toNat) 0

/-- `n` as `size` bytes, high byte first. -/
def natBytes : Nat → Nat → List Byte
  | 0, _ => []
  | size + 1, n => natBytes size (n / 256) ++ [BitVec.ofNat 8 n]

/-- A gain code or trim as one byte of two's complement. -/
def intByte (x : Int) : List Byte := [BitVec.ofInt 8 x]

/-- Byte `i` of a list as a number, 0 beyond its end. -/
def byteAt (bytes : List Byte) (i : Nat) : Nat := (bytes.getD i 0).toNat

/-- The two-byte number at `i`. -/
def wordAt (bytes : List Byte) (i : Nat) : Nat := byteAt bytes i * 256 + byteAt bytes (i + 1)

/-- The three-byte number at `i`. -/
def threeAt (bytes : List Byte) (i : Nat) : Nat := wordAt bytes i * 256 + byteAt bytes (i + 2)

/-- The two's-complement byte at `i`. -/
def signedAt (bytes : List Byte) (i : Nat) : Int := (bytes.getD i 0).toInt

/-- A number as a 16-bit two's-complement value. -/
def signed16 (n : Nat) : Int := (BitVec.ofNat 16 n).toInt

/-- Round half up of `num / den` (spec/00_scope.md 5.1). -/
def roundHalfUp (num den : Nat) : Nat := (2 * num + den) / (2 * den)

/-! ### Lists as tables -/

/-- `list` with `records` in place of the entries from `first` on. -/
def writeAt {α : Type} : List α → Nat → List α → List α
  | list, _, [] => list
  | list, first, r :: rs => writeAt (list.set first r) (first + 1) rs

/-- `bytes` cut into `count` records of `size` bytes. -/
def cutRecords (size : Nat) : Nat → List Byte → List (List Byte)
  | 0, _ => []
  | count + 1, bytes => bytes.take size :: cutRecords size count (bytes.drop size)

/-- Every record decoded, or none where one is refused. -/
def decodeAll {α : Type} (decode : List Byte → Option α) : List (List Byte) → Option (List α)
  | [] => some []
  | r :: rs =>
    match decode r, decodeAll decode rs with
    | some x, some xs => some (x :: xs)
    | _, _ => none

/-- The index of the first entry from `i` on for which `p` holds. -/
def findFrom {α : Type} (p : α → Bool) : Nat → List α → Option Nat
  | _, [] => none
  | i, x :: xs => if p x then some i else findFrom p (i + 1) xs

/-- The indices of the entries, counted from `i`, for which `p` holds. -/
def indicesFrom {α : Type} (p : α → Bool) : Nat → List α → List Nat
  | _, [] => []
  | i, x :: xs => if p x then i :: indicesFrom p (i + 1) xs else indicesFrom p (i + 1) xs

/-- A set as a number: the bit of each index whose flag is true. -/
def flagBits : List Bool → Nat
  | [] => 0
  | b :: bs => (if b then 1 else 0) + 2 * flagBits bs

/-- One reference tick taken from a timer that runs, kept at 0. -/
def countDown (timer : Option Nat) : Option Nat := timer.map fun n => n - Config.tickParts

/-! ### The CRC of the coach link (R179) -/

/-- One bit of the register with the polynomial 0x1021. -/
def crcBit (register : BitVec 16) : BitVec 16 :=
  if register.msb then (register <<< 1) ^^^ 0x1021#16 else register <<< 1

/-- One byte entering the register, most significant bit first. -/
def crcByte (register : BitVec 16) (b : Byte) : BitVec 16 :=
  Nat.repeat crcBit 8 (register ^^^ (b.zeroExtend 16 <<< 8))

/-- The register after `bytes`, from 0xFFFF. -/
def crc (bytes : List Byte) : BitVec 16 := bytes.foldl crcByte 0xFFFF#16

/-- A frame of the coach link: sync, kind, length, body and check (section 11.1). -/
def frameBytes (kind : Byte) (body : List Byte) : List Byte :=
  let covered := kind :: natBytes 2 body.length ++ body
  [0xB7#8, 0x4E#8] ++ covered ++ natBytes 2 (crc covered).toNat

/-! ### Notices (R173) -/

/-- A notice joins the notice queue, or is discarded with the notices-lost flag set when 16 are queued (R173). -/
def notify (n : Notice) (s : State) : State :=
  if s.manage.notices.length < Config.noticeDepth then
    { s with manage := { s.manage with notices := s.manage.notices ++ [n] } }
  else
    { s with manage := { s.manage with noticesLost := true } }

/-- Notices queued one after the other. -/
def notifyAll : List Notice → State → State
  | [], s => s
  | n :: ns, s => notifyAll ns (notify n s)

/-! ### Reading the blocks -/

/-- The route position in metres (R102). -/
def position (s : State) : Nat := s.route.distance.toNat / 10000

def cueAt (s : State) (i : Nat) : Cue := s.route.cues.getD i cueReset

/-- Read for no class: the class table has four records. -/
def classFallback : ClassRec :=
  { floor := 0, trim := 0, chime := none, chimeTrim := 0, maxSeconds := 1, muteOverride := false }

/-- The class record in force (R38). -/
def classRecord (s : State) (c : AnnClass) : ClassRec := s.mix.classes.getD c.code classFallback

def channelRecord (s : State) (i : Nat) : Option SenseRec := s.sense.channels[i]?

def resultRecord (s : State) (i : Nat) : ResultRec := s.sense.results.getD i resultCleared

def lineAt (s : State) (l : Nat) : Line := s.lines.lines.getD l lineReset

def boxAt (s : State) (l b : Nat) : Box := (lineAt s l).boxes.getD b boxReset

def seatAt (s : State) (n : Nat) : Seat := s.seats.seats.getD n (seatReset n)

/-- The seat of a line, box and side (spec/00_scope.md 5.3). -/
def seatNumber (line box side : Nat) : Nat := line * 24 + box * 2 + side

/-- Whether a zone lies in a zone mask. -/
def inMask (mask : ZoneMask) (zone : Nat) : Bool := mask.getLsbD zone

/-- The path entry while it is STARTING-CHIME, STARTING-CLIP or PLAYING. -/
def runningEntry (s : State) : Option Entry :=
  match s.announce.path with
  | some e => if e.state = .chimeOnly then none else some e
  | none => none

/-- The mask of a chime-only clearance that the chime generator plays (R42). -/
def chimeOnlyMask (s : State) : Option ZoneMask :=
  match s.mix.generator with
  | some q =>
    match q.use with
    | .announcement none mask => some mask
    | _ => none
  | none => none

/-- Live control reads the path as busy (R128). -/
def pathBusy (s : State) : Bool := (runningEntry s).isSome || (chimeOnlyMask s).isSome

/-- Whether a zone is in the mask of what the path plays: an entry in STARTING-CHIME, STARTING-CLIP or PLAYING, or
a chime-only clearance that the generator plays (R42, R73). -/
def pathCovers (s : State) (zone : Nat) : Bool :=
  (match runningEntry s with
   | some e => inMask e.mask zone
   | none => false) ||
  (match chimeOnlyMask s with
   | some m => inMask m zone
   | none => false)

/-! ### Updating one table entry of a block -/

def setCue (i : Nat) (f : Cue → Cue) (s : State) : State :=
  { s with route := { s.route with cues := s.route.cues.modify i f } }

def setLine (l : Nat) (f : Line → Line) (s : State) : State :=
  { s with lines := { s.lines with lines := s.lines.lines.modify l f } }

def setBox (l b : Nat) (f : Box → Box) (s : State) : State :=
  setLine l (fun line => { line with boxes := line.boxes.modify b f }) s

def setSeat (n : Nat) (f : Seat → Seat) (s : State) : State :=
  { s with seats := { s.seats with seats := s.seats.seats.modify n f } }

def setZone (z : Nat) (f : Zone → Zone) (s : State) : State :=
  { s with mix := { s.mix with zones := s.mix.zones.modify z f } }

def setResult (c : Nat) (f : ResultRec → ResultRec) (s : State) : State :=
  { s with sense := { s.sense with results := s.sense.results.modify c f } }

def setLimit (i : Nat) (f : Limit → Limit) (s : State) : State :=
  { s with sense := { s.sense with limits := s.sense.limits.modify i f } }

def setLamp (c : Nat) (f : Lamp → Lamp) (s : State) : State :=
  { s with lighting := { s.lighting with lamps := s.lighting.lamps.modify c f } }

/-- A box's display is marked pending (R31, R73). -/
def markDisplay (l b : Nat) (s : State) : State :=
  setBox l b (fun x => { x with displayPending := true }) s

end Sys2Proof.Machine
end

