-- ==== Sys2Proof/Machine/Flags.lean ====
section
/-! DEFINITION. The flags of the TC-96 and what sets and clears them: the zone clip flags (R51), the notices-lost
flag (R167, R172, R173), and the judgements on a sense result: stale, unordered (R95). -/

namespace Sys2Proof.Machine

/-- A saturation in a zone: the clip flag is set, with one ZONE-CLIP notice when it was CLEAR and the zone's clip
notice enable is YES (R51). -/
def saturate (z : Nat) (s : State) : State :=
  match s.mix.zones[z]? with
  | none => s
  | some zone =>
    let s1 := setZone z (fun x => { x with clip := true }) s
    if !zone.clip && zone.clipNotice then notify (.zoneClip z) s1 else s1

/-- STATUS-READ with clear YES: the four clip flags and the notices-lost flag (R172). -/
def clearStatusFlags (s : State) : State :=
  { s with
    mix := { s.mix with zones := s.mix.zones.map fun z => { z with clip := false } }
    manage := { s.manage with noticesLost := false } }

/-- The notices-lost flag is set (R167, R173). -/
def loseNotice (s : State) : State := { s with manage := { s.manage with noticesLost := true } }

/-- A record is stale when a raw result is present and its age has reached the channel's limit (R95). -/
def isStale (r : ResultRec) (limit : Nat) : Bool := r.present && decide (Config.ms limit ≤ r.age)

/-- The averaged value of channel `c` when it is ordered: present, not stale and VALID (R95). -/
def orderedAverage (c : Nat) (s : State) : Option Nat :=
  match channelRecord s c with
  | none => none
  | some record =>
    let r := resultRecord s c
    if r.avgPresent && r.avgValid && !isStale r record.staleness then some r.avgValue else none

end Sys2Proof.Machine
end

