-- ==== Sys2Proof/Machine/Operands.lean ====
section
/-! DEFINITION. The operand forms: the records of every table as a request carries them and as a read returns
them, the parameters of the requests, the inbound AUDIO frame, and the characters of the seat lines (chapter 11).
A decoder answers none where a field lies outside its set, which is the owner's BAD-FIELD. -/

namespace Sys2Proof.Machine

/-- `x` where `ok` holds. -/
def guarded {α : Type} (ok : Bool) (x : α) : Option α := if ok then some x else none

/-- The bits of a zone mask byte; bits 4 to 7 are disregarded (R182). -/
def maskOf (n : Nat) : ZoneMask := BitVec.ofNat 4 n

/-! ### LANGUAGE, SEAT (R17, R19, R21, R22) -/

/-- A code character: A to Z or space (R17). -/
def codeChar (n : Nat) : Bool := n = 0x20 || (0x41 ≤ n && n ≤ 0x5A)

def decodeLang (b : List Byte) : Option LangEntry :=
  match flagOf (byteAt b 0), flagOf (byteAt b 4), flagOf (byteAt b 5) with
  | some enabled, some live, some dflt =>
    guarded (byteAt b 1 ≤ 29 && codeChar (byteAt b 2) && codeChar (byteAt b 3))
      { enabled := enabled, tag := byteAt b 1, code1 := byteAt b 2, code2 := byteAt b 3, liveEligible := live,
        isDefault := dflt }
  | _, _, _ => none

def encodeLang (e : LangEntry) : List Byte :=
  natBytes 1 (flagCode e.enabled) ++ natBytes 1 e.tag ++ natBytes 1 e.code1 ++ natBytes 1 e.code2 ++
    natBytes 1 (flagCode e.liveEligible) ++ natBytes 1 (flagCode e.isDefault)

/-- The ranges of a SEAT record; its language is judged against the map (R22). -/
def decodeSeat (b : List Byte) : Option SeatWrite :=
  guarded (byteAt b 0 ≤ 3 && byteAt b 2 ≤ 15)
    { zone := byteAt b 0
      language := if byteAt b 1 = 255 then none else some (byteAt b 1)
      volume := byteAt b 2 }

def encodeSeat (x : Seat) : List Byte :=
  natBytes 1 x.zone ++ natBytes 1 (optCode x.language) ++ natBytes 1 x.volume ++ natBytes 1 (flagCode x.jack) ++
    natBytes 1 (flagCode x.fitted) ++ natBytes 1 x.lastLanguage.toNat ++ natBytes 1 x.lastUp.toNat ++
    natBytes 1 x.lastDown.toNat

/-! ### The mix engine's tables (R36 to R40, R52) -/

def decodeZone (b : List Byte) : Option ZoneWrite :=
  match NoiseSource.ofCode (byteAt b 0), flagOf (byteAt b 1) with
  | some source, some notice => some { source := source, clipNotice := notice }
  | _, _ => none

def encodeZone (z : Zone) : List Byte :=
  natBytes 1 (NoiseSource.code z.source) ++ natBytes 1 z.offset ++ natBytes 1 z.target ++ natBytes 1 z.slew ++
    intByte z.duck ++ natBytes 1 (flagCode z.clip) ++ natBytes 1 (flagCode z.clipNotice)

def decodeCurve (b : List Byte) : Option Int :=
  guarded (decide (-96 ≤ signedAt b 0) && decide (signedAt b 0 ≤ 24)) (signedAt b 0)

def decodeMix (b : List Byte) : Option MixParams :=
  guarded (byteAt b 0 ≤ 96 && 1 ≤ byteAt b 1 && byteAt b 1 ≤ 96 && 1 ≤ byteAt b 2 && byteAt b 2 ≤ 96 &&
      byteAt b 3 ≤ 15 && 1 ≤ byteAt b 4 && byteAt b 4 ≤ 250)
    { duckDepth := byteAt b 0, attack := byteAt b 1, release := byteAt b 2, defaultStep := byteAt b 3,
      noiseSlew := byteAt b 4 }

def encodeMix (m : MixParams) : List Byte :=
  natBytes 1 m.duckDepth ++ natBytes 1 m.attack ++ natBytes 1 m.release ++ natBytes 1 m.defaultStep ++
    natBytes 1 m.noiseSlew

def decodeBand (b : List Byte) : Option Band :=
  guarded (byteAt b 2 ≤ 24) { threshold := wordAt b 0, offset := byteAt b 2 }

def encodeBand (x : Band) : List Byte := natBytes 2 x.threshold ++ natBytes 1 x.offset

def decodeClass (b : List Byte) : Option ClassRec :=
  match optOf 3 (byteAt b 2), flagOf (byteAt b 5) with
  | some chime, some mute =>
    guarded (decide (-96 ≤ signedAt b 0) && decide (signedAt b 0 ≤ 24) && decide (-48 ≤ signedAt b 1) &&
        decide (signedAt b 1 ≤ 24) && decide (-48 ≤ signedAt b 3) && decide (signedAt b 3 ≤ 24) &&
        1 ≤ byteAt b 4 && byteAt b 4 ≤ 120)
      { floor := signedAt b 0, trim := signedAt b 1, chime := chime, chimeTrim := signedAt b 3,
        maxSeconds := byteAt b 4, muteOverride := mute }
  | _, _ => none

def encodeClass (c : ClassRec) : List Byte :=
  intByte c.floor ++ intByte c.trim ++ natBytes 1 (optCode c.chime) ++ intByte c.chimeTrim ++
    natBytes 1 c.maxSeconds ++ natBytes 1 (flagCode c.muteOverride)

/-- The tone at byte `i` of a CHIME record. -/
def decodeTone (b : List Byte) (i : Nat) : Option Tone :=
  guarded ((wordAt b i = 0 || (100 ≤ wordAt b i && wordAt b i ≤ 4000)) && 10 ≤ wordAt b (i + 2) &&
      wordAt b (i + 2) ≤ 1000 && wordAt b (i + 2) % 10 = 0)
    { frequency := wordAt b i, duration := wordAt b (i + 2) }

def decodeChime (b : List Byte) : Option Chime :=
  match decodeTone b 1, decodeTone b 5, decodeTone b 9, decodeTone b 13 with
  | some t0, some t1, some t2, some t3 =>
    guarded (1 ≤ byteAt b 0 && byteAt b 0 ≤ 4) { count := byteAt b 0, tones := [t0, t1, t2, t3] }
  | _, _, _, _ => none

def encodeTone (t : Tone) : List Byte := natBytes 2 t.frequency ++ natBytes 2 t.duration

def encodeChime (c : Chime) : List Byte := natBytes 1 c.count ++ c.tones.flatMap encodeTone

/-! ### SEAT-LINE, SENSE-CHANNEL, LIMIT (R57, R83, R97) -/

def decodeSeatLine (b : List Byte) : Option LineWrite :=
  match CheckMode.ofCode (byteAt b 0), flagOf (byteAt b 1) with
  | some mode, some sleep => some { mode := mode, sleepEnable := sleep }
  | _, _ => none

def encodeSeatLine (l : Line) : List Byte := natBytes 1 l.mode.code ++ natBytes 1 (flagCode l.sleepEnable)

def gateLengths : List Nat := [1024, 2048, 4096, 8192, 16384, 32768]
def averagings : List Nat := [1, 2, 4, 8, 16]

/-- The record of channel number `channel`: the pulse length is checked for ODO and held as 0 elsewhere (R83). -/
def decodeSense (channel : Nat) (b : List Byte) : Option SenseRec :=
  match flagOf (byteAt b 0), GateMode.ofCode (byteAt b 1) with
  | some enabled, some mode =>
    guarded (gateLengths.contains (wordAt b 2) && 1 ≤ byteAt b 4 && 1 ≤ wordAt b 5 &&
        averagings.contains (byteAt b 7) && 100 ≤ wordAt b 8 && wordAt b 8 ≤ 10000 &&
        (channel ≠ 0 || 1 ≤ wordAt b 10))
      { enabled := enabled, gateMode := mode, gateLength := wordAt b 2, edgeCount := byteAt b 4,
        waitLimit := wordAt b 5, averaging := byteAt b 7, staleness := wordAt b 8,
        pulse := if channel = 0 then wordAt b 10 else 0 }
  | _, _ => none

/-- The records of the channels from `channel` on. -/
def decodeSenses : Nat → List (List Byte) → Option (List SenseRec)
  | _, [] => some []
  | channel, r :: rs =>
    match decodeSense channel r, decodeSenses (channel + 1) rs with
    | some x, some xs => some (x :: xs)
    | _, _ => none

def encodeSense (r : SenseRec) : List Byte :=
  natBytes 1 (flagCode r.enabled) ++ natBytes 1 r.gateMode.code ++ natBytes 2 r.gateLength ++
    natBytes 1 r.edgeCount ++ natBytes 2 r.waitLimit ++ natBytes 1 r.averaging ++ natBytes 2 r.staleness ++
    natBytes 2 r.pulse

/-- A limit's action: five fields from byte `i`; NONE is 255, BASE-SCENE 0 and ANNOUNCE 1 (R182). -/
def decodeAction (b : List Byte) (i : Nat) : Option LimitAction :=
  match byteAt b i with
  | 255 => some .nothing
  | 0 => guarded (byteAt b (i + 1) ≤ 15) (.baseScene (byteAt b (i + 1)))
  | 1 =>
    match AnnClass.ofCode (byteAt b (i + 4)) with
    | some cls => guarded (wordAt b (i + 2) ≤ 1023) (.announce (wordAt b (i + 2)) cls (maskOf (byteAt b (i + 5))))
    | none => none
  | _ => none

def encodeAction : LimitAction → List Byte
  | .nothing => natBytes 1 255 ++ natBytes 5 0
  | .baseScene n => natBytes 1 0 ++ natBytes 1 n ++ natBytes 4 0
  | .announce clip cls mask =>
    natBytes 1 1 ++ natBytes 1 0 ++ natBytes 2 clip ++ natBytes 1 cls.code ++ natBytes 1 mask.toNat

def decodeLimit (b : List Byte) : Option Limit :=
  match flagOf (byteAt b 0), LimitSource.ofCode (byteAt b 2), LimitDirection.ofCode (byteAt b 3),
      LimitMode.ofCode (byteAt b 8), decodeAction b 9 with
  | some inUse, some source, some direction, some mode, some action =>
    guarded (byteAt b 1 ≤ 4)
      { inUse := inUse, channel := byteAt b 1, source := source, direction := direction, threshold := wordAt b 4,
        hysteresis := wordAt b 6, mode := mode, action := action, tripped := false }
  | _, _, _, _, _ => none

/-- A limit as TABLE-READ returns it: the state is CLEAR 0 or TRIPPED 1. -/
def encodeLimit (x : Limit) : List Byte :=
  natBytes 1 (flagCode x.inUse) ++ natBytes 1 x.channel ++ natBytes 1 x.source.code ++
    natBytes 1 x.direction.code ++ natBytes 2 x.threshold ++ natBytes 2 x.hysteresis ++ natBytes 1 x.mode.code ++
    encodeAction x.action ++ natBytes 1 (if x.tripped then 1 else 0)

/-! ### CUE (R108, R109) -/

/-- The fields of a CUE record as given, in state ARMED. -/
def cueOfBytes (inUse : Bool) (b : List Byte) : Cue :=
  { inUse := inUse, trigger := threeAt b 1, window := wordAt b 4, kind := byteAt b 6,
    conditionChannel := byteAt b 7, predicate := byteAt b 8, threshold := wordAt b 9, segment := wordAt b 11,
    clip := wordAt b 13, mask := maskOf (byteAt b 15), scene := byteAt b 16, stop := byteAt b 17,
    repeatable := byteAt b 18, preempt := byteAt b 19, state := .armed }

/-- A present condition names a channel and a predicate in their sets (R109). -/
def conditionOk (c : Cue) : Bool :=
  c.conditionChannel = 255 || (c.conditionChannel ≤ 4 && (Predicate.ofCode c.predicate).isSome)

def sceneOrRelease (n : Nat) : Bool := n ≤ 15 || n = 255
def stopOk (n : Nat) : Bool := 1 ≤ n && n ≤ 63

/-- Every field that the cue's kind uses lies in its set (R108, R109). -/
def cueFieldsOk (c : Cue) : Bool :=
  c.trigger ≤ 1048575 && conditionOk c && (flagOf c.repeatable).isSome &&
    match CueKind.ofCode c.kind with
    | none => false
    | some .segment => 1 ≤ c.segment && c.segment ≤ 4095 && (flagOf c.preempt).isSome
    | some .stopApproach => c.clip ≤ 1022 && stopOk c.stop
    | some .stopArrival => c.clip ≤ 1023 && stopOk c.stop
    | some .clearance => c.clip ≤ 1023 && sceneOrRelease c.scene
    | some .scene => sceneOrRelease c.scene
    | some .notice => true

def decodeCue (b : List Byte) : Option Cue :=
  match flagOf (byteAt b 0) with
  | none => none
  | some inUse =>
    let c := cueOfBytes inUse b
    guarded (!inUse || cueFieldsOk c) c

def encodeCue (c : Cue) : List Byte :=
  natBytes 1 (flagCode c.inUse) ++ natBytes 3 c.trigger ++ natBytes 2 c.window ++ natBytes 1 c.kind ++
    natBytes 1 c.conditionChannel ++ natBytes 1 c.predicate ++ natBytes 2 c.threshold ++ natBytes 2 c.segment ++
    natBytes 2 c.clip ++ natBytes 1 c.mask.toNat ++ natBytes 1 c.scene ++ natBytes 1 c.stop ++
    natBytes 1 c.repeatable ++ natBytes 1 c.preempt ++ natBytes 1 c.state.code

/-! ### SCENE, LIGHTING (R154 to R156) -/

/-- The part at byte `i` of a SCENE record. -/
def decodePart (b : List Byte) (i : Nat) : Option ScenePart :=
  match flagOf (byteAt b i), Pattern.ofCode (byteAt b (i + 3)) with
  | some claim, some pattern =>
    guarded (wordAt b (i + 1) ≤ 1000 && 100 ≤ wordAt b (i + 4) && wordAt b (i + 4) ≤ 5000 &&
        wordAt b (i + 4) % 20 = 0 && wordAt b (i + 6) ≤ 10000 && wordAt b (i + 6) % 10 = 0)
      { claim := claim, target := wordAt b (i + 1), pattern := pattern, period := wordAt b (i + 4),
        fade := wordAt b (i + 6) }
  | _, _ => none

/-- `count` parts of a SCENE record from byte `i` on. -/
def decodeParts (b : List Byte) : Nat → Nat → Option (List ScenePart)
  | _, 0 => some []
  | i, count + 1 =>
    match decodePart b i, decodeParts b (i + 8) count with
    | some p, some ps => some (p :: ps)
    | _, _ => none

def decodeScene (b : List Byte) : Option (List ScenePart) := decodeParts b 0 8

def encodePart (p : ScenePart) : List Byte :=
  natBytes 1 (flagCode p.claim) ++ natBytes 2 p.target ++ natBytes 1 p.pattern.code ++ natBytes 2 p.period ++
    natBytes 2 p.fade

def encodeScene (parts : List ScenePart) : List Byte := parts.flatMap encodePart

def decodeLighting (b : List Byte) : Option LightParams :=
  match optOf 7 (byteAt b 1) with
  | some indicator =>
    guarded (byteAt b 0 ≤ 15 && wordAt b 2 ≤ 1000 && byteAt b 4 ≤ 3)
      { baseScene := byteAt b 0, indicatorChannel := indicator, indicatorLevel := wordAt b 2,
        beepChime := byteAt b 4 }
  | none => none

def encodeLighting (p : LightParams) : List Byte :=
  natBytes 1 p.baseScene ++ natBytes 1 (optCode p.indicatorChannel) ++ natBytes 2 p.indicatorLevel ++
    natBytes 1 p.beepChime

/-! ### Notices and origins (R134, R173, R184) -/

/-- An origin: two bytes, the kind and the index (R134). -/
def encodeOrigin : Origin → List Byte
  | .cue i => natBytes 1 0 ++ natBytes 1 i
  | .limit i => natBytes 1 1 ++ natBytes 1 i
  | .headUnit => natBytes 1 2 ++ natBytes 1 0

/-- A notice's kind number, in the order of the notice table. -/
def Notice.code : Notice → Nat
  | .zoneClip .. => 0 | .boxState .. => 1 | .boxFault .. => 2 | .limitTripped .. => 3 | .limitCleared .. => 4
  | .distanceOverflow => 5 | .cueFired .. => 6 | .cueSkipped .. => 7 | .stopRequested .. => 8
  | .stopReached .. => 9 | .stopCleared .. => 10 | .liveGranted .. => 11 | .liveEnded => 12
  | .announceDisplaced .. => 13 | .announceDropped .. => 14 | .clipCancel .. => 15 | .clipEnded .. => 16
  | .clipFailed .. => 17 | .linkRestored => 18

/-- A notice's fields in the order of the notice table. -/
def Notice.fields : Notice → List Byte
  | .zoneClip z => natBytes 1 z
  | .boxState l b st n => natBytes 1 l ++ natBytes 1 b ++ natBytes 1 st.code ++ natBytes 1 n
  | .boxFault l b v => natBytes 1 l ++ natBytes 1 b ++ natBytes 1 (flagCode v)
  | .limitTripped i v => natBytes 1 i ++ natBytes 2 v
  | .limitCleared i => natBytes 1 i
  | .distanceOverflow => []
  | .cueFired i k p => natBytes 1 i ++ natBytes 1 k ++ natBytes 4 p
  | .cueSkipped i r p => natBytes 1 i ++ natBytes 1 r.code ++ natBytes 4 p
  | .stopRequested n i l b => natBytes 1 n ++ natBytes 1 i ++ natBytes 1 l ++ natBytes 1 b
  | .stopReached n => natBytes 1 n
  | .stopCleared n c => natBytes 1 n ++ natBytes 1 c.code
  | .liveGranted m => natBytes 2 m.toNat
  | .liveEnded => []
  | .announceDisplaced c clip o => natBytes 1 c.code ++ natBytes 2 clip ++ encodeOrigin o
  | .announceDropped c clip o => natBytes 1 c.code ++ natBytes 2 clip ++ encodeOrigin o
  | .clipCancel t => natBytes 1 t
  | .clipEnded t clip c r => natBytes 1 t ++ natBytes 2 clip ++ natBytes 1 c.code ++ natBytes 1 r.code
  | .clipFailed t clip c r => natBytes 1 t ++ natBytes 2 clip ++ natBytes 1 c.code ++ natBytes 1 r.code
  | .linkRestored => []

/-- A notice item (R184). -/
def encodeNotice (n : Notice) : List Byte :=
  natBytes 1 1 ++ natBytes 1 n.code ++ natBytes 1 n.fields.length ++ n.fields

/-- A reply item (R184). -/
def encodeReply (r : Reply) : List Byte :=
  natBytes 1 0 ++ [r.tag, r.kind] ++ natBytes 1 r.code.code ++ natBytes 2 r.data.length ++ r.data

/-! ### The AUDIO frame (section 11.4, R183) -/

/-- One channel block of an inbound AUDIO frame. -/
structure ChannelBlock where
  tag : Nat
  ticket : Nat
  endMark : Bool
  samples : List Int
  deriving DecidableEq, Repr

/-- An inbound AUDIO frame by its fields. -/
structure AudioFrame where
  sequence : BitVec 16
  segment : Nat
  blocks : List ChannelBlock
  deriving DecidableEq, Repr

/-- `count` samples, high byte first. -/
def decodeSamples : Nat → List Byte → List Int
  | 0, _ => []
  | count + 1, b => signed16 (wordAt b 0) :: decodeSamples count (b.drop 2)

/-- A channel block of 67 bytes: the END mark is bit 0 of byte 2, the other bits are disregarded (R183). -/
def decodeBlock (b : List Byte) : ChannelBlock :=
  { tag := byteAt b 0, ticket := byteAt b 1, endMark := byteAt b 2 % 2 = 1,
    samples := decodeSamples Config.frameSamples (b.drop 3) }

/-- An AUDIO body: of the segment field the low 12 bits are taken (R183). -/
def decodeAudio (body : List Byte) : AudioFrame :=
  { sequence := BitVec.ofNat 16 (wordAt body 0), segment := wordAt body 3 % 4096,
    blocks := (cutRecords 67 (byteAt body 2) (body.drop 5)).map decodeBlock }

/-- An AUDIO body is valid when its block count is 0..16 and its length fits (R180). -/
def audioValid (body : List Byte) : Bool :=
  byteAt body 2 ≤ 16 && body.length = 5 + 67 * byteAt body 2

/-- A REQUEST body: the tag, the kind and the parameters (section 11.4). -/
def decodeRequest (body : List Byte) : Request :=
  { tag := body.getD 0 0, kind := body.getD 1 0, params := body.drop 2 }

/-! ### Seat-line characters (R59, R60, section 11.6) -/

/-- Whether a byte holds an odd number of ones. -/
def oddOnes (b : Byte) : Bool := (List.range 8).foldl (fun acc i => acc ^^ b.getLsbD i) false

/-- The eight bits of a header: address in bits 0..3, kind in bits 4..6, and bit 7 making the ones odd (R59). -/
def headerByte (box : Nat) (kind : TxKind) : Byte :=
  let low : Byte := BitVec.ofNat 8 (box % 16 + 16 * kind.code)
  if oddOnes low then low else low ||| 0x80#8

/-- A header character: the ninth bit is 1 (R59). -/
def headerChar (box : Nat) (kind : TxKind) : LineBits := (headerByte box kind).zeroExtend 9 ||| 0x100#9

/-- A data or check character: the ninth bit is 0 (R59). -/
def dataChar (b : Byte) : LineBits := b.zeroExtend 9

/-- The check value over the covered bytes (R60). -/
def checkOver (bytes : List Byte) : Byte :=
  bytes.foldl (fun sum b => sum + b) 0 ^^^ 0xA5#8

/-- The check of a transaction's data: FULL covers the header byte as well (R60). -/
def lineCheck (mode : CheckMode) (box : Nat) (kind : TxKind) (data : List Byte) : Byte :=
  match mode with
  | .short => checkOver data
  | .full => checkOver (headerByte box kind :: data)

/-- The byte of a received character. -/
def charByte (c : LineChar) : Byte := c.bits.truncate 8

/-- A character that no answer may hold: a missing stop bit or a ninth bit of 1 (R64). -/
def charBroken (c : LineChar) : Bool := !c.stopHigh || c.bits.getLsbD 8

/-- The low four bits of a byte. -/
def lowNibble (b : Byte) : BitVec 4 := b.truncate 4

/-- The high four bits of a byte. -/
def highNibble (b : Byte) : BitVec 4 := (b >>> 4).truncate 4

/-- One side of a STATUS answer (R61). -/
structure SideStatus where
  jack : Bool
  language : BitVec 4
  up : BitVec 4
  down : BitVec 4
  deriving DecidableEq, Repr

/-- The contents of a STATUS answer (R61). -/
structure StatusAnswer where
  sideA : SideStatus
  sideB : SideStatus
  stop : BitVec 4
  boxFault : Bool
  deriving DecidableEq, Repr

/-- The layout of the STATUS data characters (section 11.6). -/
def decodeStatus (b : List Byte) : StatusAnswer :=
  let c0 := b.getD 0 0
  let c1 := b.getD 1 0
  let c2 := b.getD 2 0
  let c3 := b.getD 3 0
  { sideA := { jack := c3.getLsbD 4, language := lowNibble c0, up := highNibble c0, down := lowNibble c1 }
    sideB := { jack := c3.getLsbD 5, language := highNibble c1, up := lowNibble c2, down := highNibble c2 }
    stop := lowNibble c3
    boxFault := c3.getLsbD 6 }

/-- The language nibble of a DISPLAY: NONE is 15 (section 11.6). -/
def displayLanguage : Option Nat → Nat
  | some n => n % 16
  | none => 15

/-- The four data bytes of a DISPLAY (section 11.6). -/
def displayData (a b : Seat) (lamp icon : Bool) : List Byte :=
  [ BitVec.ofNat 8 (displayLanguage a.language + 16 * a.volume),
    BitVec.ofNat 8 (displayLanguage b.language + 16 * b.volume),
    if lamp then 1 else 0, if icon then 1 else 0 ]

end Sys2Proof.Machine
end

