-- ==== Sys2Proof/Machine/Chime.lean ====
section
/-! DEFINITION. The chime generator (section 3.6): the sine table, the sequences, how a request is decided, and the
32 samples of a frame. -/

namespace Sys2Proof.Machine

/-- The first quarter of the sine table and its end, s(0)..s(16) (R53). -/
def sineQuarter : List Int :=
  [0, 803, 1598, 2378, 3135, 3862, 4551, 5197, 5793, 6333, 6811, 7225, 7568, 7839, 8035, 8153, 8192]

/-- s(k) for k in 0..32, by s(32 - k) = s(k) (R53). -/
def sineHalf (k : Nat) : Int := if k ≤ 16 then sineQuarter.getD k 0 else sineQuarter.getD (32 - k) 0

/-- s(k) for k in 0..63, by s(k + 32) = -s(k) (R53). -/
def sine (k : Nat) : Int := if k < 32 then sineHalf k else -sineHalf (k - 32)

/-- The phase increment of a tone of frequency `f` (R53). -/
def increment (f : Nat) : BitVec 16 := BitVec.ofNat 16 (roundHalfUp (f * 65536) 16000)

/-- The samples a tone lasts (R53). -/
def toneSamples (t : Tone) : Nat := t.duration * 16

/-- A sequence as the generator takes it: the chime's played tones are copied (R52, R54). -/
def sequenceOf (use : ChimeUse) (chime : Chime) : Sequence :=
  let tones := chime.tones.take chime.count
  { use := use, tones := tones, left := (tones.head?.map toneSamples).getD 0, phase := 0 }

def chimeRecord (s : State) (n : Nat) : Chime := s.mix.chimes.getD n { count := 0, tones := [] }

/-- An announcement chime is requested: it is taken whatever plays (R55). -/
def requestChime (n : Nat) (ticket : Option Nat) (mask : ZoneMask) (s : State) : State :=
  { s with mix := { s.mix with generator := some (sequenceOf (.announcement ticket mask) (chimeRecord s n)) } }

/-- A seat beep is requested: dropped while an announcement sequence plays, taken otherwise (R55). A beep and a stop
that come together while such a sequence plays are decided by R55's table in the order in which they come, so a beep
taken first is dropped, though its last sentence has a beep play in either order (DESIGN CHOICE,
notes/assumptions/29.md). -/
def requestBeep (line box : Nat) (s : State) : State :=
  let taken : State :=
    { s with mix := { s.mix with
        generator := some (sequenceOf (.beep line box) (chimeRecord s s.lighting.params.beepChime)) } }
  match s.mix.generator with
  | none => taken
  | some q =>
    match q.use with
    | .beep _ _ => taken
    | .announcement _ _ => s

/-- The stop from the announcement controller: it ends an announcement sequence without a report (R55). -/
def stopChime (s : State) : State :=
  match s.mix.generator with
  | none => s
  | some q =>
    match q.use with
    | .beep _ _ => s
    | .announcement _ _ => { s with mix := { s.mix with generator := none } }

/-- `count` samples of a tone from a phase, and the phase after them (R53); a rest gives zeros. -/
def toneRun (f : Nat) : Nat → BitVec 16 → List Int × BitVec 16
  | 0, phase => ([], phase)
  | count + 1, phase =>
    let sample := if f = 0 then 0 else sine (phase.toNat / 1024)
    let rest := toneRun f count (phase + increment f)
    (sample :: rest.1, rest.2)

/-- A sequence after the samples of one frame: the present tone goes on, or the next begins with phase 0 (R53). -/
def afterFrame (q : Sequence) (phase : BitVec 16) : Sequence :=
  if Config.frameSamples < q.left then { q with left := q.left - Config.frameSamples, phase := phase }
  else
    let rest := q.tones.tail
    { q with tones := rest, left := (rest.head?.map toneSamples).getD 0, phase := 0 }

def silence : List Int := List.replicate Config.frameSamples 0

/-- The 32 chime samples of the frame computed now (R53), and the generator after them. -/
def playChime (s : State) : List Int × State :=
  match s.mix.generator with
  | none => (silence, s)
  | some q =>
    match q.tones with
    | [] => (silence, s)
    | t :: _ =>
      let run := toneRun t.frequency Config.frameSamples q.phase
      (run.1, { s with mix := { s.mix with generator := some (afterFrame q run.2) } })

/-- At a frame start that finds the last sample played, the generator becomes IDLE; an announcement sequence's end
is to be reported to the announcement controller (R54). -/
def retireChime (s : State) : State × Bool :=
  match s.mix.generator with
  | some { use := use, tones := [], .. } =>
    ({ s with mix := { s.mix with generator := none } },
     match use with
     | .announcement _ _ => true
     | .beep _ _ => false)
  | _ => (s, false)

end Sys2Proof.Machine
end

