-- ==== Sys2Proof/Machine/Lighting.lean ====
section
/-! DEFINITION. The lighting controller (chapter 9): resolution of the layers, transitions, fade steps and flash
halves, and the commands of its own timers. -/

namespace Sys2Proof.Machine

/-- The setting a scene gives lamp channel `c` from `layer`, where its part claims the channel (R159). -/
def sceneClaim (g : Lighting) (layer : Layer) (scene : Option Nat) (c : Nat) : Option Setting :=
  match scene with
  | none => none
  | some n =>
    match (g.scenes.getD n [])[c]? with
    | none => none
    | some p =>
      if p.claim then
        some { layer := some layer, scene := some n, target := p.target, pattern := p.pattern, period := p.period,
               fade := p.fade }
      else none

/-- The INDICATOR layer's setting for channel `c`, where it claims it (R157, R159). R159 gives it no period: the model
holds 0 (DESIGN CHOICE, notes/assumptions/28.md). -/
def indicatorClaim (g : Lighting) (c : Nat) : Option Setting :=
  if g.indicator && g.params.indicatorChannel = some c then
    some { layer := some .indicator, scene := none, target := g.params.indicatorLevel, pattern := .steady,
           period := 0, fade := 0 }
  else none

/-- The scene of the BASE layer: the selection, or the default base scene (R157). -/
def baseScene (g : Lighting) : Nat := g.base.getD g.params.baseScene

/-- The governing setting of channel `c`: the first layer from ALERT down to BASE that claims it (R159). -/
def governing (g : Lighting) (c : Nat) : Setting :=
  (((sceneClaim g .alert g.alert c <|> indicatorClaim g c) <|> sceneClaim g .force g.force c) <|>
    sceneClaim g .cue g.cue c <|> sceneClaim g .base (some (baseScene g)) c).getD unclaimedSetting

/-- What follows a fade, or a transition with fade 0: STEADY, or the first lit half (R160, R161). -/
def settled (x : Setting) : Transition :=
  match x.pattern with
  | .steady => .steady
  | .flash => .flashOn (x.period / 2)

/-- The channel before the changes of the present moment, which is the channel itself where none has begun a transition
(R166). -/
def lampStart (lamp : Lamp) : LampStart :=
  lamp.began.getD { level := lamp.level, setting := lamp.setting, transition := lamp.transition, phase := lamp.phase }

/-- The channel as it stood at `start`. -/
def asBefore (start : LampStart) : Lamp :=
  { level := start.level, setting := start.setting, transition := start.transition, phase := start.phase, began := none }

/-- A new transition to `new` from the level of `start` (R160). -/
def beginTransition (new : Setting) (start : LampStart) : Lamp :=
  if 10 ≤ new.fade then
    { level := start.level, setting := new,
      transition := .fading start.level (new.fade / 10) 0 Config.fadeStepTime, phase := 0, began := some start }
  else { level := new.target, setting := new, transition := settled new, phase := 0, began := some start }

/-- A channel takes a governing setting: a new transition where it differs from the one held (R160). The level does not
move between two changes of one moment, so the transition starts from the level before the first of them, and a change
that gives back the setting held before the first finds the channel's transition as it stood: so the outcome of the
changes of one moment is the same in either order (R166; DESIGN CHOICE, notes/assumptions/25.md). -/
def takeSetting (new : Setting) (lamp : Lamp) : Lamp :=
  if lamp.setting = new then lamp
  else if (lampStart lamp).setting = new then asBefore (lampStart lamp)
  else beginTransition new (lampStart lamp)

/-- A moment has passed: no transition began at the present one. -/
def passMoment (lamp : Lamp) : Lamp := { lamp with began := none }

/-- The lamps from channel `c` on, each with its governing setting. -/
def resolveLamps (g : Lighting) : Nat → List Lamp → List Lamp
  | _, [] => []
  | c, lamp :: rest => takeSetting (governing g c) lamp :: resolveLamps g (c + 1) rest

/-- Resolution of every channel (R159). -/
def resolve (g : Lighting) : Lighting := { g with lamps := resolveLamps g 0 g.lamps }

/-- The alert scene reported by the announcement controller; a scene already held changes nothing (R157). -/
def setAlert (scene : Option Nat) (s : State) : State :=
  if s.lighting.alert = scene then s
  else { s with lighting := resolve { s.lighting with alert := scene } }

/-- The INDICATOR layer at a frame start (R157). -/
def setIndicator (active : Bool) (s : State) : State :=
  if s.lighting.indicator = active then s
  else { s with lighting := resolve { s.lighting with indicator := active } }

/-- The FORCE layer (R158). -/
def setForce (scene : Option Nat) (s : State) : State :=
  if s.lighting.force = scene then s
  else { s with lighting := resolve { s.lighting with force := scene } }

/-- The CUE layer (R116, R157). -/
def setCueScene (scene : Option Nat) (s : State) : State :=
  if s.lighting.cue = scene then s
  else { s with lighting := resolve { s.lighting with cue := scene } }

/-- The BASE layer's selection (R99, R157). -/
def setBaseScene (selection : Option Nat) (s : State) : State :=
  if s.lighting.base = selection then s
  else { s with lighting := resolve { s.lighting with base := selection } }

/-- The level at step `i` of `k` of a fade from `start` to `target` (R161: trunc rounds toward zero). -/
def fadeLevel (start target i k : Nat) : Nat :=
  ((start : Int) + ((((target : Int) - start) * i).tdiv k)).toNat

/-- A fade step on a lamp whose step is due (R161). A lamp that is not FADING has none, and neither has one whose
transition began after the step fell due: the old transition is dropped with its step (R160, R166). -/
def stepFade (lamp : Lamp) : Lamp :=
  match lamp.transition with
  | .fading start k i 0 =>
    { lamp with
      level := fadeLevel start lamp.setting.target (i + 1) k
      transition := if k ≤ i + 1 then settled lamp.setting else .fading start k (i + 1) Config.fadeStepTime
      began := none }
  | _ => lamp

/-- A flash half runs out on a lamp whose half has no time left (R162); any other lamp has none (R160, R166). -/
def flipFlash (lamp : Lamp) : Lamp :=
  match lamp.transition with
  | .flashOn 0 => { lamp with level := 0, transition := .flashOff (lamp.setting.period / 2), began := none }
  | .flashOff 0 =>
    { lamp with level := lamp.setting.target, transition := .flashOn (lamp.setting.period / 2), began := none }
  | _ => lamp

/-- FADE_STEP (R161). -/
def execFadeStep (c : Fin 8) (s : State) : Host.Outcome State Fault Refusal :=
  .next (setLamp c stepFade s)

/-- FLASH_HALF_EXPIRY (R162). -/
def execFlashHalfExpiry (c : Fin 8) (s : State) : Host.Outcome State Fault Refusal :=
  .next (setLamp c flipFlash s)

end Sys2Proof.Machine
end

