-- ==== Sys2Proof/Machine/Live.lean ====
section
/-! DEFINITION. The live state and its masks (section 7.3): the filter by the language map, the grant when the path
frees, and the removal when a LANGUAGE write takes effect. -/

namespace Sys2Proof.Machine

/-- The languages whose entry in the map in force is enabled and live-eligible (R17, R128). -/
def eligible (s : State) : LanguageMask :=
  BitVec.ofNat 12 (flagBits (s.seats.map.map fun e => e.enabled && e.liveEligible))

/-- Live becomes ON with a mask: the held mask is emptied and LIVE-GRANTED names the mask (R128, R129). -/
def grantLive (mask : LanguageMask) (s : State) : State :=
  notify (.liveGranted mask)
    { s with segment := { s.segment with live := .on, liveMask := mask, heldMask := 0 } }

/-- The path-free report at live control: a REQUESTED talk-over is granted (R129). -/
def pathFreeReport (s : State) : State :=
  match s.segment.live with
  | .requested => grantLive (s.segment.heldMask &&& eligible s) s
  | _ => s

/-- A LANGUAGE write has taken effect: languages no longer eligible leave both masks (R132). -/
def filterLiveMasks (s : State) : State :=
  { s with segment := { s.segment with
      liveMask := s.segment.liveMask &&& eligible s
      heldMask := s.segment.heldMask &&& eligible s } }

end Sys2Proof.Machine
end

