-- ==== Sys2Proof/Machine/Announce.lean ====
section
/-! DEFINITION. The announcement controller (chapter 8): the queue and its ranks, requests, preemption, the start
step, the phases of the path, the endings, and link loss. -/

namespace Sys2Proof.Machine

/-! ### The queue (R134 to R136) -/

/-- `a` ranks better than `b`: the better class, then the older arrival (R136). -/
def outranks (a b : Entry) : Bool :=
  a.cls.code < b.cls.code || (a.cls.code = b.cls.code && a.arrival < b.arrival)

/-- `e` among the WAITING entries in rank order. -/
def insertRanked (e : Entry) : List Entry → List Entry
  | [] => [e]
  | x :: xs => if outranks e x then e :: x :: xs else x :: insertRanked e xs

/-- The entries queued, the path entry among them (R137). -/
def queuedCount (s : State) : Nat := s.announce.waiting.length + s.announce.path.toList.length

/-- Two entries that may not both wait: the same clip and the same class (R137). -/
def alike (clip : Nat) (cls : AnnClass) (e : Entry) : Bool := e.clip = clip && e.cls = cls

/-- The mask of the first WAITING entry with a clip and class. -/
def waitingMask (clip : Nat) (cls : AnnClass) (entries : List Entry) : Option ZoneMask :=
  (entries.find? (alike clip cls)).map Entry.mask

def setPath (path : Option Entry) (s : State) : State := { s with announce := { s.announce with path := path } }

def setWaiting (entries : List Entry) (s : State) : State :=
  { s with announce := { s.announce with waiting := entries } }

/-- Both timers stop; at most one of them runs (R134). -/
def stopTimers (s : State) : State :=
  { s with announce := { s.announce with startTimer := none, durationTimer := none } }

/-- The lighting controller is told the alert scene: the path entry's scene, or none (R147). -/
def reportAlert (s : State) : State := setAlert (s.announce.path.bind Entry.scene) s

/-- An entry returns to WAITING from the path, merged with a WAITING entry alike where there is one (R140). -/
def returnToWaiting (e : Entry) (s : State) : State :=
  let mask := match waitingMask e.clip e.cls s.announce.waiting with
    | some m => e.mask ||| m
    | none => e.mask
  let others := s.announce.waiting.filter fun x => !alike e.clip e.cls x
  let back := { e with state := EntryState.waiting, ticket := none, chime := none, maxSeconds := 0, mask := mask }
  setPath none (setWaiting (insertRanked back others) s)

/-! ### Starting an announcement (R141 to R143, R149, R150) -/

/-- The ticket after `t`: from 255 to 1 (R141). -/
def nextTicket (t : Nat) : Nat := if t = 255 then 1 else t + 1

/-- The entry takes the path in STARTING-CLIP and the start timer starts (R143). -/
def enterStartingClip (e : Entry) (s : State) : State :=
  { s with announce := { s.announce with
      path := some { e with state := .startingClip }, startTimer := some Config.startTime, durationTimer := none } }

/-- The start step of R141 for the winner `w`, already taken from the WAITING entries. -/
def startEntry (w : Entry) (s : State) : State :=
  let ticket := nextTicket s.announce.tickets
  let record := classRecord s w.cls
  let e := { w with ticket := some ticket, chime := record.chime, maxSeconds := record.maxSeconds }
  let s1 := { s with announce := { s.announce with tickets := ticket } }
  match record.chime with
  | some n => requestChime n (some ticket) e.mask (setPath (some { e with state := .startingChime }) s1)
  | none => enterStartingClip e s1

/-- An entry begins its chime-only run, or is removed where its class has no chime (R150). The answer says whether
it was removed. -/
def beginChimeOnly (e : Entry) (s : State) : State × Bool :=
  match (classRecord s e.cls).chime with
  | some n =>
    (requestChime n none e.mask
      (setPath (some { e with state := .chimeOnly, ticket := none, chime := some n }) s), false)
  | none => (setPath none s, true)

/-- The start step while the link is not UP: CLEARANCE entries only, each chime-only (R149, R150). `fuel` bounds the
entries that a missing chime removes at once; the answer says whether any was. -/
def startDown : Nat → State → State × Bool
  | 0, s => (s, false)
  | fuel + 1, s =>
    match s.announce.waiting with
    | [] => (s, false)
    | w :: rest =>
      if w.cls = .clearance then
        let s1 := notify (.clipFailed 0 w.clip w.cls .link) (setWaiting rest s)
        let begun := beginChimeOnly { w with maxSeconds := (classRecord s w.cls).maxSeconds } s1
        if begun.2 then ((startDown fuel begun.1).1, true) else (begun.1, false)
      else (s, false)

/-- The start step (R141, R149): nothing while the path is not IDLE. The answer says whether a chime-only entry
without a chime was removed. -/
def startStep (s : State) : State × Bool :=
  match s.announce.path with
  | some _ => (s, false)
  | none =>
    if s.link.state = .up then
      match s.announce.waiting with
      | [] => (s, false)
      | w :: rest => (startEntry w (setWaiting rest s), false)
    else startDown s.announce.waiting.length s

/-- The path-free report where the path is left IDLE (R145). -/
def reportIfFree (s : State) : State :=
  match s.announce.path with
  | some _ => s
  | none => pathFreeReport s

/-- What follows every ending and every return from the path: the start step, the alert report and the path-free
report (R145, R147). -/
def afterEnding (s : State) : State := reportIfFree (reportAlert (startStep s).1)

/-- A start step that follows no ending (R141): it does nothing while the path is held, and the path-free report is due
only where a chime-only entry without a chime was removed (R145, R150). -/
def afterArrival (s : State) : State :=
  match s.announce.path with
  | some _ => s
  | none =>
    let step := startStep s
    let s1 := reportAlert step.1
    if step.2 then reportIfFree s1 else s1

/-! ### Requests (R137 to R140) -/

/-- A request as the announcement controller receives it (R137). -/
structure AnnRequest where
  cls : AnnClass
  clip : Nat
  mask : ZoneMask
  origin : Origin
  scene : Option Nat
  deriving DecidableEq, Repr

/-- The request joins as a WAITING entry with the next arrival order (R137 case 2). -/
def insertRequest (r : AnnRequest) (s : State) : State :=
  let e : Entry :=
    { cls := r.cls, clip := r.clip, mask := r.mask, origin := r.origin, scene := r.scene, state := .waiting,
      ticket := none, arrival := s.announce.nextArrival, chime := none, maxSeconds := 0 }
  { s with announce := { s.announce with
      waiting := insertRanked e s.announce.waiting, nextArrival := s.announce.nextArrival + 1 } }

/-- The path entry is preempted: the stop where its chime plays, its ticket retired with CLIP-CANCEL, and its return
to WAITING (R139). -/
def preempt (e : Entry) (s : State) : State :=
  let s1 := if e.state = .startingChime then stopChime s else s
  returnToWaiting e (notify (.clipCancel (e.ticket.getD 0)) (stopTimers s1))

/-- What follows an insertion: preemption by a CLEARANCE request, and the start step (R137, R139, R141). -/
def afterInsertion (cls : AnnClass) (s : State) : State :=
  match runningEntry s with
  | some e =>
    if cls = .clearance && 0 < e.cls.code then afterArrival (preempt e s) else s
  | none => afterArrival s

/-- The mask of every WAITING entry with the request's clip and class is widened (R137 case 1). -/
def mergeRequest (r : AnnRequest) (s : State) : State :=
  setWaiting (s.announce.waiting.map fun e =>
    if alike r.clip r.cls e then { e with mask := e.mask ||| r.mask } else e) s

/-- A request arrives: merge, insert, displace or drop (R137). -/
def announceRequest (r : AnnRequest) (s : State) : State :=
  if s.announce.waiting.any (alike r.clip r.cls) then mergeRequest r s
  else if queuedCount s < Config.announceDepth then afterInsertion r.cls (insertRequest r s)
  else
    match s.announce.waiting.getLast? with
    | some worst =>
      if r.cls.code < worst.cls.code then
        afterInsertion r.cls (insertRequest r
          (notify (.announceDisplaced worst.cls worst.clip worst.origin)
            (setWaiting s.announce.waiting.dropLast s)))
      else notify (.announceDropped r.cls r.clip r.origin) s
    | none => notify (.announceDropped r.cls r.clip r.origin) s

/-- Requests in their order. -/
def announceAll : List AnnRequest → State → State
  | [], s => s
  | r :: rs, s => announceAll rs (announceRequest r s)

/-! ### The phases of the path (R142 to R146) -/

/-- The chime's end is reported: STARTING-CHIME enters STARTING-CLIP, a chime-only run ends (R142, R150). -/
def chimeEnded (s : State) : State :=
  match s.announce.path with
  | none => s
  | some e =>
    match e.state with
    | .startingChime => enterStartingClip e s
    | .chimeOnly => afterEnding (setPath none s)
    | _ => s

/-- A kept announcement block is reported with its ticket: the first one starts the clip (R143). -/
def blockKept (ticket : Nat) (s : State) : State :=
  match s.announce.path with
  | none => s
  | some e =>
    if e.state = .startingClip && e.ticket = some ticket then
      { s with announce := { s.announce with
          path := some { e with state := .playing }, startTimer := none,
          durationTimer := some (Config.ms (e.maxSeconds * 1000)) } }
    else s

/-- Whether `ticket` is the path entry's while it is STARTING-CLIP or PLAYING (R10, R12, R144). -/
def ticketOnPath (ticket : Nat) (s : State) : Bool :=
  match s.announce.path with
  | none => false
  | some e => (e.state = .startingClip || e.state = .playing) && e.ticket = some ticket

/-- The path entry leaves the queue: its ticket is retired and both timers stop. -/
def removePath (s : State) : State := stopTimers (setPath none s)

/-- The END of a ticket is reported (R144). -/
def endReported (ticket : Nat) (s : State) : State :=
  match s.announce.path with
  | none => s
  | some e =>
    if ticketOnPath ticket s then
      afterEnding (notify (.clipEnded ticket e.clip e.cls .endMark) (removePath s))
    else s

/-- The start timer expires in STARTING-CLIP (R145). A timer with time left, started anew for another entry, has not
expired. -/
def startTimedOut (s : State) : State :=
  match s.announce.path with
  | none => s
  | some e =>
    if e.state = .startingClip ∧ s.announce.startTimer = some 0 then
      afterEnding (notify (.clipFailed (e.ticket.getD 0) e.clip e.cls .noStart) (removePath s))
    else s

/-- The maximum-duration timer expires in PLAYING (R145); one with time left has not expired. -/
def durationRanOut (s : State) : State :=
  match s.announce.path with
  | none => s
  | some e =>
    if e.state = .playing ∧ s.announce.durationTimer = some 0 then
      afterEnding (notify (.clipCancel (e.ticket.getD 0))
        (notify (.clipEnded (e.ticket.getD 0) e.clip e.cls .timeout) (removePath s)))
    else s

/-- The path entry is cancelled, with the stop to the generator while its chime plays. A chime-only entry has no
ticket and gives no notice (R145, R146). -/
def cancelPath (e : Entry) (s : State) : State :=
  let s1 := if e.state = .startingChime || e.state = .chimeOnly then stopChime s else s
  let s2 := removePath s1
  afterEnding (if e.state = .chimeOnly then s2 else notify (.clipCancel (e.ticket.getD 0)) s2)

/-- CANCEL by ticket (R146); the answer says whether an entry was removed. -/
def cancelTicket (ticket : Nat) (s : State) : State × Bool :=
  match runningEntry s with
  | some e => if e.ticket = some ticket then (cancelPath e s, true) else (s, false)
  | none => (s, false)

/-- CANCEL by class (R146); the answer says whether an entry was removed. -/
def cancelClass (cls : AnnClass) (s : State) : State × Bool :=
  let kept := s.announce.waiting.filter fun e => !decide (e.cls = cls)
  let s1 := setWaiting kept s
  match s.announce.path with
  | some e =>
    if e.cls = cls then (cancelPath e s1, true)
    else (s1, decide (kept.length < s.announce.waiting.length))
  | none => (s1, decide (kept.length < s.announce.waiting.length))

/-! ### Link loss and recovery (R148, R151) -/

/-- The controller at link loss, without the path-free report: the state after the start step, and whether the report
may be due (R148). -/
def announceLinkLoss (s : State) : State × Bool :=
  match s.announce.path with
  | none => (s, false)
  | some e =>
    match e.state with
    | .chimeOnly => (s, false)
    | .waiting => (s, false)
    | _ =>
      let s1 := stopTimers (if e.state = .startingChime then stopChime s else s)
      if e.cls = .clearance then
        let begun := beginChimeOnly e (notify (.clipFailed (e.ticket.getD 0) e.clip e.cls .link) s1)
        (reportAlert (if begun.2 then (startStep begun.1).1 else begun.1), true)
      else if e.state = .startingChime then (reportAlert (startStep (returnToWaiting e s1)).1, true)
      else
        (reportAlert (startStep
          (notify (.clipFailed (e.ticket.getD 0) e.clip e.cls .link) (setPath none s1))).1, true)

/-- The link has become UP: the start step (R151). -/
def announceLinkUp (s : State) : State := afterArrival s

/-! ### The timers' commands -/

/-- START_TIMER_EXPIRY (R145). -/
def execStartTimerExpiry (s : State) : Host.Outcome State Fault Refusal := .next (startTimedOut s)

/-- MAXIMUM_DURATION_EXPIRY (R145). -/
def execMaximumDurationExpiry (s : State) : Host.Outcome State Fault Refusal := .next (durationRanOut s)

end Sys2Proof.Machine
end

