-- ==== Sys2Proof/Machine/Route.lean ====
section
/-! DEFINITION. The route engine (chapter 6): conditions, crossing, the open-cue list, firing and skipping, position
fixes, stop requests, retries, and the odometer edge; and the wake of the seat lines by the route (R77). -/

namespace Sys2Proof.Machine

/-! ### Waking the lines (R76, R77) -/

/-- A line becomes AWAKE: the quiet timer restarts and a new round begins at address 0 (R76, R77). -/
def wakeLine (x : Line) : Line :=
  { x with state := .awake, sleepPending := false, quiet := some Config.quietTime, roundNext := 0,
           roundLeft := Config.roundTime, transaction := none, pairLow := false }

/-- A route START or RESUME at a line: a wake, or on an AWAKE line the restart of the quiet timer and the end of a
pending sleep (R74, R77). -/
def routeWake (x : Line) : Line :=
  match x.state with
  | .sleeping => wakeLine x
  | .awake => { x with sleepPending := false, quiet := some Config.quietTime }

/-- The route engine wakes every line (R105, R106). -/
def wakeLines (s : State) : State :=
  { s with lines := { s.lines with lines := s.lines.lines.map routeWake } }

/-! ### Conditions (R110) -/

/-- A predicate on an averaged value, none standing for unordered (R110). -/
def holds (p : Predicate) (value : Option Nat) (threshold : Nat) : Bool :=
  match p, value with
  | .always, _ => true
  | .lt, some v => v < threshold
  | .le, some v => v ≤ threshold
  | .gt, some v => threshold < v
  | .ge, some v => threshold ≤ v
  | .ult, some v => v < threshold
  | .ule, some v => v ≤ threshold
  | .ugt, some v => threshold < v
  | .uge, some v => threshold ≤ v
  | .lt, none | .le, none | .gt, none | .ge, none => false
  | .ult, none | .ule, none | .ugt, none | .uge, none => true

/-- A cue's condition as it stands; an absent one is ALWAYS (R108, R110). -/
def conditionTrue (c : Cue) (s : State) : Bool :=
  if c.conditionChannel = 255 then true
  else holds ((Predicate.ofCode c.predicate).getD .always) (orderedAverage c.conditionChannel s) c.threshold

/-- The window end E of a cue (R108). -/
def windowEnd (c : Cue) : Nat := c.trigger + c.window

def isSegment (c : Cue) : Bool := CueKind.ofCode c.kind = some .segment

/-- A cue's flag field is YES, which is code 0 (R182). -/
def isYes (code : Nat) : Bool := code = 0

/-! ### The serve test and the segment request (R125, R126) -/

/-- Whether a SEGMENT cue can be served now (R126). -/
def canServe (c : Cue) (s : State) : Bool :=
  s.link.state = .up && s.segment.live = .off && (s.playout.segmentCopy = 0 || isYes c.preempt)

/-- Segment control records a segment request (R125). -/
def recordSegment (n : Nat) (s : State) : State :=
  { s with segment := { s.segment with requested := n, count := s.segment.count + 1 } }

/-! ### Firing and skipping (R116, R117) -/

def setCueState (i : Nat) (x : CueState) (s : State) : State := setCue i (fun c => { c with state := x }) s

/-- A cue leaves the open-cue list. -/
def leaveList (i : Nat) (s : State) : State :=
  { s with route := { s.route with openCues := s.route.openCues.filter fun j => !decide (j = i) } }

def clearStop (s : State) : State := { s with route := { s.route with requested := none } }

/-- Whether a stop is requested and has number `n`. -/
def stopIs (n : Nat) (s : State) : Bool :=
  match s.route.requested with
  | some r => r.stop = n
  | none => false

/-- The lighting scene of a cue: RELEASE is none (R116). -/
def cueScene (c : Cue) : Option Nat := if c.scene = 255 then none else some c.scene

/-- The action of a fired cue, by its kind (R116). -/
def cueAction (i : Nat) (c : Cue) (s : State) : State :=
  match CueKind.ofCode c.kind with
  | some .segment => recordSegment c.segment s
  | some .stopApproach =>
    announceRequest
      { cls := .stop, clip := if stopIs c.stop s then c.clip + 1 else c.clip, mask := c.mask, origin := .cue i,
        scene := none } s
  | some .stopArrival =>
    let s1 := if stopIs c.stop s then notify (.stopReached c.stop) (clearStop s) else s
    if c.clip = 1023 then s1
    else announceRequest
      { cls := .service, clip := c.clip, mask := c.mask, origin := .cue i, scene := none } s1
  | some .clearance =>
    announceRequest
      { cls := .clearance, clip := c.clip, mask := c.mask, origin := .cue i, scene := cueScene c } s
  | some .scene => setCueScene (cueScene c) s
  | some .notice => s
  | none => s

/-- A cue fires (R116). -/
def fireCue (i : Nat) (s : State) : State :=
  let c := cueAt s i
  cueAction i c (notify (.cueFired i c.kind (position s)) (leaveList i (setCueState i .fired s)))

/-- A cue is skipped; the requested stop goes with its arrival cue (R117). -/
def skipCue (i : Nat) (reason : SkipReason) (s : State) : State :=
  let s1 := notify (.cueSkipped i reason (position s)) (leaveList i (setCueState i .skipped s))
  match s.route.requested with
  | some r => if r.cue = i then notify (.stopCleared r.stop .skipped) (clearStop s1) else s1
  | none => s1

/-! ### The position step (R111 to R113) -/

/-- A cue joins the open-cue list; at 16 cues the oldest is skipped first (R113). -/
def joinList (i : Nat) (s : State) : State :=
  let s1 :=
    if s.route.openCues.length < Config.openCueDepth then s
    else match s.route.openCues with
      | oldest :: _ => skipCue oldest .overflow s
      | [] => s
  { s1 with route := { s1.route with openCues := s1.route.openCues ++ [i] } }

/-- An open PENDING cue is evaluated (R111, R114): fired when its condition is true, but a SEGMENT cue only when it
can be served and none has fired in this step, and otherwise DEFERRED. The answer says whether a SEGMENT cue has
fired. -/
def evaluatePending (i : Nat) (s : State) (used : Bool) : State × Bool :=
  let c := cueAt s i
  if conditionTrue c s then
    if isSegment c then
      if canServe c s && !used then (fireCue i s, true) else (setCueState i .deferred s, used)
    else (fireCue i s, used)
  else (s, used)

/-- The open-list pass over the cues given (R111 part 1). -/
def openPass : List Nat → State → Bool → State × Bool
  | [], s, used => (s, used)
  | i :: rest, s, used =>
    let c := cueAt s i
    if windowEnd c < position s then openPass rest (skipCue i .window s) used
    else if c.state = .pending then
      let r := evaluatePending i s used
      openPass rest r.1 r.2
    else openPass rest s used

/-- An ARMED cue is crossed (R112). -/
def crossArmed (i : Nat) (s : State) (used : Bool) : State × Bool :=
  let c := cueAt s i
  let late := windowEnd c < position s
  if conditionTrue c s then
    if isSegment c then
      if canServe c s && !used then (fireCue i s, true)
      else if late then (skipCue i .window s, used)
      else (joinList i (setCueState i .deferred s), used)
    else (fireCue i s, used)
  else if late then (skipCue i .window s, used)
  else (joinList i (setCueState i .pending s), used)

def setCursor (n : Nat) (s : State) : State := { s with route := { s.route with cursor := n } }

/-- The crossing step (R112). `fuel` bounds the entries looked at; the cue table has 256. -/
def crossing : Nat → State → Bool → State
  | 0, s, _ => s
  | fuel + 1, s, used =>
    let i := s.route.cursor
    if Config.cueEntries ≤ i then s
    else
      let c := cueAt s i
      if !c.inUse then crossing fuel (setCursor (i + 1) s) used
      else if position s < c.trigger then s
      else
        let s1 := setCursor (i + 1) s
        match c.state with
        | .armed =>
          let r := crossArmed i s1 used
          crossing fuel r.1 r.2
        | _ => crossing fuel s1 used

/-- The position step: the open-list pass and then the crossing step (R111). -/
def positionStep (s : State) : State :=
  let r := openPass s.route.openCues s false
  crossing (Config.cueEntries + 1) r.1 r.2

/-! ### Results and retries (R114, R115) -/

/-- The PENDING cues of the open-cue list whose condition names channel `c`, evaluated in list order (R114). -/
def resultPass (c : Nat) : List Nat → State → Bool → State
  | [], s, _ => s
  | i :: rest, s, used =>
    let cue := cueAt s i
    if cue.state = .pending && cue.conditionChannel = c then
      let r := evaluatePending i s used
      resultPass c rest r.1 r.2
    else resultPass c rest s used

/-- A new raw result on channel `c` reaches the route engine (R114). -/
def resultReport (c : Nat) (s : State) : State :=
  if s.route.state = .running then resultPass c s.route.openCues s false else s

/-- The first DEFERRED cue that can be served fires (R115). -/
def retryPass : List Nat → State → State
  | [], s => s
  | i :: rest, s =>
    let c := cueAt s i
    if c.state = .deferred && canServe c s then fireCue i s else retryPass rest s

/-- A retry reaches the route engine (R115, R127). -/
def retry (s : State) : State :=
  if s.route.state = .running then retryPass s.route.openCues s else s

/-! ### Position (R103, R104, R118, R119) -/

def setDistance (d : BitVec 40) (s : State) : State := { s with route := { s.route with distance := d } }

/-- Whether a backward fix to `m` returns a cue to ARMED: an open cue ahead of `m`, or a repeatable cue ahead of it
that is FIRED or SKIPPED (R119 steps 2 and 3). -/
def rearmed (m : Nat) (c : Cue) : Bool :=
  m < c.trigger &&
    match c.state with
    | .pending | .deferred => true
    | .fired | .skipped => isYes c.repeatable
    | .armed => false

/-- Steps 2 to 4 of a backward fix to `m` (R119). -/
def backward (m : Nat) (s : State) : State :=
  let target := (findFrom (fun c : Cue => c.inUse && decide (m < c.trigger)) 0 s.route.cues).getD Config.cueEntries
  { s with route := { s.route with
      openCues := s.route.openCues.filter fun i => !decide (m < (cueAt s i).trigger)
      cues := s.route.cues.map fun c => if rearmed m c then { c with state := .armed } else c
      cursor := if target < s.route.cursor then target else s.route.cursor } }

/-- The distance in 0.1 mm of metre `m`. -/
def metres (m : Nat) : BitVec 40 := BitVec.ofNat 40 (m * 10000)

/-- A position fix to `m` that the request's checks have passed (R118, R119). -/
def fixPosition (m : Nat) (s : State) : State :=
  let before := position s
  let s1 := setDistance (metres m) s
  if m < before then backward m s1
  else if m = before then s1
  else if s.route.state = .running then positionStep s1
  else s1

/-- The pulse length in force, of the ODO channel record (R84, R103). -/
def pulseLength (s : State) : Nat := ((channelRecord s 0).map SenseRec.pulse).getD 0

/-- The route engine's half of an odometer edge (R103, R104). -/
def routeEdge (s : State) : State :=
  if s.route.state = .stopped then s
  else
    let sum := s.route.distance.toNat + pulseLength s
    let before := position s
    let s1 := setDistance (BitVec.ofNat 40 sum) s
    if 2 ^ 40 ≤ sum then
      let s2 := notify .distanceOverflow s1
      backward (position s2) s2
    else if s.route.state = .running && decide (position s1 ≠ before) then positionStep s1
    else s1

/-! ### Route runs (R105 to R107) -/

/-- The requested stop is cleared by the route, with its notice (R105, R107). -/
def routeClearsStop (s : State) : State :=
  match s.route.requested with
  | some r => notify (.stopCleared r.stop .route) (clearStop s)
  | none => s

/-- START (R105). -/
def startRoute (s : State) : State :=
  let s1 := { s with route := { s.route with
    distance := 0, cues := s.route.cues.map fun c => { c with state := .armed }, cursor := 0, openCues := [] } }
  let s2 := routeClearsStop s1
  positionStep (wakeLines { s2 with route := { s2.route with state := .running } })

/-- RESUME of a HELD route (R106). -/
def resumeRoute (s : State) : State :=
  retry (positionStep (wakeLines { s with route := { s.route with state := .running } }))

/-- STOP (R107). -/
def stopRoute (s : State) : State :=
  routeClearsStop { s with route := { s.route with state := .stopped } }

/-! ### Stop requests (R120) -/

/-- A cue that a stop press may target: in use, STOP-ARRIVAL, and ARMED, PENDING or DEFERRED (R120). -/
def stopTarget (c : Cue) : Bool :=
  c.inUse && decide (CueKind.ofCode c.kind = some .stopArrival) &&
    match c.state with
    | .armed | .pending | .deferred => true
    | .fired | .skipped => false

/-- A stop request from a line and box (R120). -/
def stopPress (line box : Nat) (s : State) : State :=
  if s.route.state = .stopped || s.route.requested.isSome then s
  else
    match findFrom stopTarget 0 s.route.cues with
    | none => s
    | some i =>
      let n := (cueAt s i).stop
      notify (.stopRequested n i line box)
        { s with route := { s.route with requested := some { stop := n, cue := i } } }

end Sys2Proof.Machine
end

