-- ==== Sys2Proof/Machine/Segment.lean ====
section
/-! DEFINITION. Live becoming OFF and the retries it reports (R127, R130, R131); the serve test and the segment
record stand in Route.lean, the grant and the masks in Live.lean. -/

namespace Sys2Proof.Machine

/-- Live becomes OFF: both masks are emptied, with LIVE-ENDED (R130, R131). -/
def dropLive (s : State) : State :=
  notify .liveEnded { s with segment := { s.segment with live := .off, liveMask := 0, heldMask := 0 } }

/-- Live becomes OFF from ON or REQUESTED, and one retry is reported; from OFF nothing changes (R130, R131). What
`between` does comes after live is OFF and before the retry report (R133). -/
def endLiveAround (between : State → State) (s : State) : State :=
  match s.segment.live with
  | .off => between s
  | _ => retry (between (dropLive s))

/-- Live becomes OFF with its retry, and nothing between (R130, R131). -/
def endLive (s : State) : State := endLiveAround (fun x => x) s

/-- LIVE ON with a mask already checked (R128); the answer is the reply. -/
def askLive (mask : LanguageMask) (s : State) : State × ReplyCode :=
  let effective := mask &&& eligible s
  match s.segment.live with
  | .on => ({ s with segment := { s.segment with liveMask := effective } }, .done)
  | _ =>
    if pathBusy s then
      ({ s with segment := { s.segment with live := .requested, heldMask := effective } }, .deferred)
    else (grantLive effective s, .done)

/-- The segment indicator copy takes a value; becoming 0 from a nonzero value is reported, which is a retry
(R14, R127). -/
def setSegmentCopy (n : Nat) (s : State) : State :=
  let s1 := { s with playout := { s.playout with segmentCopy := n } }
  if s.playout.segmentCopy ≠ 0 ∧ n = 0 then retry s1 else s1

end Sys2Proof.Machine
end

