-- ==== Sys2Proof/Machine/Playout.lean ====
section
/-! DEFINITION. The playout buffer (chapter 1): the sequence test, block keeping, the queue, the handover at a frame
start, and link loss. -/

namespace Sys2Proof.Machine

/-- The sequence test: newer when nothing has been accepted, or the difference lies in 1..32767 (R4). -/
def isNewer (last : Option (BitVec 16)) (new : BitVec 16) : Bool :=
  match last with
  | none => true
  | some l => 1 ≤ (new - l).toNat && (new - l).toNat ≤ 32767

/-- An enabled entry of the map claims a tag (R8). -/
def tagClaimed (map : List LangEntry) (tag : Nat) : Bool := map.any fun e => e.enabled && decide (e.tag = tag)

/-- The test of a block by its tag (R7 to R10). -/
def blockTest (s : State) (b : ChannelBlock) : Bool :=
  if b.tag ≤ 29 then tagClaimed s.seats.map b.tag
  else if b.tag = 30 then true
  else if b.tag = 31 then ticketOnPath b.ticket s
  else false

/-- A block as it is held: the ticket and END mark on tag 31 only (R1). -/
def keptBlock (b : ChannelBlock) : KeptBlock :=
  { tag := b.tag, samples := b.samples,
    mark := if b.tag = 31 then some { ticket := b.ticket, endMark := b.endMark } else none }

/-- The blocks kept, examined in their order: a tag already held is discarded without its test (R7). -/
def keepBlocks (s : State) : List ChannelBlock → List KeptBlock → List KeptBlock
  | [], kept => kept
  | b :: bs, kept =>
    if kept.any (fun k => decide (k.tag = b.tag)) then keepBlocks s bs kept
    else if blockTest s b then keepBlocks s bs (kept ++ [keptBlock b])
    else keepBlocks s bs kept

/-- The announcement controller is told of each kept announcement block (R10). -/
def reportKept : List KeptBlock → State → State
  | [], s => s
  | k :: ks, s =>
    match k.mark with
    | some m => reportKept ks (blockKept m.ticket s)
    | none => reportKept ks s

/-- The queue with a frame appended, the oldest displaced when it holds 4 (R5). -/
def enqueue (f : QueuedFrame) (queue : List QueuedFrame) : List QueuedFrame :=
  (if queue.length < Config.playoutDepth then queue else queue.tail) ++ [f]

/-- An AUDIO frame is taken in: sequence test, block keeping, queue, playout state (R3 to R10). -/
def takeAudio (f : AudioFrame) (s : State) : State :=
  if isNewer s.playout.lastSequence f.sequence then
    let kept := keepBlocks s f.blocks []
    let queue := enqueue { sequence := f.sequence, segment := f.segment, kept := kept } s.playout.queue
    let state := if s.playout.state = .filling ∧ queue.length = 2 then PlayoutState.playing else s.playout.state
    reportKept kept
      { s with playout := { s.playout with queue := queue, state := state, lastSequence := some f.sequence } }
  else s

/-- A block reaches the mix engine: any but an announcement block whose ticket is not the path's (R12). -/
def passesHandover (s : State) (k : KeptBlock) : Bool :=
  match k.mark with
  | some m => ticketOnPath m.ticket s
  | none => true

/-- The ticket of a block that carries the END mark into the mix engine (R12). -/
def endTicket (frame : List KeptBlock) : Option Nat :=
  (frame.filterMap KeptBlock.mark).findSome? fun m => if m.endMark then some m.ticket else none

/-- The frame handed to the mix engine at a frame start, and the buffer after it (R11 to R14). -/
def handOver (s : State) : List KeptBlock × State :=
  match s.playout.state with
  | .filling => ([], s)
  | .playing =>
    match s.playout.queue with
    | [] => ([], { s with playout := { s.playout with state := .filling } })
    | f :: rest =>
      (f.kept.filter (passesHandover s),
       setSegmentCopy f.segment { s with playout := { s.playout with queue := rest } })

/-- The playout buffer at link loss (R15). -/
def playoutLinkLoss (s : State) : State :=
  setSegmentCopy 0
    { s with playout := { s.playout with queue := [], state := .filling, lastSequence := none } }

end Sys2Proof.Machine
end

