-- ==== Sys2Proof/Machine/Report.lean ====
section
/-! DEFINITION. The REPORT frame (section 10.4, 11.5): its header, the items it takes, and its bytes. -/

namespace Sys2Proof.Machine

/-- The ticket and clip the header shows (R134): ticket 0 in CHIME-ONLY and IDLE, clip 0 in IDLE. -/
def pathTicket (s : State) : Nat :=
  match s.announce.path with
  | some e => e.ticket.getD 0
  | none => 0

def pathClip (s : State) : Nat :=
  match s.announce.path with
  | some e => e.clip
  | none => 0

/-- The speed of the header: the averaged ODO value, 0 when none is present (R174). -/
def headerSpeed (s : State) : Nat :=
  let r := resultRecord s 0
  if r.avgPresent then r.avgValue else 0

/-- Byte 8 of the header: bit 0 while the speed is unordered, bit 1 the notices-lost flag (section 11.5). -/
def headerMarks (s : State) : Nat :=
  (if (orderedAverage 0 s).isNone then 1 else 0) + (if s.manage.noticesLost then 2 else 0)

/-- The requested stop's number, 0 for none. -/
def headerStop (s : State) : Nat :=
  match s.route.requested with
  | some r => r.stop
  | none => 0

/-- The 19 bytes of the header with `items` items (R174, section 11.5). -/
def reportHeader (s : State) (items : Nat) : List Byte :=
  natBytes 1 s.link.state.viewCode ++ natBytes 1 s.route.state.code ++ natBytes 4 (position s) ++
    natBytes 2 (headerSpeed s) ++ natBytes 1 (headerMarks s) ++ natBytes 1 (headerStop s) ++
    natBytes 1 (pathCode s.announce.path) ++ natBytes 1 (pathTicket s) ++ natBytes 2 (pathClip s) ++
    natBytes 2 s.segment.requested ++ natBytes 1 s.segment.count.toNat ++ natBytes 1 s.segment.live.code ++
    natBytes 1 items

/-- What a report takes: the items' bytes, and the lists left. -/
structure Taken where
  items : List (List Byte)
  replies : List Reply
  notices : List Notice
  deriving DecidableEq, Repr

/-- Items are taken while `places` are left and the body stays within the limit: replies from the front, then notices;
an item that does not fit ends the taking (R174, R185). `size` is the body's length so far. -/
def takeItems : Nat → Nat → List Reply → List Notice → Taken
  | 0, _, replies, notices => { items := [], replies := replies, notices := notices }
  | places + 1, size, replies, notices =>
    match replies, notices with
    | r :: rs, _ =>
      let item := encodeReply r
      if size + item.length ≤ Config.reportBodyLimit then
        let rest := takeItems places (size + item.length) rs notices
        { rest with items := item :: rest.items }
      else { items := [], replies := replies, notices := notices }
    | [], n :: ns =>
      let item := encodeNotice n
      if size + item.length ≤ Config.reportBodyLimit then
        let rest := takeItems places (size + item.length) [] ns
        { rest with items := item :: rest.items }
      else { items := [], replies := [], notices := notices }
    | [], [] => { items := [], replies := [], notices := [] }

/-- The length of the report header (section 11.5). -/
def headerLength : Nat := 19

/-- The REPORT frame of a frame start: none in WAIT, the header alone in LOST, the header and up to four items in UP
(R174). -/
def buildReport (s : State) : State :=
  match s.link.state with
  | .wait => s
  | .lost => { s with report := some (frameBytes 0x81#8 (reportHeader s 0)) }
  | .up =>
    let taken := takeItems Config.reportItems headerLength s.manage.replies s.manage.notices
    { s with
      report := some (frameBytes 0x81#8 (reportHeader s taken.items.length ++ taken.items.flatten))
      manage := { s.manage with replies := taken.replies, notices := taken.notices } }

end Sys2Proof.Machine
end

