-- ==== Sys2Proof/Machine/Link.lean ====
section
/-! DEFINITION. The link interface (chapter 11): the frame checker, the valid frames and what they bring, bad frames,
and supervision. -/

namespace Sys2Proof.Machine

/-! ### The frame checker (R179, R180) -/

/-- How the bytes after a sync pair stand: the frame goes on, it is bad, or it ends valid. -/
inductive FrameEnd where
  | unfinished
  | bad
  | audio (body : List Byte)
  | request (body : List Byte)
  deriving DecidableEq, Repr

/-- The frame that begins with the sync pair before `bytes`, and the bytes after it where it ends valid: kind, length,
body, check (R179), and the test against its kind (R180). -/
def judgeFrame (bytes : List Byte) : FrameEnd × List Byte :=
  match bytes with
  | [] => (.unfinished, [])
  | kind :: rest =>
    if kind ≠ 0x01#8 ∧ kind ≠ 0x02#8 then (.bad, [])
    else if rest.length < 2 then (.unfinished, [])
    else
      let size := wordAt rest 0
      if Config.inboundBodyLimit < size then (.bad, [])
      else if rest.length < size + 4 then (.unfinished, [])
      else
        let body := (rest.drop 2).take size
        let check := wordAt (rest.drop (2 + size)) 0
        if check ≠ (crc (kind :: rest.take (2 + size))).toNat then (.bad, [])
        else if kind = 0x01#8 then
          if audioValid body then (.audio body, rest.drop (size + 4)) else (.bad, [])
        else if 2 ≤ size then (.request body, rest.drop (size + 4)) else (.bad, [])

/-- What the frame checker finds in the bytes it holds, hunting for the sync pair: the first frame's end, and the
bytes it goes on with. An unfinished frame keeps its bytes; a bad frame leaves those after its first sync byte
(R179). -/
def checkFrames : List Byte → FrameEnd × List Byte
  | [] => (.unfinished, [])
  | [b] => (.unfinished, if b = 0xB7#8 then [b] else [])
  | b :: c :: rest =>
    if b = 0xB7#8 ∧ c = 0x4E#8 then
      match judgeFrame rest with
      | (.unfinished, _) => (.unfinished, b :: c :: rest)
      | (.bad, _) => (.bad, c :: rest)
      | (found, after) => (found, after)
    else checkFrames (c :: rest)

/-- The frames left unfinished by a gap end as bad frames: each loses its first sync byte until the bytes hold no
unfinished frame; a last byte 0xB7 alone is no frame yet, so it stays (R179; DEDUCED,
notes/assumptions/8.md). -/
def dropUnfinished : List Byte → List Byte
  | [] => []
  | [b] => if b = 0xB7#8 then [b] else []
  | b :: c :: rest =>
    match checkFrames (b :: c :: rest) with
    | (.unfinished, _) => dropUnfinished (c :: rest)
    | _ => b :: c :: rest

/-- The bytes held, once what no due frame stands in has been passed over: `carry` and the bytes that gaps have ended,
from the oldest on, and then those with no gap behind them. A burst whose unfinished frames the gap has ended is kept
while another frame in it is due; what is left of it otherwise, a last byte 0xB7 or nothing, goes before the bytes
behind it (R179; DEDUCED, notes/assumptions/8.md). -/
def settleBursts (carry : List Byte) : List (List Byte) → List Byte → List (List Byte) × List Byte
  | [], bytes => ([], carry ++ bytes)
  | burst :: rest, bytes =>
    let kept := dropUnfinished (carry ++ burst)
    match checkFrames kept with
    | (.unfinished, _) => settleBursts kept rest bytes
    | _ => (kept :: rest, bytes)

/-- The first frame's end in the bytes held, and the bytes the frame checker goes on with (R179). -/
def firstFrame (ended : List (List Byte)) (bytes : List Byte) : FrameEnd × List (List Byte) × List Byte :=
  match ended with
  | [] => ((checkFrames bytes).1, [], (checkFrames bytes).2)
  | burst :: rest => ((checkFrames burst).1, (checkFrames burst).2 :: rest, bytes)

/-- The link interface holds these bytes. -/
def storeBytes (ended : List (List Byte)) (bytes : List Byte) (s : State) : State :=
  let held := settleBursts [] ended bytes
  { s with link := { s.link with ended := held.1, received := held.2 } }

/-- The bytes are held for the event that is due; bytes that begin no frame are passed over (R179). -/
def holdBytes (bytes : List Byte) (s : State) : State :=
  match firstFrame s.link.ended bytes with
  | (.unfinished, ended, kept) => storeBytes ended kept s
  | _ => storeBytes s.link.ended bytes s

/-! ### Supervision (R181) -/

/-- A valid frame at the link interface: the timer restarts; from WAIT or LOST the link first becomes UP, a recovery
from LOST is noticed, and the link up is reported to segment control and the announcement controller (R127, R151,
R181). -/
def validFrame (s : State) : State :=
  let s1 := { s with link := { s.link with state := .up, supervision := some Config.supervisionTime } }
  match s.link.state with
  | .up => s1
  | .wait => announceLinkUp (retry s1)
  | .lost => announceLinkUp (retry (notify .linkRestored s1))

/-- A request at its arrival: it joins the queue, or is refused with QUEUE-FULL, or is discarded with the
notices-lost flag set where the reply list is full too (R167). -/
def takeRequest (r : Request) (s : State) : State :=
  if s.manage.requests.length < Config.requestDepth then
    { s with manage := { s.manage with requests := s.manage.requests ++ [r] } }
  else if s.manage.replies.length < Config.replyDepth then
    { s with manage := { s.manage with
        replies := s.manage.replies ++ [{ tag := r.tag, kind := r.kind, code := .queueFull, data := [] }] } }
  else loseNotice s

/-- AUDIO_FRAME (R3, R180, R181). Where the frame that ends first is not a valid AUDIO frame, the bytes are held for
the event that is due. -/
def execAudioFrame (bytes : List Byte) (s : State) : Host.Outcome State Fault Refusal :=
  let buffer := s.link.received ++ bytes
  .next (match firstFrame s.link.ended buffer with
    | (.audio body, ended, after) => takeAudio (decodeAudio body) (validFrame (storeBytes ended after s))
    | _ => holdBytes buffer s)

/-- REQUEST_FRAME (R167, R180, R181). -/
def execRequestFrame (bytes : List Byte) (s : State) : Host.Outcome State Fault Refusal :=
  let buffer := s.link.received ++ bytes
  .next (match firstFrame s.link.ended buffer with
    | (.request body, ended, after) => takeRequest (decodeRequest body) (validFrame (storeBytes ended after s))
    | _ => holdBytes buffer s)

/-- BAD_FRAME (R179): the frame is discarded and hunting resumes after its first sync byte. -/
def execBadFrame (bytes : List Byte) (s : State) : Host.Outcome State Fault Refusal :=
  let buffer := s.link.received ++ bytes
  .next (match firstFrame s.link.ended buffer with
    | (.bad, ended, after) => storeBytes ended after s
    | _ => holdBytes buffer s)

/-- BYTE_GAP_TIMEOUT (R179): the bytes up to the gap are ended, with every frame that is unfinished in them, be it found
before or after another frame in them. -/
def execByteGapTimeout (bytes : List Byte) (s : State) : Host.Outcome State Fault Refusal :=
  .next (storeBytes (s.link.ended ++ [s.link.received ++ bytes]) [] s)

/-- The link becomes LOST, and each block deals with the loss (R15, R131, R148, R175, R181). With `liveFirst` live
control takes the loss before the path-free report (R129). -/
def loseLink (liveFirst : Bool) (s : State) : State :=
  let s1 := playoutLinkLoss { s with link := { s.link with state := .lost, supervision := none } }
  let s2 := if liveFirst then endLive s1 else s1
  let path := announceLinkLoss s2
  let s3 := if path.2 then reportIfFree path.1 else path.1
  let s4 := if liveFirst then s3 else endLive s3
  { s4 with manage := { s4.manage with requests := [] } }

/-- SUPERVISION_TIMER_EXPIRY (R181): it runs in UP only, and a timer that an arrival taken first has restarted has not
expired (R16). -/
def execSupervisionTimerExpiry (liveFirst : Bool) (s : State) : Host.Outcome State Fault Refusal :=
  .next (match s.link.state, s.link.supervision with
    | .up, some 0 => loseLink liveFirst s
    | _, _ => s)

end Sys2Proof.Machine
end

