-- ==== Sys2Proof/Machine/Seats.lean ====
section
/-! DEFINITION. The seat record store (chapter 2): the checks of LANGUAGE and SEAT writes, the frame-start work, and
what a STATUS and an IDENT bring to the seat records. -/

namespace Sys2Proof.Machine

/-! ### The map (R17 to R19, R22) -/

/-- The default language of a map (R18). -/
def defaultLanguage (map : List LangEntry) : Option Nat :=
  match findFrom (fun e : LangEntry => e.enabled && e.isDefault) 0 map with
  | some i => some i
  | none => findFrom LangEntry.enabled 0 map

/-- Language `i` is an enabled entry. -/
def languageEnabled (map : List LangEntry) (i : Nat) : Bool := ((map[i]?).map LangEntry.enabled).getD false

/-- The map after the LANGUAGE writes held (R19). -/
def heldMap : List HeldSeatWrite → List LangEntry → List LangEntry
  | [], map => map
  | .language first records :: rest, map => heldMap rest (writeAt map first records)
  | .seat _ _ :: rest, map => heldMap rest map

/-- The tags claimed by the enabled entries. -/
def claimedTags (map : List LangEntry) : List Nat := (map.filter LangEntry.enabled).map LangEntry.tag

/-- The checks of R19 on the map that results: no tag claimed twice, and at most one enabled default. -/
def mapOk (map : List LangEntry) : Bool :=
  decide (claimedTags map).Nodup && decide ((map.filter fun e => e.enabled && e.isDefault).length ≤ 1)

/-- A language that a SEAT write may give: enabled in the map, or NONE while no entry is (R22). -/
def seatLanguageOk (map : List LangEntry) : Option Nat → Bool
  | some i => languageEnabled map i
  | none => !map.any LangEntry.enabled

/-! ### Changing a seat's language or volume step (R31) -/

/-- The box of a seat is marked display pending. -/
def markSeat (n : Nat) (s : State) : State := markDisplay (n / 24) (n % 24 / 2) s

/-- A seat takes a language, marking its box where it is a different one (R31). -/
def setLanguage (n : Nat) (language : Option Nat) (s : State) : State :=
  if (seatAt s n).language = language then s
  else markSeat n (setSeat n (fun x => { x with language := language }) s)

/-- A seat takes a volume step, marking its box where it is a different one (R31). -/
def setVolume (n volume : Nat) (s : State) : State :=
  if (seatAt s n).volume = volume then s
  else markSeat n (setSeat n (fun x => { x with volume := volume }) s)

/-! ### The work at the frame start (R24) -/

/-- A SEAT write's records take effect from seat `n` on (R22, R24). -/
def applySeatWrites : Nat → List SeatWrite → State → State
  | _, [], s => s
  | n, w :: ws, s =>
    applySeatWrites (n + 1) ws
      (setVolume n w.volume (setLanguage n w.language (setSeat n (fun x => { x with zone := w.zone }) s)))

/-- The held writes take effect in their order (R24 step 1). -/
def applySeatHeld : List HeldSeatWrite → State → State
  | [], s => s
  | .language first records :: rest, s =>
    applySeatHeld rest { s with seats := { s.seats with map := writeAt s.seats.map first records } }
  | .seat first records :: rest, s => applySeatHeld rest (applySeatWrites first records s)

/-- The language a seat is on after the moves: its own while that is enabled, and otherwise the default (R24
step 2). -/
def movedLanguage (map : List LangEntry) : Option Nat → Option Nat
  | some i => if languageEnabled map i then some i else defaultLanguage map
  | none => defaultLanguage map

/-- The seats given are moved off languages that are not enabled (R24 step 2). -/
def moveSeats : List Nat → State → State
  | [], s => s
  | n :: rest, s => moveSeats rest (setLanguage n (movedLanguage s.seats.map (seatAt s n).language) s)

/-- Whether a LANGUAGE write is held. -/
def languageHeld (held : List HeldSeatWrite) : Bool :=
  held.any fun w => match w with
    | .language _ _ => true
    | .seat _ _ => false

/-- The seat record store's work at a frame start, and live control's where a LANGUAGE write takes effect (R24, R20,
R132). -/
def seatFrameWork (s : State) : State :=
  let held := s.seats.held
  let s1 := applySeatHeld held { s with seats := { s.seats with held := [] } }
  let s2 := moveSeats (List.range 96) s1
  if languageHeld held then filterLiveMasks s2 else s2

/-! ### Buttons and jacks (R25 to R29) -/

/-- The language `delta` places after `current` among the enabled entries (R28). -/
def stepLanguage (map : List LangEntry) (delta : Nat) : Option Nat → Option Nat
  | none => none
  | some i =>
    let enabled := indicesFrom LangEntry.enabled 0 map
    match findFrom (fun j => decide (j = i)) 0 enabled with
    | some place => enabled[(place + delta) % enabled.length]?
    | none => some i

/-- The volume step after its deltas: up first, saturating at 15, then down, saturating at 0 (R27). The two parts are
the step after each. -/
def afterUp (volume up : Nat) : Nat := min (volume + up) 15

/-- The deltas of a delivery: 0 each in a baseline delivery (R26). -/
def delta (baseline : Bool) (new last : BitVec 4) : Nat := if baseline then 0 else (new - last).toNat

/-- The jack of a fitted seat is compared: insertion sets the default volume step in force (R29). -/
def takeJack (n : Nat) (jack : Bool) (s : State) : State :=
  let was := (seatAt s n).jack
  let s1 := setSeat n (fun x => { x with jack := jack }) s
  if jack && !was then setVolume n s.mix.params.defaultStep s1 else s1

/-- One side of a delivery at its seat (R26 to R29). -/
def deliverSide (baseline : Bool) (n : Nat) (side : SideStatus) (s : State) : State :=
  let x := seatAt s n
  if x.fitted then
    let up := delta baseline side.up x.lastUp
    let down := delta baseline side.down x.lastDown
    let language := delta baseline side.language x.lastLanguage
    let s1 := setSeat n (fun y => { y with
      lastLanguage := side.language, lastUp := side.up, lastDown := side.down }) s
    let s2 := takeJack n side.jack s1
    let s3 := setVolume n (afterUp (seatAt s2 n).volume up) s2
    let s4 := setVolume n ((seatAt s3 n).volume - down) s3
    setLanguage n (stepLanguage s4.seats.map language (seatAt s4 n).language) s4
  else s

/-- A STATUS delivery, side A first (R25). -/
def deliverStatus (line box : Nat) (baseline : Bool) (a : StatusAnswer) (s : State) : State :=
  deliverSide baseline (seatNumber line box 1) a.sideB (deliverSide baseline (seatNumber line box 0) a.sideA s)

/-- The seat count of a box sets its seats' fitted fields (R30). -/
def fitSeats (line box count : Nat) (s : State) : State :=
  setSeat (seatNumber line box 1) (fun x => { x with fitted := decide (count = 2) })
    (setSeat (seatNumber line box 0) (fun x => { x with fitted := true }) s)

end Sys2Proof.Machine
end

