-- ==== Sys2Proof/Machine/Lines.lean ====
section
/-! DEFINITION. The seat line controllers (chapter 4): poll rounds, transactions and their judgement, box states,
what a STATUS delivers, displays, sleep and wake, and the commands of the lines. -/

namespace Sys2Proof.Machine

/-! ### Sleep (R74, R75, R80) -/

/-- A line enters SLEEPING: its round is abandoned and 0 stands in every slot (R75, R80). -/
def sleepLine (x : Line) : Line :=
  { x with state := .sleeping, sleepPending := false, quiet := none, roundNext := 0, roundLeft := Config.roundTime,
           transaction := none, pairLow := false, slots := silentSlots }

/-- A jack PRESENT on a fitted side: the quiet timer restarts and a pending sleep is cancelled (R70, R74). -/
def quietRestart (x : Line) : Line := { x with quiet := some Config.quietTime, sleepPending := false }

/-! ### Poll rounds (R65, R66) -/

/-- The interval of a box state, in rounds (R66). -/
def interval : BoxState → Nat
  | .absent => 16 | .active => 1 | .suspect => 2 | .isolated => 64

/-- The due test (R65). -/
def isDue (b : Box) : Bool := interval b.state - 1 ≤ b.rounds

/-- The state of the seat table and box record that a DISPLAY shows (R63). -/
def displayOf (l b : Nat) (s : State) : List Byte :=
  displayData (seatAt s (seatNumber l b 0)) (seatAt s (seatNumber l b 1)) (boxAt s l b).lamp (boxAt s l b).icon

/-- The characters a controller sends in a transaction: the header, and for a DISPLAY its data and check (R61 to
R63, R186). -/
def charactersSent (l b : Nat) (kind : TxKind) (s : State) : List LineBits :=
  match kind with
  | .display =>
    let data := displayOf l b s
    headerChar b kind :: (data ++ [lineCheck (lineAt s l).mode b kind data]).map dataChar
  | _ => [headerChar b kind]

/-- A transaction begins, in the line's check mode (R57, R61 to R63). A DISPLAY clears the box's pending mark. -/
def beginTransaction (l b : Nat) (kind : TxKind) (turnState : BoxState) (s : State) : State :=
  let tx : Transaction :=
    { box := b, kind := kind, mode := (lineAt s l).mode, turnState := turnState,
      sent := charactersSent l b kind s, low := false }
  let s1 := setLine l (fun x => { x with transaction := some tx }) s
  match kind with
  | .display => setBox l b (fun x => { x with displayPending := false }) s1
  | _ => s1

/-- The first transaction of a due box's turn (R66). -/
def firstKind : BoxState → TxKind
  | .absent => .ident
  | _ => .status

/-- A box that is not due gets no transaction; its count rises, staying at 63 (R65). -/
def passBox (l b : Nat) (s : State) : State := setBox l b (fun x => { x with rounds := min (x.rounds + 1) 63 }) s

/-- The end of a round's turns: the next round begins when the 4 ms have run out, and is waited for otherwise
(R65). -/
def endRound (l : Nat) (s : State) : State :=
  setLine l (fun x =>
    if x.roundLeft = 0 then { x with roundNext := 0, roundLeft := Config.roundTime, transaction := none }
    else { x with roundNext := 12, transaction := none }) s

/-- The round goes on from address `b` for `count` addresses: boxes that are not due are passed, and the first due
box's turn begins (R65, R66). -/
def servePoll (l : Nat) : Nat → Nat → State → State
  | _, 0, s => endRound l s
  | b, count + 1, s =>
    let x := boxAt s l b
    if isDue x then
      beginTransaction l b (firstKind x.state) x.state (setLine l (fun y => { y with roundNext := b + 1 }) s)
    else servePoll l (b + 1) count (passBox l b s)

/-- The round goes on from the line's next address. -/
def servePollNext (l : Nat) (s : State) : State :=
  let b := (lineAt s l).roundNext
  servePoll l b (12 - b) s

/-- A box's turn ends: its rounds-since-poll is set to 0, and the line sleeps where a sleep is pending or goes on with
its round (R65, R74). -/
def endTurn (l b : Nat) (s : State) : State :=
  let s1 := setBox l b (fun x => { x with rounds := 0 }) s
  if (lineAt s1 l).sleepPending then setLine l sleepLine s1
  else servePollNext l (setLine l (fun x => { x with transaction := none }) s1)

/-! ### Box states (R64, R67 to R69) -/

/-- A box takes a state and fault count, with a BOX-STATE notice where the state changes (R69). -/
def setBoxState (l b : Nat) (state : BoxState) (count : Nat) (s : State) : State :=
  let s1 := setBox l b (fun x => { x with state := state, faultCount := count }) s
  if (boxAt s l b).state = state then s1 else notify (.boxState l b state count) s1

/-- The state after a failure that made the fault count `count` (R67). -/
def failedState (state : BoxState) (count : Nat) : BoxState :=
  match state with
  | .active => if 12 ≤ count then .suspect else .active
  | .suspect => if 24 ≤ count then .isolated else .suspect
  | .isolated => .isolated
  | .absent => .absent

/-- A failed STATUS or DISPLAY at a box (R67); an IDENT does not change the fault count. -/
def boxFailure (l b : Nat) (s : State) : State :=
  let x := boxAt s l b
  match x.state with
  | .absent => s
  | _ =>
    let count := min (x.faultCount + 4) 31
    setBoxState l b (failedState x.state count) count s

/-- A successful STATUS at a box (R67). -/
def boxSuccess (l b : Nat) (s : State) : State :=
  let x := boxAt s l b
  match x.state with
  | .absent => s
  | .active => setBoxState l b .active (x.faultCount - 1) s
  | .suspect =>
    let count := x.faultCount - 1
    setBoxState l b (if count < 8 then .active else .suspect) count s
  | .isolated => setBoxState l b .suspect 16 s

/-- A counter that stays at 65535 (R56). -/
def bump (n : Nat) : Nat := min (n + 1) 65535

/-- A failure adds 1 to the line's counter of its kind (R64). -/
def countFailure (f : LineFailure) (x : Line) : Line :=
  match f with
  | .noResponse => { x with noResponses := bump x.noResponses }
  | .check => { x with checkFailures := bump x.checkFailures }
  | .framing => { x with framingFailures := bump x.framingFailures }
  | .echo => { x with echoFailures := bump x.echoFailures }

/-- Whether a failure is counted: not a NO-RESPONSE on an IDENT (R64). -/
def isCounted (kind : TxKind) (f : LineFailure) : Bool := !(kind = .ident && f = .noResponse)

/-- A transaction ends with a failure: the counter, the box (R64, R67), and a DISPLAY whose echo failed is pending
again (R63). -/
def failTransaction (l : Nat) (tx : Transaction) (f : LineFailure) (s : State) : State :=
  let s1 := if isCounted tx.kind f then setLine l (countFailure f) s else s
  match tx.kind with
  | .ident => s1
  | .status => boxFailure l tx.box s1
  | .display => boxFailure l tx.box (if f = .echo then markDisplay l tx.box s1 else s1)

/-- The judgement of an answer of `data` data characters and a check, by the first test of R64 that applies; none is a
pass. -/
def judgeAnswer (tx : Transaction) (data : Nat) (answer : List LineChar) : Option LineFailure :=
  if tx.low then some .framing
  else if answer.any charBroken || answer.length ≠ data + 1 then some .framing
  else
    let bytes := answer.map charByte
    if (bytes.getD data 0) ≠ lineCheck tx.mode tx.box tx.kind (bytes.take data) then some .check else none

/-! ### What a STATUS delivers (R70 to R72) -/

/-- A side reports jack PRESENT and its seat is fitted (R70). -/
def headsetIn (l b : Nat) (a : StatusAnswer) (s : State) : Bool :=
  (a.sideA.jack && (seatAt s (seatNumber l b 0)).fitted) || (a.sideB.jack && (seatAt s (seatNumber l b 1)).fitted)

/-- The stop count: a delta makes one stop request and one seat beep request (R71). -/
def takeStop (l b : Nat) (baseline : Bool) (stop : BitVec 4) (s : State) : State :=
  let pressed := delta baseline stop (boxAt s l b).lastStop
  let s1 := setBox l b (fun x => { x with lastStop := stop }) s
  if pressed = 0 then s1 else requestBeep l b (stopPress l b s1)

/-- The box-fault, compared with the last one (R72). -/
def takeBoxFault (l b : Nat) (value : Bool) (s : State) : State :=
  if (boxAt s l b).boxFault = value then s
  else notify (.boxFault l b value) (setBox l b (fun x => { x with boxFault := value }) s)

/-- A successful STATUS is acted on (R70). -/
def actOnStatus (l b : Nat) (a : StatusAnswer) (s : State) : State :=
  let s1 := boxSuccess l b s
  let baseline := (boxAt s1 l b).baselinePending
  let s2 := setBox l b (fun x => { x with baselinePending := false }) (deliverStatus l b baseline a s1)
  let s3 := if headsetIn l b a s2 then setLine l quietRestart s2 else s2
  takeBoxFault l b a.boxFault (takeStop l b baseline a.stop s3)

/-- Whether a DISPLAY follows a STATUS in the same turn (R66): after a success at a box that was not ISOLATED at its
turn, while its display is pending. A failed STATUS at an ACTIVE box that is still ACTIVE is followed too. -/
def displayFollows (l : Nat) (tx : Transaction) (success : Bool) (s : State) : Bool :=
  let x := boxAt s l tx.box
  x.displayPending &&
    match tx.turnState with
    | .active => decide (x.state = .active)
    | .suspect => success
    | .isolated => false
    | .absent => false

/-- After a STATUS has been judged: the DISPLAY of the same turn, or the end of the turn; with a sleep pending no
later transaction begins (R66, R74). -/
def afterStatus (l : Nat) (tx : Transaction) (success : Bool) (s : State) : State :=
  if displayFollows l tx success s && !(lineAt s l).sleepPending then
    beginTransaction l tx.box .display tx.turnState s
  else endTurn l tx.box s

/-- A STATUS ends with a failure. -/
def failStatus (l : Nat) (tx : Transaction) (f : LineFailure) (s : State) : State :=
  afterStatus l tx false (failTransaction l tx f s)

/-- A transaction of any kind ends with a failure, and what follows it in the turn. -/
def failAndGoOn (l : Nat) (tx : Transaction) (f : LineFailure) (s : State) : State :=
  match tx.kind with
  | .status => failStatus l tx f s
  | _ => endTurn l tx.box (failTransaction l tx f s)

/-- A valid IDENT answer moves the box to ACTIVE (R68). -/
def activateBox (l b : Nat) (data : List Byte) (s : State) : State :=
  let count := byteAt data 2
  let s1 := setBox l b (fun x => { x with
    seatCount := some count, model := data.getD 0 0, firmware := data.getD 1 0, serial := (data.drop 3).take 3,
    displayPending := true, baselinePending := true }) s
  fitSeats l b count (setBoxState l b .active 0 s1)

/-- An IDENT answer's seat count is 1 or 2 (R62). -/
def seatCountOk (data : List Byte) : Bool := byteAt data 2 = 1 || byteAt data 2 = 2

/-! ### Displays at the frame start (R73) -/

/-- The icon value of a box: the zone of either seat is covered by what the path plays (R73). -/
def iconValue (l b : Nat) (s : State) : Bool :=
  pathCovers s (seatAt s (seatNumber l b 0)).zone || pathCovers s (seatAt s (seatNumber l b 1)).zone

/-- A box takes its lamp and icon values, and is marked where either differs (R73). -/
def showOn (lamp icon : Bool) (x : Box) : Box :=
  if x.lamp = lamp && x.icon = icon then x else { x with lamp := lamp, icon := icon, displayPending := true }

/-- The boxes of a line from `b` on. -/
def showBoxes (s : State) (l : Nat) : Nat → List Box → List Box
  | _, [] => []
  | b, x :: xs => showOn s.route.requested.isSome (iconValue l b s) x :: showBoxes s l (b + 1) xs

/-- The lines from `l` on. -/
def showLines (s : State) : Nat → List Line → List Line
  | _, [] => []
  | l, x :: xs => { x with boxes := showBoxes s l 0 x.boxes } :: showLines s (l + 1) xs

/-- The lamp and icon values of every box at a frame start (R73). -/
def updateDisplays (s : State) : State :=
  { s with lines := { s.lines with lines := showLines s 0 s.lines.lines } }

/-! ### SEAT-LINE writes taking effect (R57) -/

/-- One line record takes effect: sleep enable NO wakes a SLEEPING line and cancels a pending sleep (R57, R77). -/
def takeLineWrite (w : LineWrite) (x : Line) : Line :=
  let y := { x with mode := w.mode, sleepEnable := w.sleepEnable }
  if w.sleepEnable then y
  else
    match x.state with
    | .sleeping => wakeLine y
    | .awake => if x.sleepPending then quietRestart y else y

def applyLineRecords : Nat → List LineWrite → State → State
  | _, [], s => s
  | l, w :: ws, s => applyLineRecords (l + 1) ws (setLine l (takeLineWrite w) s)

/-- The held SEAT-LINE writes in their order. -/
def applyLineHeld : List (Nat × List LineWrite) → State → State
  | [], s => s
  | (first, records) :: rest, s => applyLineHeld rest (applyLineRecords first records s)

/-- The line controllers' held writes at a frame start (R57). -/
def lineFrameWork (s : State) : State :=
  applyLineHeld s.lines.held { s with lines := { s.lines with held := [] } }

/-! ### The commands of the lines -/

/-- The transaction in flight on a line. -/
def inFlight (l : Nat) (s : State) : Option Transaction := (lineAt s l).transaction

/-- A new round begins at address 0 (R65). -/
def newRound (x : Line) : Line := { x with roundNext := 0, roundLeft := Config.roundTime, transaction := none }

/-- The line at the beginning of a round's turns: a new round (R65), or the one that a wake pulse began, whose first
header is sent now that the pair has returned high (R76). -/
def openRound (x : Line) : Line := if x.pairLow then { x with roundNext := 0, pairLow := false } else newRound x

/-- A round may begin on line `x`: it is AWAKE with no transaction in flight, and the round before it has ended, no
earlier than 4 ms after it began (R65). -/
def roundMayBegin (x : Line) : Bool :=
  decide (x.state = .awake) && decide (x.transaction = none) &&
    (decide (x.roundNext = 0) || decide (12 ≤ x.roundNext) && decide (x.roundLeft = 0))

/-- POLL_ROUND_BEGIN (R65, R66): the round begins at address 0, where it may. After a wake pulse the row says that the
pair has returned high (R76; DESIGN CHOICE, notes/assumptions/26.md). -/
def execPollRoundBegin (l : Fin 4) (s : State) : Host.Outcome State Fault Refusal :=
  .next (if roundMayBegin (lineAt s l) then servePoll l 0 12 (setLine l openRound s) else s)

/-- ROUND_TIMER_EXPIRY (R65): the 4 ms have run out; a round whose turns have ended is followed by the next, and a
round still under way goes on. A round with time left has not run out. -/
def execRoundTimerExpiry (l : Fin 4) (s : State) : Host.Outcome State Fault Refusal :=
  .next (
    let x := lineAt s l
    match x.state with
    | .sleeping => s
    | .awake =>
      if x.transaction = none ∧ 12 ≤ x.roundNext ∧ x.roundLeft = 0 then setLine l newRound s else s)

/-- ANSWER_WINDOW_EXPIRY (R61, R64): a STATUS or IDENT ends without an answer. -/
def execAnswerWindowExpiry (l : Fin 4) (s : State) : Host.Outcome State Fault Refusal :=
  .next (match inFlight l s with
    | none => s
    | some tx =>
      match tx.kind with
      | .display => s
      | _ => failAndGoOn l tx (if tx.low then .framing else .noResponse) s)

/-- STATUS_TRANSACTION_END (R61, R64, R70). -/
def execStatusTransactionEnd (l : Fin 4) (answer : List LineChar) (s : State) : Host.Outcome State Fault Refusal :=
  .next (match inFlight l s with
    | none => s
    | some tx =>
      match tx.kind with
      | .status =>
        match judgeAnswer tx 4 answer with
        | some f => failStatus l tx f s
        | none => afterStatus l tx true (actOnStatus l tx.box (decodeStatus (answer.map charByte)) s)
      | _ => s)

/-- IDENT_TRANSACTION_END (R62, R64, R68). -/
def execIdentTransactionEnd (l : Fin 4) (answer : List LineChar) (s : State) : Host.Outcome State Fault Refusal :=
  .next (match inFlight l s with
    | none => s
    | some tx =>
      match tx.kind with
      | .ident =>
        match judgeAnswer tx 6 answer with
        | some f => failAndGoOn l tx f s
        | none =>
          let data := answer.map charByte
          if seatCountOk data then endTurn l tx.box (activateBox l tx.box data s)
          else failAndGoOn l tx .check s
      | _ => s)

/-- DISPLAY_TRANSACTION_END (R63, R64): a completed DISPLAY changes no count, and one during which the pair was held
low is a FRAMING failure. -/
def execDisplayTransactionEnd (l : Fin 4) (s : State) : Host.Outcome State Fault Refusal :=
  .next (match inFlight l s with
    | none => s
    | some tx =>
      match tx.kind with
      | .display => if tx.low then failAndGoOn l tx .framing s else endTurn l tx.box s
      | _ => s)

/-- A character read back differs: the transaction in flight is abandoned at once as an ECHO failure (R64). -/
def echoFailure (l : Nat) (s : State) : State :=
  match inFlight l s with
  | none => s
  | some tx => failAndGoOn l tx .echo s

/-- ECHO (R64). -/
def execEcho (l : Fin 4) (s : State) : Host.Outcome State Fault Refusal := .next (echoFailure l s)

/-- The control pair has been low for 250 microseconds: on a SLEEPING line a wake pulse, after which the pair is still
low and the new round's first header waits (R76); on an AWAKE line an ECHO failure while the controller sends, and
otherwise the FRAMING failure of the transaction in flight, which runs to its end (R78; DEDUCED,
notes/assumptions/10.md). -/
def pairLow (l : Nat) (sending : Bool) (s : State) : State :=
  match (lineAt s l).state with
  | .sleeping => setLine l (fun x => { wakeLine x with pairLow := true }) s
  | .awake =>
    if sending then echoFailure l s
    else setLine l (fun x => { x with transaction := x.transaction.map fun tx => { tx with low := true } }) s

/-- CONTROL_PAIR_LOW (R78). -/
def execControlPairLow (l : Fin 4) (sending : Bool) (s : State) : Host.Outcome State Fault Refusal :=
  .next (pairLow l sending s)

/-- WAKE_PULSE (R76, R82). -/
def execWakePulse (l : Fin 4) (s : State) : Host.Outcome State Fault Refusal := .next (pairLow l false s)

/-- The quiet timer of a line expires (R74). A timer with time left has not expired: the end of a STATUS that was taken
first has restarted it (R82). -/
def quietExpiry (x : Line) (route : RouteState) : Line :=
  match x.state, x.quiet with
  | .awake, some 0 =>
    if route = .running ∨ x.sleepEnable = false then { x with quiet := some Config.quietTime }
    else
      match x.transaction with
      | none => sleepLine x
      | some _ => { x with sleepPending := true, quiet := none }
  | _, _ => x

/-- QUIET_TIMER_EXPIRY (R74). -/
def execQuietTimerExpiry (l : Fin 4) (s : State) : Host.Outcome State Fault Refusal :=
  .next (setLine l (fun x => quietExpiry x s.route.state) s)

end Sys2Proof.Machine
end

