-- ==== Sys2Proof/Machine/Sense.lean ====
section
/-! DEFINITION. The sense unit (chapter 5): the scan, conversions, results, averaging, limits, the noise targets that
a completed average sets (R40), and the commands of the sense inputs. -/

namespace Sys2Proof.Machine

/-! ### The scan (R86 to R88) -/

def setScan (x : Scan) (s : State) : State := { s with sense := { s.sense with scan := x } }

def isEnabled (c : SenseChan) (s : State) : Bool :=
  ((channelRecord s (chanNumber c)).map SenseRec.enabled).getD false

/-- A conversion begins on a channel with the settings in force (R84, R89, R90). -/
def beginConversion (c : SenseChan) (s : State) : State :=
  match channelRecord s (chanNumber c) with
  | some record =>
    setScan (.converting { channel := c, settings := record, gateOpen := false, edges := 0, ticks := 0,
                           waited := 0 }) s
  | none => s

/-- The scan begins at the lowest enabled channel, or waits for one (R87). -/
def beginLowest (s : State) : State :=
  match channelsInOrder.find? (fun c => isEnabled c s) with
  | some c => beginConversion c s
  | none => setScan .scanWait s

/-- The scan chooses after the conversion of channel `c` has ended or was abandoned (R87). -/
def chooseNext (c : SenseChan) (s : State) : State :=
  match channelsInOrder.find? (fun d => decide (chanNumber c < chanNumber d) && isEnabled d s) with
  | some d => beginConversion d s
  | none =>
    match s.sense.mode with
    | .single => setScan .idle s
    | .continuous => beginLowest s

/-- SENSE START (R86): a delay of 0 expires at once. -/
def startSense (mode : ScanMode) (delay : Nat) (s : State) : State :=
  let s1 := { s with sense := { s.sense with mode := mode } }
  if delay = 0 then beginLowest s1 else setScan (.delay (Config.ms (delay * 10))) s1

/-! ### Limits (R98 to R100) -/

/-- A limit trips on a value (R98). -/
def trips (x : Limit) (v : Nat) : Bool :=
  !x.tripped &&
    match x.direction with
    | .over => x.threshold < v
    | .under => v < x.threshold

/-- A TRIPPED limit in TRANSPARENT mode clears on a value (R98). -/
def clears (x : Limit) (v : Nat) : Bool :=
  x.tripped && decide (x.mode = .transparent) &&
    match x.direction with
    | .over => v ≤ x.threshold - x.hysteresis
    | .under => min (x.threshold + x.hysteresis) 65535 ≤ v

/-- The base scene selection that the limit table gives: the lowest-indexed in-use TRIPPED entry with action
BASE-SCENE, none for DEFAULT (R99). -/
def baseSelection : List Limit → Option Nat
  | [] => none
  | x :: xs =>
    match x.action with
    | .baseScene n => if x.inUse && x.tripped then some n else baseSelection xs
    | _ => baseSelection xs

/-- The selection is formed anew and reported when it has changed (R99). -/
def reformSelection (s : State) : State :=
  let selection := baseSelection s.sense.limits
  if s.sense.selection = selection then s
  else setBaseScene selection { s with sense := { s.sense with selection := selection } }

/-- A TRIPPED limit becomes CLEAR with its notice and selection; a CLEAR one is left (R99, R100). -/
def clearLimit (i : Nat) (s : State) : State :=
  match s.sense.limits[i]? with
  | none => s
  | some x =>
    if x.tripped then
      reformSelection (notify (.limitCleared i) (setLimit i (fun y => { y with tripped := false }) s))
    else s

/-- The announcement that a limit's action asks for (R99, R138). -/
def limitRequest (i : Nat) (x : Limit) : List AnnRequest :=
  match x.action with
  | .announce clip cls mask => [{ cls := cls, clip := clip, mask := mask, origin := .limit i, scene := none }]
  | _ => []

/-- Limit `i` trips on a value: the notice and the selection (R99). -/
def tripLimit (i v : Nat) (s : State) : State :=
  reformSelection (notify (.limitTripped i v) (setLimit i (fun y => { y with tripped := true }) s))

/-- Limit `i` is evaluated at a new value of its source (R98). With `defer` the announcement request is kept for
later; otherwise it is sent at once. -/
def evaluateLimit (defer : Bool) (i v : Nat) (s : State) : State × List AnnRequest :=
  match s.sense.limits[i]? with
  | none => (s, [])
  | some x =>
    if trips x v then
      let requests := limitRequest i x
      let s1 := tripLimit i v s
      if defer then (s1, requests) else (announceAll requests s1, [])
    else if clears x v then (clearLimit i s, [])
    else (s, [])

/-- The value limit `x` reads on channel `c` at a result: the raw value, or the averaged value where a block has
completed; none for a limit that is not evaluated or whose value is INVALID (R96, R98). -/
def limitInput (c : Nat) (completed : Bool) (r : ResultRec) (x : Limit) : Option Nat :=
  if x.inUse && decide (x.channel = c) then
    match x.source with
    | .raw => if r.valid then some r.value else none
    | .avg => if completed && r.avgValid then some r.avgValue else none
  else none

/-- The limits given are evaluated in their order (R96 step 3). Each trip or clear is acted on before the next limit is
evaluated; R96 leaves open whether all are evaluated first (DESIGN CHOICE, notes/assumptions/30.md). -/
def evaluateLimits (defer : Bool) (c : Nat) (completed : Bool) (r : ResultRec) :
    List Nat → State → List AnnRequest → State × List AnnRequest
  | [], s, kept => (s, kept)
  | i :: rest, s, kept =>
    match (s.sense.limits[i]?).bind (limitInput c completed r) with
    | none => evaluateLimits defer c completed r rest s kept
    | some v =>
      let step := evaluateLimit defer i v s
      evaluateLimits defer c completed r rest step.1 (kept ++ step.2)

/-! ### Noise targets (R40) -/

/-- The offset code of the highest band whose threshold is at most `v`, or 0 (R40). -/
def bandOffset (v : Nat) : List Band → Nat
  | [] => 0
  | b :: bs => if bs.any (fun x => decide (x.threshold ≤ v)) then bandOffset v bs
               else if b.threshold ≤ v then b.offset else 0

/-- The channel number of a noise source. -/
def sourceChannel : NoiseSource → Nat
  | .nfwd => 3 | .naft => 4

/-- A zone whose source is channel `c` takes its target from the averaged value `v` (R40). -/
def retarget (c v : Nat) (bands : List Band) (z : Zone) : Zone :=
  if Option.map sourceChannel z.source = some c then { z with target := bandOffset v bands } else z

/-- A completed average on channel `c` reaches the mix engine: every zone with that source takes its target, but not
from an INVALID value (R40, R96 step 5). -/
def noiseReport (c : Nat) (valid : Bool) (v : Nat) (s : State) : State :=
  if valid then
    { s with mix := { s.mix with zones := s.mix.zones.map (retarget c v s.mix.bands) } }
  else s

/-! ### Results (R91 to R96) -/

/-- What a conversion gives: its value, whether it is VALID, whether it timed out, and the MATH mark. -/
structure Outcome where
  value : Nat
  valid : Bool
  timedOut : Bool
  math : Bool
  deriving DecidableEq, Repr

/-- A valid result, clamped to 0..65535 (R91). -/
def clamped (v : Nat) : Outcome := { value := min v 65535, valid := true, timedOut := false, math := false }

/-- A LUX result with no usable reference (R92). -/
def unpaired : Outcome := { value := 0, valid := false, timedOut := false, math := true }

/-- The valid 0 of a timed-out conversion (R90). -/
def timedOutZero : Outcome := { value := 0, valid := true, timedOut := true, math := false }

/-- The result of a REF-GATE conversion that counted `n` edges (R91, R92). -/
def refGateResult (k : Conversion) (s : State) : Outcome :=
  let n := k.edges
  let g := k.settings.gateLength
  match k.channel with
  | .odo => clamped (n * k.settings.pulse * Config.tickRate / (100 * g))
  | .nfwd | .naft => clamped (n * Config.tickRate / g)
  | .lref => clamped n
  | .lux =>
    match s.sense.refGateRecord with
    | .counts nRef gRef => if nRef = 0 then unpaired else clamped (1000 * n * gRef / (nRef * g))
    | _ => unpaired

/-- The result of an INPUT-GATE conversion whose gate closed after `t` ticks, 0 being taken as 1 (R90 to R92). -/
def inputGateResult (k : Conversion) (t : Nat) (s : State) : Outcome :=
  let n := k.settings.edgeCount
  let t1 := max t 1
  match k.channel with
  | .odo => clamped (n * k.settings.pulse * Config.tickRate / (100 * t1))
  | .nfwd | .naft | .lref => clamped (n * Config.tickRate / t1)
  | .lux =>
    match s.sense.inputGateRecord with
    | .counts nRef tRef =>
      if nRef = 0 ∨ tRef = 0 then unpaired else clamped (1000 * n * tRef / (t1 * nRef))
    | _ => unpaired

/-- A completed LREF conversion sets the reference record of its own gate mode (R92). -/
def setReference (mode : GateMode) (record : RefRecord) (s : State) : State :=
  match mode with
  | .refGate => { s with sense := { s.sense with refGateRecord := record } }
  | .inputGate => { s with sense := { s.sense with inputGateRecord := record } }

/-- The result record after a result (R93, R94). `k` is the averaging in force. The second part says whether the
averaging block was completed. -/
def storeResult (k : Nat) (o : Outcome) (r : ResultRec) : ResultRec × Bool :=
  let count := r.blockCount + 1
  let sum := r.blockSum + o.value
  let invalid := r.blockInvalid || !o.valid
  let raw : ResultRec :=
    { r with present := true, value := o.value, valid := o.valid, timedOut := o.timedOut, math := o.math, age := 0 }
  if k ≤ count then
    ({ raw with avgPresent := true, avgValue := if invalid then 0 else sum / k, avgValid := !invalid,
                blockCount := 0, blockSum := 0, blockInvalid := false }, true)
  else ({ raw with blockCount := count, blockSum := sum, blockInvalid := invalid }, false)

/-- What a result brings about, in the order of R96. With `cuesFirst` the cues' announcement requests reach the queue
before the limits'. -/
def takeResult (c : SenseChan) (o : Outcome) (cuesFirst : Bool) (s : State) : State :=
  let n := chanNumber c
  let k := ((channelRecord s n).map SenseRec.averaging).getD 1
  let stored := storeResult k o (resultRecord s n)
  let s1 := setResult n (fun _ => stored.1) s
  let limits := evaluateLimits cuesFirst n stored.2 stored.1 (List.range 8) s1 []
  let s2 := announceAll limits.2 (resultReport n limits.1)
  if stored.2 && (c = .nfwd || c = .naft) then noiseReport n stored.1.avgValid stored.1.avgValue s2 else s2

/-- A conversion ends with a result, and the scan chooses its next (R87, R96). -/
def endConversion (c : SenseChan) (o : Outcome) (cuesFirst : Bool) (s : State) : State :=
  chooseNext c (takeResult c o cuesFirst s)

/-- An LREF conversion's reference record is set; other channels leave the records (R92). -/
def noteReference (k : Conversion) (record : RefRecord) (s : State) : State :=
  if k.channel = .lref then setReference k.settings.gateMode record s else s

/-! ### A SENSE-CHANNEL write (R84, R88, R93) -/

/-- The fields whose change discards the partial averaging block (R84 step 3). -/
def settingsDiffer (a b : SenseRec) : Bool :=
  a.gateMode ≠ b.gateMode || a.gateLength ≠ b.gateLength || a.edgeCount ≠ b.edgeCount ||
    a.waitLimit ≠ b.waitLimit || a.pulse ≠ b.pulse || a.averaging ≠ b.averaging

/-- A channel goes from disabled to enabled: its result record is cleared, and for LREF the references too (R84 step
2, R92, R93). -/
def clearResult (n : Nat) (s : State) : State :=
  let s1 := setResult n (fun _ => resultCleared) s
  if n = 2 then { s1 with sense := { s1.sense with refGateRecord := .empty, inputGateRecord := .empty } } else s1

/-- The partial averaging block is discarded (R84 step 3). -/
def dropBlock (n : Nat) (s : State) : State :=
  setResult n (fun r => { r with blockCount := 0, blockSum := 0, blockInvalid := false }) s

/-- Steps 1 to 3 of R84 for channel number `n`, whose record was `old` and is now `new`. -/
def channelWritten (n : Nat) (old new : SenseRec) (s : State) : State :=
  if old.enabled && !new.enabled then
    match s.sense.scan with
    | .converting k => if chanNumber k.channel = n then chooseNext k.channel s else s
    | _ => s
  else if !old.enabled && new.enabled then clearResult n s
  else if new.enabled && settingsDiffer old new then dropBlock n s
  else s

/-- Steps 1 to 3 for the channels from `n` on, whose old records are given. -/
def channelsWritten : Nat → List SenseRec → List SenseRec → State → State
  | n, old :: olds, new :: news, s => channelsWritten (n + 1) olds news (channelWritten n old new s)
  | _, _, _, s => s

/-- Step 4 of R84: in SCAN-WAIT the scan begins at the lowest channel the write enables (R88). -/
def wakeScan (s : State) : State :=
  match s.sense.scan with
  | .scanWait =>
    match channelsInOrder.find? (fun c => isEnabled c s) with
    | some c => beginConversion c s
    | none => s
  | _ => s

/-- An accepted SENSE-CHANNEL write (R84). All its records are in force before its effects are taken. -/
def writeChannels (first : Nat) (records : List SenseRec) (s : State) : State :=
  let old := s.sense.channels.drop first
  let s1 := { s with sense := { s.sense with channels := writeAt s.sense.channels first records } }
  wakeScan (channelsWritten first old records s1)

/-! ### LIMIT writes (R97) -/

/-- The notices of the TRIPPED entries that a write replaces. -/
def clearedByWrite : Nat → List Limit → List Limit → List Notice
  | i, old :: olds, _ :: news =>
    (if old.tripped then [Notice.limitCleared i] else []) ++ clearedByWrite (i + 1) olds news
  | _, _, _ => []

/-- An accepted LIMIT write (R97). -/
def writeLimits (first : Nat) (records : List Limit) (s : State) : State :=
  let cleared := clearedByWrite first (s.sense.limits.drop first) records
  reformSelection (notifyAll cleared
    { s with sense := { s.sense with limits := writeAt s.sense.limits first records } })

/-- LIMIT-CLEAR of the entries given, one after the other (R100). -/
def clearLimits : List Nat → State → State
  | [], s => s
  | i :: rest, s => clearLimits rest (clearLimit i s)

/-! ### Edges (R85, R89, R90) -/

/-- An input edge at a conversion in flight: a REF-GATE conversion counts it while its gate, which a reference tick
opens, is open; an INPUT-GATE conversion opens its gate with the first and counts the later ones up to N (R85, R89,
R90). -/
def countEdge (k : Conversion) : Conversion :=
  match k.settings.gateMode with
  | .refGate => if k.gateOpen then { k with edges := min (k.edges + 1) Config.counterMax } else k
  | .inputGate =>
    if k.gateOpen then { k with edges := min (k.edges + 1) k.settings.edgeCount }
    else { k with gateOpen := true, edges := 0, ticks := 0 }

/-- An input edge of channel `c` at the sense unit: counted only by a conversion of that channel (R85). -/
def senseEdge (c : SenseChan) (s : State) : State :=
  match s.sense.scan with
  | .converting k => if k.channel = c then setScan (.converting (countEdge k)) s else s
  | _ => s

/-- An odometer edge: the sense unit's count and the route engine's are independent (R85, R103). -/
def takeOdometerEdge (counted : Bool) (s : State) : State := routeEdge (if counted then senseEdge .odo s else s)

/-- SENSE_INPUT_EDGE (R89, R90). -/
def execSenseInputEdge (c : SenseChan) (s : State) : Host.Outcome State Fault Refusal := .next (senseEdge c s)

/-- START_DELAY_EXPIRY (R87); a delay with time left, which a SENSE START has restarted, has not expired (R86). -/
def execStartDelayExpiry (s : State) : Host.Outcome State Fault Refusal :=
  .next (match s.sense.scan with
    | .delay 0 => beginLowest s
    | _ => s)

/-- INPUT_GATE_OPEN (R90). -/
def execInputGateOpen (s : State) : Host.Outcome State Fault Refusal :=
  .next (match s.sense.scan with
    | .converting k =>
      if k.settings.gateMode = .inputGate && !k.gateOpen then setScan (.converting (countEdge k)) s else s
    | _ => s)

/-- The gate of a REF-GATE conversion has been open for its G ticks (R89). -/
def refGateDue (k : Conversion) : Bool :=
  decide (k.settings.gateMode = .refGate) && k.gateOpen && decide (k.settings.gateLength ≤ k.ticks)

/-- An INPUT-GATE conversion's wait counter has reached W (R90). -/
def waitLimitDue (k : Conversion) : Bool :=
  decide (k.settings.gateMode = .inputGate) && decide (k.settings.waitLimit ≤ k.waited)

/-- The end of a REF-GATE conversion; one whose gate has not been open for G ticks does not end (R89, R91, R92). -/
def closeRefGate (cuesFirst : Bool) (s : State) : State :=
  match s.sense.scan with
  | .converting k =>
    if refGateDue k then
      endConversion k.channel (refGateResult k s) cuesFirst (noteReference k (.counts k.edges k.settings.gateLength) s)
    else s
  | _ => s

/-- The end of an INPUT-GATE conversion that timed out (R90, R92). -/
def timeOut (k : Conversion) (cuesFirst : Bool) (s : State) : State :=
  endConversion k.channel timedOutZero cuesFirst (noteReference k .zero s)

/-- The close of an open INPUT-GATE (R90, R91, R92): a close after which the wait counter stands above W comes too late,
the wait limit having been reached before it; at W itself the close and the W-th tick fall together, and the one taken
first decides. The operand, which both counters count, is the model's (DESIGN CHOICE, notes/assumptions/11.md). -/
def closeInputGate (ticks : Nat) (cuesFirst : Bool) (s : State) : State :=
  match s.sense.scan with
  | .converting k =>
    match k.settings.gateMode with
    | .refGate => s
    | .inputGate =>
      if k.gateOpen then
        if k.settings.waitLimit < k.waited + ticks then timeOut k cuesFirst s
        else endConversion k.channel (inputGateResult k (k.ticks + ticks) s) cuesFirst
          (noteReference k (.counts k.settings.edgeCount (max (k.ticks + ticks) 1)) s)
      else s
  | _ => s

/-- A conversion's wait limit; one whose wait counter has not reached W does not end (R90). -/
def reachWaitLimit (cuesFirst : Bool) (s : State) : State :=
  match s.sense.scan with
  | .converting k => if waitLimitDue k then timeOut k cuesFirst s else s
  | _ => s

/-- RESULT_STALE (R95): the age of a channel's result reaches its staleness limit. Staleness is judged by the age and
the limit in force wherever a value is read (`isStale`), the record keeps its values, and no report is made; so the
event itself moves nothing, whether the record is still stale or a result taken first has made it fresh. -/
def execResultStale (_ : SenseChan) (s : State) : Host.Outcome State Fault Refusal := .next s

end Sys2Proof.Machine
end

