-- ==== Sys2Proof/Machine/Views.lean ====
section
/-! DEFINITION. What the management unit returns: the records of TABLE-READ, the four views, and the data of
STATUS-READ (R171, R172, R182, R184). -/

namespace Sys2Proof.Machine

/-! ### The catalogue (section 10.2) -/

/-- The entries of the table of a number, none above 17 (R182). -/
def tableEntries : Nat → Option Nat
  | 0 => some 12 | 1 => some 96 | 2 => some 4 | 3 => some 16 | 4 => some 1 | 5 => some 8 | 6 => some 4
  | 7 => some 4 | 8 => some 4 | 9 => some 5 | 10 => some 8 | 11 => some 256 | 12 => some 16 | 13 => some 1
  | 14 => some 1 | 15 => some 1 | 16 => some 1 | 17 => some 4 | _ => none

/-! ### The views -/

/-- The place of an entry among those queued, by arrival order, 0 for the oldest (R134). -/
def arrivalPlace (all : List Entry) (e : Entry) : Nat := (all.filter fun x => decide (x.arrival < e.arrival)).length

/-- An entry of the ANNOUNCE-QUEUE view; off the path the chime and the duration are sent as 0 (R134, R135). -/
def encodeEntry (all : List Entry) (onPath : Bool) (e : Entry) : List Byte :=
  natBytes 1 e.cls.code ++ natBytes 2 e.clip ++ natBytes 1 e.mask.toNat ++ encodeOrigin e.origin ++
    natBytes 1 (optCode e.scene) ++ natBytes 1 e.state.code ++ natBytes 1 (e.ticket.getD 0) ++
    natBytes 1 (arrivalPlace all e) ++ natBytes 1 (if onPath then optCode e.chime else 0) ++
    natBytes 1 (if onPath then e.maxSeconds else 0)

/-- The whole milliseconds that hold `n` parts of 1/32768 ms. -/
def msUp (n : Nat) : Nat := (n + Config.tickRate - 1) / Config.tickRate

/-- The time left in ms on the running announcement timer, 0 when none runs (R134), a part of a millisecond counting as
one (DESIGN CHOICE, notes/assumptions/3.md). -/
def announceTimeLeft (a : Announcer) : Nat := msUp ((a.startTimer <|> a.durationTimer).getD 0)

/-- The ANNOUNCE-QUEUE view (R134). -/
def announceQueueView (s : State) : List Byte :=
  let all := s.announce.path.toList ++ s.announce.waiting
  natBytes 1 (pathCode s.announce.path) ++ natBytes 1 s.announce.tickets ++
    natBytes 3 (announceTimeLeft s.announce) ++ natBytes 1 all.length ++
    (s.announce.path.toList.flatMap (encodeEntry all true) ++ s.announce.waiting.flatMap (encodeEntry all false))

/-- The OPEN-CUES view (R102). -/
def openCuesView (s : State) : List Byte :=
  natBytes 2 s.route.cursor ++ natBytes 1 s.route.openCues.length ++
    s.route.openCues.flatMap fun i =>
      let c := cueAt s i
      natBytes 1 i ++ natBytes 1 c.state.code ++ natBytes 3 c.trigger ++ natBytes 3 (c.trigger + c.window)

/-- A result record (R93); its age is given in whole milliseconds passed (DESIGN CHOICE, notes/assumptions/3.md). -/
def encodeResult (r : ResultRec) : List Byte :=
  natBytes 1 (flagCode r.present) ++ natBytes 2 r.value ++ natBytes 1 (flagCode r.valid) ++
    natBytes 1 (flagCode r.timedOut) ++ natBytes 1 (flagCode r.math) ++ natBytes 4 (r.age / Config.tickRate) ++
    natBytes 1 (flagCode r.avgPresent) ++ natBytes 2 r.avgValue ++ natBytes 1 (flagCode r.avgValid) ++
    natBytes 1 r.blockCount ++ natBytes 3 r.blockSum

/-- A reference record whose counts take `a` and `b` bytes (R93). -/
def encodeReference (a b : Nat) : RefRecord → List Byte
  | .empty => natBytes 1 0 ++ natBytes a 0 ++ natBytes b 0
  | .counts x y => natBytes 1 1 ++ natBytes a x ++ natBytes b y
  | .zero => natBytes 1 2 ++ natBytes a 0 ++ natBytes b 0

/-- The channel being converted, 255 while the scan is not CONVERTING (R93). -/
def convertingCode : Scan → Nat
  | .converting k => chanNumber k.channel
  | _ => 255

/-- The SENSE-RESULTS view (R93). -/
def senseResultsView (s : State) : List Byte :=
  s.sense.results.flatMap encodeResult ++ natBytes 1 s.sense.scan.code ++ natBytes 1 s.sense.mode.code ++
    natBytes 1 (convertingCode s.sense.scan) ++ encodeReference 3 2 s.sense.refGateRecord ++
    encodeReference 1 2 s.sense.inputGateRecord

/-- A box record (R58). -/
def encodeBox (x : Box) : List Byte :=
  natBytes 1 x.state.code ++ natBytes 1 x.faultCount ++ natBytes 1 (optCode x.seatCount) ++
    natBytes 1 (flagCode x.displayPending) ++ natBytes 1 x.rounds ++ natBytes 1 (flagCode x.baselinePending) ++
    natBytes 1 x.lastStop.toNat ++ natBytes 1 (flagCode x.boxFault) ++ natBytes 1 (flagCode x.lamp) ++
    natBytes 1 (flagCode x.icon) ++ [x.model, x.firmware] ++ x.serial

/-- The BOX-STATE view of one line (R58). -/
def boxStateView (x : Line) : List Byte :=
  natBytes 1 x.state.code ++ natBytes 1 (flagCode x.sleepPending) ++ natBytes 1 x.mode.code ++
    natBytes 1 (flagCode x.sleepEnable) ++ natBytes 2 x.noResponses ++ natBytes 2 x.checkFailures ++
    natBytes 2 x.framingFailures ++ natBytes 2 x.echoFailures ++ x.boxes.flatMap encodeBox

/-! ### TABLE-READ (R171) -/

/-- `count` entries of a table from `first` on. -/
def slice {α : Type} (first count : Nat) (list : List α) : List α := (list.drop first).take count

/-- The records of a table or view as they stand in force (R171). -/
def recordsOf (s : State) (table first count : Nat) : List Byte :=
  match table with
  | 0 => (slice first count s.seats.map).flatMap encodeLang
  | 1 => (slice first count s.seats.seats).flatMap encodeSeat
  | 2 => (slice first count s.mix.zones).flatMap encodeZone
  | 3 => (slice first count s.mix.curve).flatMap intByte
  | 4 => encodeMix s.mix.params
  | 5 => (slice first count s.mix.bands).flatMap encodeBand
  | 6 => (slice first count s.mix.classes).flatMap encodeClass
  | 7 => (slice first count s.mix.chimes).flatMap encodeChime
  | 8 => (slice first count s.lines.lines).flatMap encodeSeatLine
  | 9 => (slice first count s.sense.channels).flatMap encodeSense
  | 10 => (slice first count s.sense.limits).flatMap encodeLimit
  | 11 => (slice first count s.route.cues).flatMap encodeCue
  | 12 => (slice first count s.lighting.scenes).flatMap encodeScene
  | 13 => encodeLighting s.lighting.params
  | 14 => announceQueueView s
  | 15 => openCuesView s
  | 16 => senseResultsView s
  | 17 => (slice first count s.lines.lines).flatMap boxStateView
  | _ => []

/-! ### STATUS-READ (R164, R172, R184) -/

/-- A lamp channel: output level, governing layer, governing scene, transition state (R184). -/
def encodeLamp (x : Lamp) : List Byte :=
  natBytes 2 x.level ++ natBytes 1 (optCode (x.setting.layer.map Layer.code)) ++
    natBytes 1 (optCode x.setting.scene) ++ natBytes 1 x.transition.code

/-- The five layers: a scene or none, and for INDICATOR its state, ACTIVE 0 (R157, R182). -/
def encodeLayers (g : Lighting) : List Byte :=
  natBytes 1 (optCode g.alert) ++ natBytes 1 (flagCode g.indicator) ++ natBytes 1 (optCode g.force) ++
    natBytes 1 (optCode g.cue) ++ natBytes 1 (optCode g.base)

/-- The data of a STATUS-READ reply (R172). -/
def statusData (s : State) : List Byte :=
  s.mix.zones.flatMap (fun z => natBytes 1 (flagCode z.clip)) ++ natBytes 1 (flagCode s.manage.noticesLost) ++
    natBytes 1 s.manage.notices.length ++ natBytes 2 s.segment.liveMask.toNat ++
    natBytes 2 s.segment.heldMask.toNat ++ s.lighting.lamps.flatMap encodeLamp ++ encodeLayers s.lighting

end Sys2Proof.Machine
end

