-- ==== Sys2Proof/Machine/Management.lean ====
section
/-! DEFINITION. The management unit's execution of requests (R168 to R172, R176): the checks, the table writes and
the other requests, and the commands of the request rows. -/

namespace Sys2Proof.Machine

/-! ### Executing the head request (R168) -/

/-- What an execution gives: the state, the reply code and the data of the reply. -/
structure Executed where
  state : State
  code : ReplyCode
  data : List Byte
  deriving DecidableEq, Repr

/-- A refusal changes no state (R169). -/
def refuse (code : ReplyCode) (s : State) : Executed := { state := s, code := code, data := [] }

/-- DONE without data. -/
def done (s : State) : Executed := { state := s, code := .done, data := [] }

/-- A reply at the end of the reply list. -/
def addReply (r : Reply) (s : State) : State :=
  { s with manage := { s.manage with replies := s.manage.replies ++ [r] } }

def setRequests (requests : List Request) (s : State) : State :=
  { s with manage := { s.manage with requests := requests } }

/-- The head request, where it may be executed now: the reply list has a free place (R168). -/
def headRequest (s : State) : Option Request :=
  if s.manage.replies.length < Config.replyDepth then s.manage.requests.head? else none

/-- The head request is executed where it may be and where it is one of `accepts`: it leaves the queue, `run` takes
it, and its reply joins the reply list (R168). Otherwise nothing happens. -/
def executeHead (accepts : Request → Bool) (run : Request → State → Executed) (s : State) : State :=
  match headRequest s with
  | none => s
  | some r =>
    if accepts r then
      let x := run r (setRequests s.manage.requests.tail s)
      addReply { tag := r.tag, kind := r.kind, code := x.code, data := x.data } x.state
    else s

/-- The kind of a request as a number (section 11.4). -/
def kindOf (r : Request) : Nat := r.kind.toNat

/-- Byte `i` of the parameters. -/
def paramAt (r : Request) (i : Nat) : Nat := byteAt r.params i

/-! ### TABLE-WRITE (R169, R170) -/

/-- How the owner of a table takes a write: the record size, the entries, the check made before the index range, the
decoding of the records from a first index on, the checks on what the write would produce, and its effect. -/
structure TableForm (α : Type) where
  size : Nat
  entries : Nat
  gate : State → Option ReplyCode
  decode : Nat → List (List Byte) → Option (List α)
  check : Nat → List α → State → Option ReplyCode
  apply : Nat → List α → State → State

/-- The owner's checks and the write's effect (R170). -/
def ownWrite {α : Type} (form : TableForm α) (first count : Nat) (bytes : List Byte) (s : State) : Executed :=
  match form.gate s with
  | some code => refuse code s
  | none =>
    if form.entries < first + count then refuse .badIndex s
    else
      match form.decode first (cutRecords form.size count bytes) with
      | none => refuse .badField s
      | some records =>
        match form.check first records s with
        | some code => refuse code s
        | none => done (form.apply first records s)

/-- A TABLE-WRITE to a table of the catalogue: the count, then the length, then the owner (R169, R170). -/
def tableWrite {α : Type} (form : TableForm α) (r : Request) (s : State) : Executed :=
  let count := paramAt r 2
  if count = 0 ∨ 16 < count then refuse .badIndex s
  else if r.params.length ≠ 3 + count * form.size then refuse .badField s
  else ownWrite form (paramAt r 1) count (r.params.drop 3) s

/-- A TABLE-WRITE that names table `table`. -/
def writesTable (table : Nat) (r : Request) : Bool :=
  kindOf r = 0 && 3 ≤ r.params.length && paramAt r 0 = table

/-- No check beyond those every table has. -/
def noGate (_ : State) : Option ReplyCode := none
def noCheck {α : Type} (_ : Nat) (_ : List α) (_ : State) : Option ReplyCode := none

def holdSeatWrite (w : HeldSeatWrite) (s : State) : State :=
  { s with seats := { s.seats with held := s.seats.held ++ [w] } }

def holdMixWrite (w : HeldMixWrite) (s : State) : State :=
  { s with mix := { s.mix with held := s.mix.held ++ [w] } }

/-- A check on what the write would produce, with its code. -/
def failing (code : ReplyCode) (ok : Bool) : Option ReplyCode := if ok then none else some code

/-- LANGUAGE (R19, R20). -/
def languageForm : TableForm LangEntry where
  size := 6
  entries := 12
  gate := noGate
  decode _ := decodeAll decodeLang
  check first records s := failing .badField (mapOk (writeAt (heldMap s.seats.held s.seats.map) first records))
  apply first records := holdSeatWrite (.language first records)

/-- SEAT (R22, R23). -/
def seatForm : TableForm SeatWrite where
  size := 3
  entries := 96
  gate := noGate
  decode _ := decodeAll decodeSeat
  check _ records s :=
    failing .badField (records.all fun w => seatLanguageOk (heldMap s.seats.held s.seats.map) w.language)
  apply first records := holdSeatWrite (.seat first records)

/-- ZONE (R39). -/
def zoneForm : TableForm ZoneWrite where
  size := 2
  entries := 4
  gate := noGate
  decode _ := decodeAll decodeZone
  check := noCheck
  apply first records := holdMixWrite (.zone first records)

/-- VOLUME-CURVE (R36). -/
def curveForm : TableForm Int where
  size := 1
  entries := 16
  gate := noGate
  decode _ := decodeAll decodeCurve
  check := noCheck
  apply first records := holdMixWrite (.volumeCurve first records)

/-- The one record of MIX is held. -/
def holdMixRecord (records : List MixParams) (s : State) : State :=
  match records with
  | [] => s
  | m :: _ => holdMixWrite (.mix m) s

/-- MIX (R37). -/
def mixForm : TableForm MixParams where
  size := 5
  entries := 1
  gate := noGate
  decode _ := decodeAll decodeMix
  check := noCheck
  apply _ := holdMixRecord

/-- The noise band table after the writes held (DEDUCED, notes/assumptions/17.md). -/
def heldBands : List HeldMixWrite → List Band → List Band
  | [], bands => bands
  | .noiseBands first records :: rest, bands => heldBands rest (writeAt bands first records)
  | _ :: rest, bands => heldBands rest bands

/-- The thresholds rise strictly and the codes do not fall (R40). -/
def bandsInOrder : List Band → Bool
  | a :: b :: rest => decide (a.threshold < b.threshold) && decide (a.offset ≤ b.offset) && bandsInOrder (b :: rest)
  | _ => true

/-- NOISE-BANDS (R40). -/
def bandsForm : TableForm Band where
  size := 3
  entries := 8
  gate := noGate
  decode _ := decodeAll decodeBand
  check first records s := failing .badOrder (bandsInOrder (writeAt (heldBands s.mix.held s.mix.bands) first records))
  apply first records := holdMixWrite (.noiseBands first records)

/-- CLASS (R38). -/
def classForm : TableForm ClassRec where
  size := 6
  entries := 4
  gate := noGate
  decode _ := decodeAll decodeClass
  check := noCheck
  apply first records := holdMixWrite (.cls first records)

/-- CHIME (R52). -/
def chimeForm : TableForm Chime where
  size := 17
  entries := 4
  gate := noGate
  decode _ := decodeAll decodeChime
  check := noCheck
  apply first records := holdMixWrite (.chime first records)

/-- SEAT-LINE (R57). -/
def seatLineForm : TableForm LineWrite where
  size := 2
  entries := 4
  gate := noGate
  decode _ := decodeAll decodeSeatLine
  check := noCheck
  apply first records s := { s with lines := { s.lines with held := s.lines.held ++ [(first, records)] } }

/-- SENSE-CHANNEL (R84). -/
def senseForm : TableForm SenseRec where
  size := 12
  entries := 5
  gate := noGate
  decode := decodeSenses
  check := noCheck
  apply := writeChannels

/-- LIMIT (R97). -/
def limitForm : TableForm Limit where
  size := 15
  entries := 8
  gate := noGate
  decode _ := decodeAll decodeLimit
  check := noCheck
  apply := writeLimits

/-- The triggers, in order, of the in-use entries do not decrease (R109). `last` is the trigger before them. -/
def triggersInOrder : Nat → List Cue → Bool
  | _, [] => true
  | last, c :: rest =>
    if c.inUse then decide (last ≤ c.trigger) && triggersInOrder c.trigger rest else triggersInOrder last rest

/-- An accepted CUE write: the entries in state ARMED, and off the open-cue list (R109). -/
def writeCues (first : Nat) (records : List Cue) (s : State) : State :=
  { s with route := { s.route with
      cues := writeAt s.route.cues first records
      openCues := s.route.openCues.filter fun i => !(decide (first ≤ i) && decide (i < first + records.length)) } }

/-- CUE (R109). -/
def cueForm : TableForm Cue where
  size := 20
  entries := 256
  gate s := if s.route.state = .stopped then none else some .routeActive
  decode _ := decodeAll decodeCue
  check first records s := failing .badOrder (triggersInOrder 0 (writeAt s.route.cues first records))
  apply := writeCues

/-- SCENE (R155). -/
def sceneForm : TableForm (List ScenePart) where
  size := 64
  entries := 16
  gate := noGate
  decode _ := decodeAll decodeScene
  check := noCheck
  apply first records s :=
    { s with lighting := resolve { s.lighting with scenes := writeAt s.lighting.scenes first records } }

/-- The one record of LIGHTING is taken, and every channel is resolved (R156). -/
def takeLightParams (records : List LightParams) (s : State) : State :=
  match records with
  | [] => s
  | p :: _ => { s with lighting := resolve { s.lighting with params := p } }

/-- LIGHTING (R156). -/
def lightingForm : TableForm LightParams where
  size := 5
  entries := 1
  gate := noGate
  decode _ := decodeAll decodeLighting
  check := noCheck
  apply _ := takeLightParams

/-- A TABLE-WRITE that names no table that can be written: fewer than 3 parameter bytes, or a name outside the
catalogue or of a view (R169). -/
def writesNoTable (r : Request) : Bool := kindOf r = 0 && (r.params.length < 3 || 13 < paramAt r 0)

/-- The refusal of such a write (R169). -/
def refuseWrite (r : Request) (s : State) : Executed :=
  refuse (if r.params.length < 3 then .badField else .badTable) s

/-! ### TABLE-READ and STATUS-READ (R171, R172) -/

/-- TABLE-READ (R171). -/
def readTable (r : Request) (s : State) : Executed :=
  let first := paramAt r 1
  let count := paramAt r 2
  if r.params.length ≠ 3 then refuse .badField s
  else
    match tableEntries (paramAt r 0) with
    | none => refuse .badTable s
    | some entries =>
      if count = 0 ∨ 16 < count ∨ entries < first + count then refuse .badIndex s
      else { state := s, code := .done, data := r.params ++ recordsOf s (paramAt r 0) first count }

/-- STATUS-READ (R172): the reply's values are taken first, and then the flags are cleared. -/
def readStatus (r : Request) (s : State) : Executed :=
  if r.params.length ≠ 1 then refuse .badField s
  else
    match flagOf (paramAt r 0) with
    | none => refuse .badField s
    | some clear => { state := if clear then clearStatusFlags s else s, code := .done, data := statusData s }

/-! ### ROUTE and POSITION-FIX (R105 to R107, R118) -/

/-- A request of kind `kind` whose action byte is `action`, or whose parameters its kind refuses: another length than
`size`, or an action above `last`. A refused one is taken by any row of its kind. -/
def isAction (kind size last action : Nat) (r : Request) : Bool :=
  kindOf r = kind && (r.params.length ≠ size || last < paramAt r 0 || paramAt r 0 = action)

/-- Its parameters are refused by its kind (R169). -/
def badAction (size last : Nat) (r : Request) : Bool := r.params.length ≠ size || decide (last < paramAt r 0)

/-- `act` on a request whose parameters its kind takes. -/
def takeAction (size last : Nat) (act : State → Executed) (r : Request) (s : State) : Executed :=
  if badAction size last r then refuse .badField s else act s

/-- HOLD (R106). -/
def holdRoute (s : State) : Executed :=
  if s.route.state = .running then done { s with route := { s.route with state := .held } } else refuse .routeState s

/-- RESUME (R106). -/
def resume (s : State) : Executed := if s.route.state = .held then done (resumeRoute s) else refuse .routeState s

/-- POSITION-FIX (R118). -/
def fixRequest (r : Request) (s : State) : Executed :=
  let m := threeAt r.params 0
  if r.params.length ≠ 3 ∨ 1048575 < m then refuse .badField s
  else if s.route.state = .stopped then refuse .routeState s
  else done (fixPosition m s)

/-! ### ANNOUNCE and CANCEL (R138, R146) -/

/-- ANNOUNCE (R138). -/
def announceFromHead (r : Request) (s : State) : Executed :=
  match AnnClass.ofCode (paramAt r 0), optOf 15 (paramAt r 4) with
  | some cls, some scene =>
    if r.params.length ≠ 5 ∨ 1023 < wordAt r.params 1 then refuse .badField s
    else
      done (announceRequest
        { cls := cls, clip := wordAt r.params 1, mask := maskOf (paramAt r 3), origin := .headUnit, scene := scene } s)
  | _, _ => refuse .badField s

/-- The reply to a CANCEL: whether an entry was removed (R146). -/
def cancelled (outcome : State × Bool) : Executed :=
  if outcome.2 then done outcome.1 else refuse .notFound outcome.1

/-- CANCEL by ticket (R146). -/
def cancelByTicket (r : Request) (s : State) : Executed :=
  if badAction 2 1 r || paramAt r 1 = 0 then refuse .badField s else cancelled (cancelTicket (paramAt r 1) s)

/-- CANCEL by class (R146). -/
def cancelByClass (r : Request) (s : State) : Executed :=
  if badAction 2 1 r then refuse .badField s
  else
    match AnnClass.ofCode (paramAt r 1) with
    | some cls => cancelled (cancelClass cls s)
    | none => refuse .badField s

/-! ### LIVE, SCENE-FORCE, SENSE, LIMIT-CLEAR (R128, R130, R158, R86, R100) -/

/-- LIVE ON (R128): a mask bit above 11 is refused. -/
def liveOn (r : Request) (s : State) : Executed :=
  if badAction 3 1 r || decide (4095 < wordAt r.params 1) then refuse .badField s
  else
    let asked := askLive (BitVec.ofNat 12 (wordAt r.params 1)) s
    { state := asked.1, code := asked.2, data := [] }

/-- SCENE-FORCE (R158). -/
def forceScene (r : Request) (s : State) : Executed :=
  match optOf 15 (paramAt r 0) with
  | some scene => if r.params.length ≠ 1 then refuse .badField s else done (setForce scene s)
  | none => refuse .badField s

/-- SENSE START (R86). -/
def senseStart (r : Request) (s : State) : Executed :=
  if badAction 3 1 r then refuse .badField s
  else
    match ScanMode.ofCode (paramAt r 1) with
    | some mode => done (startSense mode (paramAt r 2) s)
    | none => refuse .badField s

/-- SENSE STOP (R86). -/
def senseStop (s : State) : Executed := done (setScan .idle s)

/-- LIMIT-CLEAR (R100): an index of the table, or ALL. R100 does not say in which order ALL clears the entries: the
model goes by the index, and so do the notices and the selections between (DESIGN CHOICE, notes/assumptions/13.md). -/
def clearLimitRequest (r : Request) (s : State) : Executed :=
  let i := paramAt r 0
  if r.params.length ≠ 1 then refuse .badField s
  else if i = 255 then done (clearLimits (List.range 8) s)
  else if i ≤ 7 then done (clearLimit i s)
  else refuse .badIndex s

/-! ### Resets (R176, R177) -/

/-- RESET (R176): every block but the link interface takes its reset values. The frame timer runs on. -/
def resetBlocks (s : State) : State :=
  { State.reset with
    link := s.link
    playout := { playoutReset with frameTimer := s.playout.frameTimer }
    report := s.report
    clockPhase := s.clockPhase
    pending := s.pending }

/-- The RESET request (R169, R176). -/
def resetRequest (r : Request) (s : State) : Executed :=
  if r.params.length ≠ 0 then refuse .badField s else done (resetBlocks s)

/-- POWER_ON_RESET (R177): the state of power-on reset; the waiting commands are not part of the device. -/
def execPowerOnReset (s : State) : Host.Outcome State Fault Refusal :=
  .next { State.reset with pending := s.pending }

/-! ### The commands of the request rows -/

/-- A request of kind number `kind`. -/
def isKind (kind : Nat) (r : Request) : Bool := kindOf r = kind

/-- UNKNOWN_KIND (R169, R183). -/
def execUnknownKind (s : State) : Host.Outcome State Fault Refusal :=
  .next (executeHead (fun r => decide (11 < kindOf r)) (fun _ => refuse .unknownKind) s)

/-- TABLE_WRITE_UNKNOWN_TABLE (R169, R170). -/
def execTableWriteUnknownTable (s : State) : Host.Outcome State Fault Refusal :=
  .next (executeHead writesNoTable refuseWrite s)

def execTableWriteLanguage (s : State) : Host.Outcome State Fault Refusal :=
  .next (executeHead (writesTable 0) (tableWrite languageForm) s)

def execTableWriteSeat (s : State) : Host.Outcome State Fault Refusal :=
  .next (executeHead (writesTable 1) (tableWrite seatForm) s)

def execTableWriteZone (s : State) : Host.Outcome State Fault Refusal :=
  .next (executeHead (writesTable 2) (tableWrite zoneForm) s)

def execTableWriteVolumeCurve (s : State) : Host.Outcome State Fault Refusal :=
  .next (executeHead (writesTable 3) (tableWrite curveForm) s)

def execTableWriteMix (s : State) : Host.Outcome State Fault Refusal :=
  .next (executeHead (writesTable 4) (tableWrite mixForm) s)

def execTableWriteNoiseBands (s : State) : Host.Outcome State Fault Refusal :=
  .next (executeHead (writesTable 5) (tableWrite bandsForm) s)

def execTableWriteClass (s : State) : Host.Outcome State Fault Refusal :=
  .next (executeHead (writesTable 6) (tableWrite classForm) s)

def execTableWriteChime (s : State) : Host.Outcome State Fault Refusal :=
  .next (executeHead (writesTable 7) (tableWrite chimeForm) s)

def execTableWriteSeatLine (s : State) : Host.Outcome State Fault Refusal :=
  .next (executeHead (writesTable 8) (tableWrite seatLineForm) s)

def execTableWriteSenseChannel (s : State) : Host.Outcome State Fault Refusal :=
  .next (executeHead (writesTable 9) (tableWrite senseForm) s)

def execTableWriteLimit (s : State) : Host.Outcome State Fault Refusal :=
  .next (executeHead (writesTable 10) (tableWrite limitForm) s)

def execTableWriteCue (s : State) : Host.Outcome State Fault Refusal :=
  .next (executeHead (writesTable 11) (tableWrite cueForm) s)

def execTableWriteScene (s : State) : Host.Outcome State Fault Refusal :=
  .next (executeHead (writesTable 12) (tableWrite sceneForm) s)

def execTableWriteLighting (s : State) : Host.Outcome State Fault Refusal :=
  .next (executeHead (writesTable 13) (tableWrite lightingForm) s)

/-- TABLE_READ (R171). -/
def execTableRead (s : State) : Host.Outcome State Fault Refusal := .next (executeHead (isKind 1) readTable s)

/-- ROUTE_START (R105). -/
def execRouteStart (s : State) : Host.Outcome State Fault Refusal :=
  .next (executeHead (isAction 2 1 3 0) (takeAction 1 3 fun x => done (startRoute x)) s)

/-- ROUTE_HOLD (R106). -/
def execRouteHold (s : State) : Host.Outcome State Fault Refusal :=
  .next (executeHead (isAction 2 1 3 1) (takeAction 1 3 holdRoute) s)

/-- ROUTE_RESUME (R106). -/
def execRouteResume (s : State) : Host.Outcome State Fault Refusal :=
  .next (executeHead (isAction 2 1 3 2) (takeAction 1 3 resume) s)

/-- ROUTE_STOP (R107). -/
def execRouteStop (s : State) : Host.Outcome State Fault Refusal :=
  .next (executeHead (isAction 2 1 3 3) (takeAction 1 3 fun x => done (stopRoute x)) s)

/-- POSITION_FIX (R118, R119). -/
def execPositionFix (s : State) : Host.Outcome State Fault Refusal := .next (executeHead (isKind 3) fixRequest s)

/-- ANNOUNCE (R138). -/
def execAnnounce (s : State) : Host.Outcome State Fault Refusal := .next (executeHead (isKind 4) announceFromHead s)

/-- CANCEL_BY_TICKET (R146). -/
def execCancelByTicket (s : State) : Host.Outcome State Fault Refusal :=
  .next (executeHead (isAction 5 2 1 0) cancelByTicket s)

/-- CANCEL_BY_CLASS (R146). -/
def execCancelByClass (s : State) : Host.Outcome State Fault Refusal :=
  .next (executeHead (isAction 5 2 1 1) cancelByClass s)

/-- LIVE_ON (R128). -/
def execLiveOn (s : State) : Host.Outcome State Fault Refusal := .next (executeHead (isAction 6 3 1 0) liveOn s)

/-- A LIVE OFF at the head, with what `between` does after live is OFF and before the retry report (R130, R133). -/
def liveOffAround (between : State → State) (s : State) : State :=
  executeHead (isAction 6 3 1 1) (takeAction 3 1 fun x => done (endLiveAround between x)) s

/-- LIVE_OFF (R130), with nothing between. -/
def execLiveOff (s : State) : Host.Outcome State Fault Refusal := .next (liveOffAround (fun x => x) s)

/-- SCENE_FORCE (R158). -/
def execSceneForce (s : State) : Host.Outcome State Fault Refusal := .next (executeHead (isKind 7) forceScene s)

/-- SENSE_START (R86). -/
def execSenseStart (s : State) : Host.Outcome State Fault Refusal :=
  .next (executeHead (isAction 8 3 1 0) senseStart s)

/-- SENSE_STOP (R86). -/
def execSenseStop (s : State) : Host.Outcome State Fault Refusal :=
  .next (executeHead (isAction 8 3 1 1) (takeAction 3 1 senseStop) s)

/-- LIMIT_CLEAR (R100). -/
def execLimitClear (s : State) : Host.Outcome State Fault Refusal :=
  .next (executeHead (isKind 9) clearLimitRequest s)

/-- STATUS_READ (R172). -/
def execStatusRead (s : State) : Host.Outcome State Fault Refusal := .next (executeHead (isKind 10) readStatus s)

/-- RESET (R176). -/
def execReset (s : State) : Host.Outcome State Fault Refusal := .next (executeHead (isKind 11) resetRequest s)

end Sys2Proof.Machine
end

