-- ==== Sys2Proof/Machine/Clock.lean ====
section
/-! DEFINITION. What the device does of itself while no command waits: the commands that are due at once, and the
passing of one reference tick with the timers that run out on it (the model's clock, a DESIGN CHOICE: see
notes/assumptions/3.md). A due event becomes a waiting command; its effect is that command's. -/

namespace Sys2Proof.Machine

/-! ### Commands due at once -/

/-- The row that executes a TABLE-WRITE (R169, R170). -/
def rowOfWrite (r : Request) : Instr :=
  if r.params.length < 3 then .tableWriteUnknownTable
  else
    match paramAt r 0 with
    | 0 => .tableWriteLanguage | 1 => .tableWriteSeat | 2 => .tableWriteZone | 3 => .tableWriteVolumeCurve
    | 4 => .tableWriteMix | 5 => .tableWriteNoiseBands | 6 => .tableWriteClass | 7 => .tableWriteChime
    | 8 => .tableWriteSeatLine | 9 => .tableWriteSenseChannel | 10 => .tableWriteLimit | 11 => .tableWriteCue
    | 12 => .tableWriteScene | 13 => .tableWriteLighting | _ => .tableWriteUnknownTable

/-- The row that executes a ROUTE request. -/
def rowOfRoute (r : Request) : Instr :=
  match paramAt r 0 with
  | 1 => .routeHold | 2 => .routeResume | 3 => .routeStop | _ => .routeStart

/-- The row that executes a request (section 11.4). -/
def rowOf (r : Request) : Instr :=
  match kindOf r with
  | 0 => rowOfWrite r
  | 1 => .tableRead
  | 2 => rowOfRoute r
  | 3 => .positionFix
  | 4 => .announce
  | 5 => if paramAt r 0 = 1 then .cancelByClass else .cancelByTicket
  | 6 => if paramAt r 0 = 1 then .liveOff else .liveOn
  | 7 => .sceneForce
  | 8 => if paramAt r 0 = 1 then .senseStop else .senseStart
  | 9 => .limitClear
  | 10 => .statusRead
  | 11 => .reset
  | _ => .unknownKind

/-- The head request is executed as soon as it may be (R168). -/
def requestDue (s : State) : List Instr :=
  match headRequest s with
  | some r => [rowOf r]
  | none => []

/-- A frame that the bytes held complete (R179). -/
def linkDue (s : State) : List Instr :=
  match (firstFrame s.link.ended s.link.received).1 with
  | .audio _ => [.audioFrame []]
  | .request _ => [.requestFrame []]
  | .bad => [.badFrame []]
  | .unfinished => []

/-- A line is at address 0 of a new round, and its pair is high (R65, R76). -/
def roundBegins (x : Line) : Bool := x.state = .awake && x.transaction = none && x.roundNext = 0 && !x.pairLow

/-- The lines whose next round begins (R65). -/
def roundsDue (s : State) : List Instr :=
  ((List.finRange 4).filter fun (l : Fin 4) => roundBegins (lineAt s l.val)).map Instr.pollRoundBegin

/-- An INPUT-GATE conversion whose N-th edge has come (R90). -/
def gateDue (s : State) : List Instr :=
  match s.sense.scan with
  | .converting k =>
    if k.settings.gateMode = .inputGate && k.gateOpen && decide (k.settings.edgeCount ≤ k.edges) then
      [.inputGateClose 0 ⟨false, false⟩]
    else []
  | _ => []

/-- Everything that is due at once. -/
def dueNow (s : State) : List Instr := linkDue s ++ requestDue s ++ gateDue s ++ roundsDue s

/-! ### One reference tick -/

/-- A reference tick at a conversion (R89, R90): a REF-GATE gate opens with the first and counts the later ones; an
INPUT-GATE conversion counts its wait, and the tick count while its gate is open. -/
def tickConversion (k : Conversion) : Conversion :=
  match k.settings.gateMode with
  | .refGate => if k.gateOpen then { k with ticks := k.ticks + 1 } else { k with gateOpen := true, ticks := 0 }
  | .inputGate => { k with waited := k.waited + 1, ticks := if k.gateOpen then k.ticks + 1 else k.ticks }

/-- What a conversion's counters bring after a tick. -/
def conversionDue (k : Conversion) : List Instr :=
  (if refGateDue k then [.refGateClose ⟨false, false⟩] else []) ++
    (if waitLimitDue k then [.waitLimitTimeout ⟨false, false⟩] else [])

/-- The scan after a reference tick: a conversion's counters, or the start delay (R86, R89, R90). -/
def tickScan : Scan → Scan
  | .converting k => .converting (tickConversion k)
  | .delay left => .delay (left - Config.tickParts)
  | other => other

/-- What the scan's counters bring after a tick. -/
def scanDue (s : State) : List Instr :=
  match s.sense.scan with
  | .converting k => conversionDue k
  | .delay 0 => [.startDelayExpiry]
  | _ => []

/-- A lamp's transition after a millisecond of its own (R161, R162). -/
def tickTransition : Transition → Transition
  | .fading start k i next => .fading start k i (next - 1)
  | .steady => .steady
  | .flashOn left => .flashOn (left - 1)
  | .flashOff left => .flashOff (left - 1)

/-- A lamp after a reference tick: its own time passes, counted from the beginning of its transition, unless it is
STEADY; the moment in which a transition began ends (R161 to R163, R166). -/
def tickLamp (x : Lamp) : Lamp :=
  match x.transition with
  | .steady => passMoment x
  | moving =>
    let phase := x.phase + Config.tickParts
    if phase < Config.tickRate then { passMoment x with phase := phase }
    else { passMoment x with phase := phase - Config.tickRate, transition := tickTransition moving }

/-- A line's timers after a reference tick (R65, R74). -/
def tickLine (x : Line) : Line := { x with quiet := countDown x.quiet, roundLeft := x.roundLeft - Config.tickParts }

/-- A result's age after a reference tick (R93). R93 gives the age as the time since the last result, so a record
without a result has none: the model holds it at 0 (DESIGN CHOICE, notes/assumptions/19.md). -/
def tickAge (r : ResultRec) : ResultRec :=
  if r.present then { r with age := min (r.age + Config.tickParts) (Config.ms Config.ageMax) } else r

/-- Every timer that counts from a moment of its own takes a reference tick (R65, R74, R86, R89, R90, R93, R134, R161,
R162, R181). -/
def tickTimers (s : State) : State :=
  { s with
    link := { s.link with supervision := countDown s.link.supervision }
    lines := { s.lines with lines := s.lines.lines.map tickLine }
    sense := { s.sense with scan := tickScan s.sense.scan, results := s.sense.results.map tickAge }
    announce := { s.announce with startTimer := countDown s.announce.startTimer
                                  durationTimer := countDown s.announce.durationTimer }
    lighting := { s.lighting with lamps := s.lighting.lamps.map tickLamp } }

/-- The free-running frame timer takes a reference tick, by the clock phase that it alone counts with (R2). -/
def tickFrameTimer (s : State) : State :=
  let phase := s.clockPhase + Config.tickParts
  if phase < Config.tickRate then { s with clockPhase := phase }
  else
    { s with clockPhase := phase - Config.tickRate
             playout := { s.playout with frameTimer := s.playout.frameTimer - 1 } }

/-- The command of a lamp whose step or half is due. -/
def lampDue (s : State) (c : Fin 8) : List Instr :=
  match (s.lighting.lamps[c.val]?).map Lamp.transition with
  | some (.fading _ _ _ 0) => [.fadeStep c]
  | some (.flashOn 0) => [.flashHalfExpiry c]
  | some (.flashOff 0) => [.flashHalfExpiry c]
  | _ => []

/-- The commands of a line whose quiet timer or waited-for round is due. -/
def lineDue (s : State) (l : Fin 4) : List Instr :=
  let x := lineAt s l
  (if x.quiet = some 0 then [.quietTimerExpiry l] else []) ++
    (if x.state = .awake && x.transaction = none && x.roundLeft = 0 && decide (12 ≤ x.roundNext) then
      [.roundTimerExpiry l] else [])

/-- The command of a channel whose result's age has reached its limit within the last tick. -/
def staleDue (s : State) (c : SenseChan) : List Instr :=
  match channelRecord s (chanNumber c) with
  | none => []
  | some record =>
    let r := resultRecord s (chanNumber c)
    if isStale r record.staleness && decide (r.age < Config.ms record.staleness + Config.tickParts) then
      [.resultStale c] else []

/-- `c` where `timer` has run out. -/
def timerDue (timer : Option Nat) (c : Instr) : List Instr := if timer = some 0 then [c] else []

/-- Everything that a reference tick makes due, in the model's order; the frame start comes last. -/
def tickDue (s : State) : List Instr :=
  scanDue s ++ (List.finRange 8).flatMap (lampDue s) ++ (List.finRange 4).flatMap (lineDue s) ++
    channelsInOrder.flatMap (staleDue s) ++ timerDue s.announce.startTimer .startTimerExpiry ++
    timerDue s.announce.durationTimer .maximumDurationExpiry ++
    timerDue s.link.supervision (.supervisionTimerExpiry false) ++
    (if s.playout.frameTimer = 0 then [.frameStart false ⟨false, false⟩] else [])

/-! ### The idle step -/

def setPending (commands : List Instr) (s : State) : State := { s with pending := commands }

/-- One reference tick passes; 32,768 of them make 1000 ms (R85). -/
def passTick (s : State) : State :=
  let s1 := tickFrameTimer (tickTimers s)
  setPending (tickDue s1) s1

/-- What the device does while no command waits: it takes up what is due at once, or a reference tick passes. -/
def idle (s : State) : State :=
  match dueNow s with
  | [] => passTick s
  | due => setPending due s

end Sys2Proof.Machine
end

