-- ==== Sys2Proof/Machine/Coincide.lean ====
section
/-! DEFINITION. The events in which the route engine may ask whether a SEGMENT cue can be served, and a LIVE OFF that
falls together with one (R133). -/

namespace Sys2Proof.Machine

/-- The head request is a LIVE OFF that may be executed now (R130, R168). -/
def liveOffDue (s : State) : Bool :=
  match headRequest s with
  | some r => kindOf r = 6 && !badAction 3 1 r && decide (paramAt r 0 = 1)
  | none => false

/-- An event, or, where a LIVE OFF falls together with it and is taken first, that LIVE OFF with the event after live
has become OFF and before the retry report, so that the event's SEGMENT question finds live OFF (R133). That the event's
operand says so is the model's (DESIGN CHOICE, notes/assumptions/4.md). -/
def takeEvent (liveOffFirst : Bool) (event : State → State) (s : State) : State :=
  if liveOffFirst && liveOffDue s then liveOffAround event s else event s

/-- ODOMETER_EDGE (R85, R103, R133). -/
def execOdometerEdge (turn : EventTurn) (s : State) : Host.Outcome State Fault Refusal :=
  .next (takeEvent turn.liveOffFirst (takeOdometerEdge turn.choice) s)

/-- REF_GATE_CLOSE (R89, R91, R92, R133). -/
def execRefGateClose (turn : EventTurn) (s : State) : Host.Outcome State Fault Refusal :=
  .next (takeEvent turn.liveOffFirst (closeRefGate turn.choice) s)

/-- INPUT_GATE_CLOSE (R90, R91, R92, R133). -/
def execInputGateClose (ticks : Nat) (turn : EventTurn) (s : State) : Host.Outcome State Fault Refusal :=
  .next (takeEvent turn.liveOffFirst (closeInputGate ticks turn.choice) s)

/-- WAIT_LIMIT_TIMEOUT (R90, R133). -/
def execWaitLimitTimeout (turn : EventTurn) (s : State) : Host.Outcome State Fault Refusal :=
  .next (takeEvent turn.liveOffFirst (reachWaitLimit turn.choice) s)

end Sys2Proof.Machine
end

