-- ==== Sys2Proof/Machine/Mix.lean ====
section
/-! DEFINITION. The mix engine (sections 3.1 to 3.5): the gain table, the held writes, the zone steps, the factors of
a seat's three terms and its 32 samples of a frame. -/

namespace Sys2Proof.Machine

/-! ### The gain table (R35) -/

/-- F(-96)..F(+24), row by row of R35. -/
def gainTable : List Int :=
  [16, 17, 18, 19, 21, 22, 23, 24, 26, 27] ++
  [29, 31, 33, 34, 37, 39, 41, 43, 46, 49] ++
  [52, 55, 58, 61, 65, 69, 73, 77, 82, 87] ++
  [92, 97, 103, 109, 115, 122, 130, 137, 145, 154] ++
  [163, 173, 183, 194, 205, 217, 230, 244, 258, 274] ++
  [290, 307, 325, 345, 365, 387, 410, 434, 460, 487] ++
  [516, 546, 579, 613, 649, 688, 728, 772, 817, 866] ++
  [917, 971, 1029, 1090, 1154, 1223, 1295, 1372, 1453, 1539] ++
  [1631, 1727, 1830, 1938, 2053, 2175, 2303, 2440, 2584, 2738] ++
  [2900, 3072, 3254, 3446, 3651, 3867, 4096, 4339, 4596, 4868] ++
  [5157, 5462, 5786, 6129, 6492, 6876, 7284, 7715, 8173, 8657] ++
  [9170, 9713, 10289, 10898, 11544, 12228, 12953, 13720, 14533, 15394] ++
  [16306]

/-- The factor of a gain code: 0 below -96, that of +24 above +24 (R35, R46). -/
def factor (code : Int) : Int :=
  if code < -96 then 0 else gainTable.getD ((min code 24) + 96).toNat 0

/-! ### The held writes (R36 to R40, R44, R52) -/

/-- The zones, from `z` on, whose source a ZONE write changes (R39). -/
def sourcesChanged : Nat → List ZoneWrite → List Zone → List Nat
  | z, w :: ws, x :: xs => (if x.source = w.source then [] else [z]) ++ sourcesChanged (z + 1) ws xs
  | _, _, _ => []

/-- A ZONE write's records take effect from zone `z` on (R39). -/
def applyZoneWrites : Nat → List ZoneWrite → State → State
  | _, [], s => s
  | z, w :: ws, s =>
    applyZoneWrites (z + 1) ws (setZone z (fun x => { x with source := w.source, clipNotice := w.clipNotice }) s)

/-- One held write takes effect. The second part is the zones that take a new target by it (R39, R40). -/
def applyMixWrite (w : HeldMixWrite) (s : State) : State × List Nat :=
  match w with
  | .volumeCurve first records => ({ s with mix := { s.mix with curve := writeAt s.mix.curve first records } }, [])
  | .mix record => ({ s with mix := { s.mix with params := record } }, [])
  | .cls first records => ({ s with mix := { s.mix with classes := writeAt s.mix.classes first records } }, [])
  | .zone first records =>
    (applyZoneWrites first records s, sourcesChanged first records (s.mix.zones.drop first))
  | .noiseBands first records =>
    ({ s with mix := { s.mix with bands := writeAt s.mix.bands first records } }, List.range 4)
  | .chime first records => ({ s with mix := { s.mix with chimes := writeAt s.mix.chimes first records } }, [])

/-- The held writes in their order, and every zone that takes a new target by them. -/
def applyMixHeld : List HeldMixWrite → State → State × List Nat
  | [], s => (s, [])
  | w :: ws, s =>
    let one := applyMixWrite w s
    let rest := applyMixHeld ws one.1
    (rest.1, one.2 ++ rest.2)

/-- A zone takes a target from its source's present averaged value: 0 without a source, left as it was while the value
is unordered (R40). -/
def presentTarget (s : State) (z : Zone) : Nat :=
  match z.source with
  | none => 0
  | some source =>
    match orderedAverage (sourceChannel source) s with
    | some v => bandOffset v s.mix.bands
    | none => z.target

/-- The zones named take their targets. -/
def retargetZones : List Nat → State → State
  | [], s => s
  | z :: rest, s => retargetZones rest (setZone z (fun x => { x with target := presentTarget s x }) s)

/-- The mix engine's held writes at a frame start, and the targets they call for (R44 steps 1 and 2). -/
def mixFrameWrites (s : State) : State :=
  let applied := applyMixHeld s.mix.held { s with mix := { s.mix with held := [] } }
  retargetZones applied.2 applied.1

/-! ### The zone steps (R41, R42) -/

/-- The slew step (R41). -/
def slewStep (slewFrames : Nat) (z : Zone) : Zone :=
  if z.offset = z.target then { z with slew := 0 }
  else if slewFrames ≤ z.slew + 1 then
    { z with offset := if z.offset < z.target then z.offset + 1 else z.offset - 1, slew := 0 }
  else { z with slew := z.slew + 1 }

/-- The duck step toward `target`, after the clamp to the depth (R42). -/
def duckStep (p : MixParams) (ducked : Bool) (z : Zone) : Zone :=
  let target : Int := if ducked then -p.duckDepth else 0
  let clamped := max z.duck (-p.duckDepth)
  { z with duck :=
      if target < clamped then max target (clamped - p.attack)
      else min target (clamped + p.release) }

/-- The steps of the zones from `z` on. -/
def stepZones (s : State) : Nat → List Zone → List Zone
  | _, [] => []
  | z, x :: xs => duckStep s.mix.params (pathCovers s z) (slewStep s.mix.params.noiseSlew x) :: stepZones s (z + 1) xs

/-- The slew and duck steps of every zone (R44 step 2). -/
def zoneSteps (s : State) : State := { s with mix := { s.mix with zones := stepZones s 0 s.mix.zones } }

/-! ### The factors of a seat (R46 to R49) -/

/-- The samples of a tag in the handed frame, zeros where it holds no block (R11). -/
def channelSamples (tag : Nat) (frame : List KeptBlock) : List Int :=
  match frame.find? (fun b => decide (b.tag = tag)) with
  | some b => b.samples
  | none => silence

/-- The commentary source of a language (R47). -/
def commentary (s : State) (frame : List KeptBlock) : Option Nat → List Int
  | none => silence
  | some i =>
    if s.segment.live = .on ∧ s.segment.liveMask.getLsbD i then channelSamples 30 frame
    else
      match s.seats.map[i]? with
      | some e => channelSamples e.tag frame
      | none => silence

/-- The code of an announcement or chime term of a class with `trim` (R48, R49); none gives factor 0. -/
def classCode (r : ClassRec) (volume : Nat) (vcode offset trim : Int) : Option Int :=
  if volume = 0 then (if r.muteOverride then some (r.floor + offset + trim) else none)
  else some (max vcode r.floor + offset + trim)

def codeFactor : Option Int → Int
  | some code => factor code
  | none => 0

/-- The three factors of a seat. -/
structure Factors where
  commentary : Int
  announcement : Int
  chime : Int
  deriving DecidableEq, Repr

def zoneAt (s : State) (z : Nat) : Zone := s.mix.zones.getD z (zoneReset none)

/-- The volume curve's code for a step (R36). -/
def volumeCode (s : State) (volume : Nat) : Int := s.mix.curve.getD volume 0

/-- The commentary factor (R46). -/
def commentaryFactor (s : State) (x : Seat) : Int :=
  if x.volume = 0 then 0
  else factor (volumeCode s x.volume + (zoneAt s x.zone).offset + (zoneAt s x.zone).duck)

/-- The announcement factor (R48). -/
def announcementFactor (s : State) (x : Seat) : Int :=
  match s.announce.path with
  | none => 0
  | some e =>
    if e.state = .playing ∧ inMask e.mask x.zone then
      let r := classRecord s e.cls
      codeFactor (classCode r x.volume (volumeCode s x.volume) (zoneAt s x.zone).offset r.trim)
    else 0

/-- The chime factor of seat `n` (R49) for what the generator plays. The class of an announcement chime is the path
entry's (DEDUCED, notes/assumptions/15.md). -/
def chimeFactor (s : State) (n : Nat) (x : Seat) : Int :=
  match s.mix.generator with
  | none => 0
  | some q =>
    match q.use with
    | .beep line box =>
      if n / 24 = line ∧ n % 24 / 2 = box ∧ x.volume ≠ 0 then
        factor (volumeCode s x.volume + (zoneAt s x.zone).offset)
      else 0
    | .announcement _ mask =>
      match s.announce.path with
      | none => 0
      | some e =>
        if inMask mask x.zone then
          let r := classRecord s e.cls
          codeFactor (classCode r x.volume (volumeCode s x.volume) (zoneAt s x.zone).offset r.chimeTrim)
        else 0

def factorsOf (s : State) (n : Nat) (x : Seat) : Factors :=
  { commentary := commentaryFactor s x, announcement := announcementFactor s x, chime := chimeFactor s n x }

/-! ### The samples of a seat (R45, R50) -/

/-- The rounded sum of one sample position (R50 steps 1 and 2). -/
def mixSample (f : Factors) (c a t : Int) : Int :=
  (c * f.commentary + a * f.announcement + t * f.chime + 2048) / 4096

/-- The rounded sums of a frame. -/
def mixSamples (f : Factors) : List Int → List Int → List Int → List Int
  | c :: cs, a :: as, t :: ts => mixSample f c a t :: mixSamples f cs as ts
  | _, _, _ => []

/-- A sample limited to the sample range (R50 step 3). -/
def limited (y : Int) : Int := max (-32768) (min y 32767)

/-- A rounded sum outside the sample range is a saturation (R50). -/
def saturates (y : Int) : Bool := decide (y < -32768) || decide (32767 < y)

/-- The seat is computed: its jack is PRESENT, it is fitted, and its line is not SLEEPING (R45). -/
def isComputed (s : State) (n : Nat) (x : Seat) : Bool :=
  x.jack && x.fitted && decide ((lineAt s (n / 24)).state ≠ .sleeping)

/-- The samples of seat `n` in the frame, and whether one of them saturated. -/
def seatSamples (s : State) (frame : List KeptBlock) (tone : List Int) (n : Nat) (x : Seat) : List Int × Bool :=
  if isComputed s n x then
    let ys := mixSamples (factorsOf s n x) (commentary s frame x.language) (channelSamples 31 frame) tone
    (ys.map limited, ys.any saturates)
  else (silence, false)

/-- The samples of the seats from `n` on, each with its zone where it saturated. -/
def mixSeats (s : State) (frame : List KeptBlock) (tone : List Int) : Nat → List Seat → List (List Int × Option Nat)
  | _, [] => []
  | n, x :: xs =>
    let out := seatSamples s frame tone n x
    (out.1, if out.2 then some x.zone else none) :: mixSeats s frame tone (n + 1) xs

/-- The lines from `l` on take the samples of their seats; a SLEEPING line sends 0 (R44 step 5, R79, R80). -/
def fillSlots : List (List Int) → List Line → List Line
  | _, [] => []
  | samples, x :: xs =>
    { x with slots := match x.state with
        | .awake => samples.take 24
        | .sleeping => silentSlots } :: fillSlots (samples.drop 24) xs

/-- The saturations of a frame (R51). R51 gives the seats no order: that the ZONE-CLIP notices of several zones come in
the order of the seat numbers is the model's choice (DESIGN CHOICE, notes/assumptions/27.md). -/
def saturateAll : List (Option Nat) → State → State
  | [], s => s
  | some z :: rest, s => saturateAll rest (saturate z s)
  | none :: rest, s => saturateAll rest s

/-- The samples of every seat are computed from the handed frame, and handed to the lines (R44 steps 3 to 5, R51). The
generator's state is read before its samples of the frame are made. -/
def mixFrame (frame : List KeptBlock) (s : State) : State :=
  let tone := playChime s
  let out := mixSeats s frame tone.1 0 s.seats.seats
  let s1 := tone.2
  let s2 := { s1 with lines := { s1.lines with lines := fillSlots (out.map Prod.fst) s1.lines.lines } }
  saturateAll (out.map Prod.snd) s2

end Sys2Proof.Machine
end

