-- ==== Sys2Proof/Machine/FrameStart.lean ====
section
/-! DEFINITION. The frame start (R2): what every block does at it, in one order (DEDUCED,
notes/assumptions/20.md), with the choices of order the spec leaves to the event (notes/assumptions/4.md). -/

namespace Sys2Proof.Machine

/-- The chime's end reaches the announcement controller (R54, R142, R150). -/
def chimeReport (ended : Bool) (s : State) : State := if ended then chimeEnded s else s

/-- The END of a mixed announcement block is reported (R12, R144). -/
def endReport (ticket : Option Nat) (s : State) : State :=
  match ticket with
  | some t => endReported t s
  | none => s

/-- The report is built where `build` says so. -/
def reportWhen (build : Bool) (s : State) : State := if build then buildReport s else s

/-- The generator whose last sample was played in the previous frame becomes IDLE, and an announcement chime's end is
reported (R54). -/
def endChime (s : State) : State :=
  let retired := retireChime s
  chimeReport retired.2 retired.1

/-- Whether a frame start finds that the generator's last sample was played in the previous frame (R54). -/
def chimeOver (s : State) : Bool :=
  match s.mix.generator with
  | some { tones := [], .. } => true
  | _ => false

/-- The work from the handover to the lines' samples: the seat record store, the lines' writes, the mix engine's
writes, the generator's end, the zone steps, the mix, and the displays and the INDICATOR layer, which read the state as
the mix does (R11, R24, R44, R57, R73, R157). A chime's end is taken before the path is read, or after, so that the
frame start reads the new path or the old (R43). -/
def frameWork (chimeFirst : Bool) (frame : List KeptBlock) (s : State) : State :=
  let s1 := mixFrameWrites (lineFrameWork (seatFrameWork s))
  let s2 := if chimeFirst then endChime s1 else s1
  let s3 := mixFrame frame (zoneSteps s2)
  let s4 := setIndicator s3.route.requested.isSome (updateDisplays s3)
  if !chimeFirst && chimeOver s1 then endChime s4 else s4

/-- FRAME_START (R2). The handover, whose retry may ask a SEGMENT question (R14, R127), is the event that a LIVE OFF may
fall together with (R133). -/
def execFrameStart (reportFirst : Bool) (turn : EventTurn) (s : State) : Host.Outcome State Fault Refusal :=
  let s1 := reportWhen reportFirst { s with playout := { s.playout with frameTimer := Config.framePeriod } }
  let frame := (handOver s1).1
  let s2 := takeEvent turn.liveOffFirst (fun x => (handOver x).2) s1
  let s3 := endReport (endTicket frame) (frameWork turn.choice frame s2)
  .next (reportWhen (!reportFirst) s3)

end Sys2Proof.Machine
end

