-- ==== Sys2Proof/Machine/Dispatch.lean ====
section
/-! DEFINITION. The dispatcher: one arm per command, each one direct call of the command's meaning. -/

namespace Sys2Proof.Machine

/-- The effect of a command on everything but the queue of waiting commands. -/
def exec (i : Instr) (s : State) : Host.Outcome State Fault Refusal :=
  match i with
  | .powerOnReset => Sys2Proof.Machine.execPowerOnReset s
  | .audioFrame bytes => Sys2Proof.Machine.execAudioFrame bytes s
  | .requestFrame bytes => Sys2Proof.Machine.execRequestFrame bytes s
  | .badFrame bytes => Sys2Proof.Machine.execBadFrame bytes s
  | .byteGapTimeout bytes => Sys2Proof.Machine.execByteGapTimeout bytes s
  | .supervisionTimerExpiry liveFirst => Sys2Proof.Machine.execSupervisionTimerExpiry liveFirst s
  | .frameStart reportFirst turn => Sys2Proof.Machine.execFrameStart reportFirst turn s
  | .unknownKind => Sys2Proof.Machine.execUnknownKind s
  | .tableWriteUnknownTable => Sys2Proof.Machine.execTableWriteUnknownTable s
  | .tableWriteLanguage => Sys2Proof.Machine.execTableWriteLanguage s
  | .tableWriteSeat => Sys2Proof.Machine.execTableWriteSeat s
  | .tableWriteZone => Sys2Proof.Machine.execTableWriteZone s
  | .tableWriteVolumeCurve => Sys2Proof.Machine.execTableWriteVolumeCurve s
  | .tableWriteMix => Sys2Proof.Machine.execTableWriteMix s
  | .tableWriteNoiseBands => Sys2Proof.Machine.execTableWriteNoiseBands s
  | .tableWriteClass => Sys2Proof.Machine.execTableWriteClass s
  | .tableWriteChime => Sys2Proof.Machine.execTableWriteChime s
  | .tableWriteSeatLine => Sys2Proof.Machine.execTableWriteSeatLine s
  | .tableWriteSenseChannel => Sys2Proof.Machine.execTableWriteSenseChannel s
  | .tableWriteLimit => Sys2Proof.Machine.execTableWriteLimit s
  | .tableWriteCue => Sys2Proof.Machine.execTableWriteCue s
  | .tableWriteScene => Sys2Proof.Machine.execTableWriteScene s
  | .tableWriteLighting => Sys2Proof.Machine.execTableWriteLighting s
  | .tableRead => Sys2Proof.Machine.execTableRead s
  | .routeStart => Sys2Proof.Machine.execRouteStart s
  | .routeHold => Sys2Proof.Machine.execRouteHold s
  | .routeResume => Sys2Proof.Machine.execRouteResume s
  | .routeStop => Sys2Proof.Machine.execRouteStop s
  | .positionFix => Sys2Proof.Machine.execPositionFix s
  | .announce => Sys2Proof.Machine.execAnnounce s
  | .cancelByTicket => Sys2Proof.Machine.execCancelByTicket s
  | .cancelByClass => Sys2Proof.Machine.execCancelByClass s
  | .liveOn => Sys2Proof.Machine.execLiveOn s
  | .liveOff => Sys2Proof.Machine.execLiveOff s
  | .sceneForce => Sys2Proof.Machine.execSceneForce s
  | .senseStart => Sys2Proof.Machine.execSenseStart s
  | .senseStop => Sys2Proof.Machine.execSenseStop s
  | .limitClear => Sys2Proof.Machine.execLimitClear s
  | .statusRead => Sys2Proof.Machine.execStatusRead s
  | .reset => Sys2Proof.Machine.execReset s
  | .odometerEdge turn => Sys2Proof.Machine.execOdometerEdge turn s
  | .startDelayExpiry => Sys2Proof.Machine.execStartDelayExpiry s
  | .inputGateOpen => Sys2Proof.Machine.execInputGateOpen s
  | .refGateClose turn => Sys2Proof.Machine.execRefGateClose turn s
  | .inputGateClose ticks turn => Sys2Proof.Machine.execInputGateClose ticks turn s
  | .waitLimitTimeout turn => Sys2Proof.Machine.execWaitLimitTimeout turn s
  | .resultStale channel => Sys2Proof.Machine.execResultStale channel s
  | .pollRoundBegin line => Sys2Proof.Machine.execPollRoundBegin line s
  | .roundTimerExpiry line => Sys2Proof.Machine.execRoundTimerExpiry line s
  | .answerWindowExpiry line => Sys2Proof.Machine.execAnswerWindowExpiry line s
  | .statusTransactionEnd line answer => Sys2Proof.Machine.execStatusTransactionEnd line answer s
  | .identTransactionEnd line answer => Sys2Proof.Machine.execIdentTransactionEnd line answer s
  | .displayTransactionEnd line => Sys2Proof.Machine.execDisplayTransactionEnd line s
  | .echo line => Sys2Proof.Machine.execEcho line s
  | .controlPairLow line sending => Sys2Proof.Machine.execControlPairLow line sending s
  | .wakePulse line => Sys2Proof.Machine.execWakePulse line s
  | .quietTimerExpiry line => Sys2Proof.Machine.execQuietTimerExpiry line s
  | .startTimerExpiry => Sys2Proof.Machine.execStartTimerExpiry s
  | .maximumDurationExpiry => Sys2Proof.Machine.execMaximumDurationExpiry s
  | .fadeStep lamp => Sys2Proof.Machine.execFadeStep lamp s
  | .flashHalfExpiry lamp => Sys2Proof.Machine.execFlashHalfExpiry lamp s
  | .senseInputEdge channel => Sys2Proof.Machine.execSenseInputEdge channel s

end Sys2Proof.Machine
end

