-- ==== Sys2Proof/Machine/Step.lean ====
section
/-! DEFINITION. The step of the device: the command at the front of the queue, or the device's own clock while no
command waits. -/

namespace Sys2Proof.Machine

/-- One step: the waiting command at the front is taken and executed, and while none waits the device idles. -/
def step (s : State) : Host.Outcome State Fault Refusal :=
  match s.pending with
  | [] => .next (Sys2Proof.Machine.idle s)
  | c :: rest => exec c { s with pending := rest }

/-- `s` with the command that a word spells put at the front of its queue; unchanged where the word spells none. -/
def State.withFetchWord (s : State) (nbits w : Nat) : State :=
  match decodeTableWord nbits w with
  | some c => { s with pending := c :: s.pending }
  | none => s

end Sys2Proof.Machine
end

