-- ==== Sys2Proof/Safety.lean ====
section
/-! DEFINITION. What a safe run is, in the words the statements use: the properties every reachable state keeps, and
the words for a request that stands at the head of the queue and for the state after its reply. -/

namespace Sys2Proof.Machine

/-! ### Properties of a state -/

/-- Every bounded list is within its capacity (R5, R113, R137, R167, R168, R173). -/
def bounded (s : State) : Prop :=
  s.playout.queue.length ≤ 4 ∧ s.route.openCues.length ≤ 16 ∧ queuedCount s ≤ 8 ∧ s.manage.requests.length ≤ 4 ∧
    s.manage.replies.length ≤ 8 ∧ s.manage.notices.length ≤ 16

/-- No two WAITING entries share both clip and class (R137). -/
def waitingDistinct (s : State) : Prop :=
  s.announce.waiting.Pairwise fun a b => ¬ (a.clip = b.clip ∧ a.cls = b.cls)

/-- Entry `a` stands before entry `b`: the better class, or the older arrival in one class (R136). -/
def ranksBefore (a b : Entry) : Prop :=
  a.cls.code < b.cls.code ∨ (a.cls = b.cls ∧ a.arrival < b.arrival)

/-- The WAITING entries stand in rank order, and every entry queued has an arrival order of its own, older than the next
one to be given (R134, R136). -/
def waitingRanked (s : State) : Prop :=
  s.announce.waiting.Pairwise ranksBefore ∧
    ((s.announce.path.toList ++ s.announce.waiting).map Entry.arrival).Nodup ∧
    ∀ e ∈ s.announce.path.toList ++ s.announce.waiting, e.arrival < s.announce.nextArrival

/-- A transition that keeps to the range of lamp levels: a fade with a step left, from a level in the range. -/
def transitionInRange : Transition → Prop
  | .fading start steps taken _ => start ≤ 1000 ∧ taken < steps
  | _ => True

/-- A lamp's level, its target and its transition lie in 0..1000, and so they did before the changes of the present
moment (R161). -/
def lampInRange (x : Lamp) : Prop :=
  x.level ≤ 1000 ∧ x.setting.target ≤ 1000 ∧ transitionInRange x.transition ∧
    ∀ b, x.began = some b → b.level ≤ 1000 ∧ b.setting.target ≤ 1000 ∧ transitionInRange b.transition

/-- Every lamp channel's level lies within 0..1000, and everything a level is taken from does too (R154, R156,
R161). -/
def lightingInRange (s : State) : Prop :=
  (∀ scene ∈ s.lighting.scenes, ∀ p ∈ scene, p.target ≤ 1000) ∧ s.lighting.params.indicatorLevel ≤ 1000 ∧
    ∀ x ∈ s.lighting.lamps, lampInRange x

/-- Every sample in a seat slot lies within -32768..32767 (R50). -/
def samplesInRange (s : State) : Prop :=
  ∀ x ∈ s.lines.lines, ∀ slot ∈ x.slots, ∀ y ∈ slot, -32768 ≤ y ∧ y ≤ 32767

/-- Every zone's duck attenuation lies between minus the duck depth and 0 (R42). -/
def ducksInRange (s : State) : Prop :=
  ∀ z ∈ s.mix.zones, -(s.mix.params.duckDepth : Int) ≤ z.duck ∧ z.duck ≤ 0

/-- A seat's volume step lies in 0..15, and its language is an enabled entry of the map, or NONE while no entry is
enabled (R24). -/
def seatOnOffer (map : List LangEntry) (x : Seat) : Prop :=
  x.volume ≤ 15 ∧
    match x.language with
    | some i => languageEnabled map i = true
    | none => ∀ e ∈ map, e.enabled = false

/-- A held SEAT record gives a volume step in 0..15. -/
def heldSeatInRange : HeldSeatWrite → Prop
  | .language _ _ => True
  | .seat _ records => ∀ w ∈ records, w.volume ≤ 15

/-- A held MIX record gives a default volume step in 0..15. -/
def heldMixInRange : HeldMixWrite → Prop
  | .mix record => record.defaultStep ≤ 15
  | _ => True

/-- The 96 seats are all on a language on offer, with a volume step in range, and what is held for them is in range
too (R22, R24, R37). -/
def seatsOnOffer (s : State) : Prop :=
  s.seats.seats.length = 96 ∧ (∀ x ∈ s.seats.seats, seatOnOffer s.seats.map x) ∧
    (∀ w ∈ s.seats.held, heldSeatInRange w) ∧ s.mix.params.defaultStep ≤ 15 ∧ ∀ w ∈ s.mix.held, heldMixInRange w

/-- A stop press may target cue `c`: in use, of kind STOP-ARRIVAL (2), and ARMED, PENDING or DEFERRED (R120). -/
def stopTargets (c : Cue) : Prop :=
  c.inUse = true ∧ c.kind = 2 ∧ (c.state = .armed ∨ c.state = .pending ∨ c.state = .deferred)

/-- The open-cue list holds no cue twice, and each of its cues is PENDING or DEFERRED (R113). -/
def openCuesSound (s : State) : Prop :=
  s.route.openCues.Nodup ∧ ∀ i ∈ s.route.openCues, (cueAt s i).state = .pending ∨ (cueAt s i).state = .deferred

/-- A requested stop names a STOP-ARRIVAL cue that is ARMED, PENDING or DEFERRED, by its index and stop number, and a
STOPPED route has none (R107, R121). -/
def requestedSound (s : State) : Prop :=
  (s.route.state = .stopped → s.route.requested = none) ∧
    ∀ q, s.route.requested = some q → stopTargets (cueAt s q.cue) ∧ (cueAt s q.cue).stop = q.stop

/-! ### Records as a TABLE-WRITE carries them: the set of each field, and the record that is taken -/

/-- A code character: a capital letter or a space (R17). -/
def codeLetter (n : Nat) : Prop := n = 0x20 ∨ (0x41 ≤ n ∧ n ≤ 0x5A)

/-- LANGUAGE (R17, R19). -/
def langFields (b : List Byte) (x : LangEntry) : Prop :=
  byteAt b 0 ≤ 1 ∧ byteAt b 1 ≤ 29 ∧ codeLetter (byteAt b 2) ∧ codeLetter (byteAt b 3) ∧ byteAt b 4 ≤ 1 ∧
    byteAt b 5 ≤ 1 ∧
    x = { enabled := decide (byteAt b 0 = 0), tag := byteAt b 1, code1 := byteAt b 2, code2 := byteAt b 3
          liveEligible := decide (byteAt b 4 = 0), isDefault := decide (byteAt b 5 = 0) }

/-- SEAT, its language apart, which is judged against the map (R22). -/
def seatFields (b : List Byte) (x : SeatWrite) : Prop :=
  byteAt b 0 ≤ 3 ∧ byteAt b 2 ≤ 15 ∧
    x = { zone := byteAt b 0, language := if byteAt b 1 = 255 then none else some (byteAt b 1), volume := byteAt b 2 }

/-- ZONE (R39). -/
def zoneFields (b : List Byte) (x : ZoneWrite) : Prop :=
  (byteAt b 0 ≤ 1 ∨ byteAt b 0 = 255) ∧ byteAt b 1 ≤ 1 ∧
    x = { source := if byteAt b 0 = 0 then some .nfwd else if byteAt b 0 = 1 then some .naft else none
          clipNotice := decide (byteAt b 1 = 0) }

/-- VOLUME-CURVE (R36). -/
def curveFields (b : List Byte) (x : Int) : Prop := -96 ≤ x ∧ x ≤ 24 ∧ x = (b.getD 0 0).toInt

/-- MIX (R37). -/
def mixFields (b : List Byte) (x : MixParams) : Prop :=
  byteAt b 0 ≤ 96 ∧ (1 ≤ byteAt b 1 ∧ byteAt b 1 ≤ 96) ∧ (1 ≤ byteAt b 2 ∧ byteAt b 2 ≤ 96) ∧ byteAt b 3 ≤ 15 ∧
    (1 ≤ byteAt b 4 ∧ byteAt b 4 ≤ 250) ∧
    x = { duckDepth := byteAt b 0, attack := byteAt b 1, release := byteAt b 2, defaultStep := byteAt b 3
          noiseSlew := byteAt b 4 }

/-- NOISE-BANDS (R40). -/
def bandFields (b : List Byte) (x : Band) : Prop :=
  byteAt b 2 ≤ 24 ∧ x = { threshold := wordAt b 0, offset := byteAt b 2 }

/-- CLASS (R38). -/
def classFields (b : List Byte) (x : ClassRec) : Prop :=
  (-96 ≤ x.floor ∧ x.floor ≤ 24) ∧ (-48 ≤ x.trim ∧ x.trim ≤ 24) ∧ (byteAt b 2 ≤ 3 ∨ byteAt b 2 = 255) ∧
    (-48 ≤ x.chimeTrim ∧ x.chimeTrim ≤ 24) ∧ (1 ≤ byteAt b 4 ∧ byteAt b 4 ≤ 120) ∧ byteAt b 5 ≤ 1 ∧
    x = { floor := (b.getD 0 0).toInt, trim := (b.getD 1 0).toInt
          chime := if byteAt b 2 = 255 then none else some (byteAt b 2), chimeTrim := (b.getD 3 0).toInt
          maxSeconds := byteAt b 4, muteOverride := decide (byteAt b 5 = 0) }

/-- The tone at byte `i` of a CHIME record (R52). -/
def toneFields (b : List Byte) (i : Nat) (x : Tone) : Prop :=
  (wordAt b i = 0 ∨ (100 ≤ wordAt b i ∧ wordAt b i ≤ 4000)) ∧
    (10 ≤ wordAt b (i + 2) ∧ wordAt b (i + 2) ≤ 1000 ∧ 10 ∣ wordAt b (i + 2)) ∧
    x = { frequency := wordAt b i, duration := wordAt b (i + 2) }

/-- CHIME (R52). -/
def chimeFields (b : List Byte) (x : Chime) : Prop :=
  (1 ≤ byteAt b 0 ∧ byteAt b 0 ≤ 4) ∧ x.count = byteAt b 0 ∧ x.tones.length = 4 ∧
    ∀ i tone, x.tones[i]? = some tone → toneFields b (1 + 4 * i) tone

/-- SEAT-LINE (R57). -/
def lineFields (b : List Byte) (x : LineWrite) : Prop :=
  byteAt b 0 ≤ 1 ∧ byteAt b 1 ≤ 1 ∧
    x = { mode := if byteAt b 0 = 0 then .short else .full, sleepEnable := decide (byteAt b 1 = 0) }

/-- SENSE-CHANNEL of channel number `channel` (R83, R84). -/
def senseFields (channel : Nat) (b : List Byte) (x : SenseRec) : Prop :=
  byteAt b 0 ≤ 1 ∧ byteAt b 1 ≤ 1 ∧ wordAt b 2 ∈ [1024, 2048, 4096, 8192, 16384, 32768] ∧ 1 ≤ byteAt b 4 ∧
    1 ≤ wordAt b 5 ∧ byteAt b 7 ∈ [1, 2, 4, 8, 16] ∧ (100 ≤ wordAt b 8 ∧ wordAt b 8 ≤ 10000) ∧
    (channel = 0 → 1 ≤ wordAt b 10) ∧
    x = { enabled := decide (byteAt b 0 = 0), gateMode := if byteAt b 1 = 0 then .refGate else .inputGate
          gateLength := wordAt b 2, edgeCount := byteAt b 4, waitLimit := wordAt b 5, averaging := byteAt b 7
          staleness := wordAt b 8, pulse := if channel = 0 then wordAt b 10 else 0 }

/-- The action of a LIMIT record, from byte 9 on (R97). -/
def actionFields (b : List Byte) (x : LimitAction) : Prop :=
  (byteAt b 9 = 255 ∧ x = .nothing) ∨ (byteAt b 9 = 0 ∧ byteAt b 10 ≤ 15 ∧ x = .baseScene (byteAt b 10)) ∨
    (byteAt b 9 = 1 ∧ wordAt b 11 ≤ 1023 ∧
      ∃ cls : AnnClass, cls.code = byteAt b 13 ∧ x = .announce (wordAt b 11) cls (BitVec.ofNat 4 (byteAt b 14)))

/-- LIMIT (R97). -/
def limitFields (b : List Byte) (x : Limit) : Prop :=
  byteAt b 0 ≤ 1 ∧ byteAt b 1 ≤ 4 ∧ byteAt b 2 ≤ 1 ∧ byteAt b 3 ≤ 1 ∧ byteAt b 8 ≤ 1 ∧ actionFields b x.action ∧
    x = { inUse := decide (byteAt b 0 = 0), channel := byteAt b 1, source := if byteAt b 2 = 0 then .raw else .avg
          direction := if byteAt b 3 = 0 then .over else .under, threshold := wordAt b 4, hysteresis := wordAt b 6
          mode := if byteAt b 8 = 0 then .latched else .transparent, action := x.action, tripped := false }

/-- The fields that an in-use cue's kind uses (R108, R109). -/
def cueKindFields (x : Cue) : Prop :=
  (x.kind = 0 ∧ 1 ≤ x.segment ∧ x.segment ≤ 4095 ∧ x.preempt ≤ 1) ∨
  (x.kind = 1 ∧ x.clip ≤ 1022 ∧ 1 ≤ x.stop ∧ x.stop ≤ 63) ∨ (x.kind = 2 ∧ x.clip ≤ 1023 ∧ 1 ≤ x.stop ∧ x.stop ≤ 63) ∨
  (x.kind = 3 ∧ x.clip ≤ 1023 ∧ (x.scene ≤ 15 ∨ x.scene = 255)) ∨ (x.kind = 4 ∧ (x.scene ≤ 15 ∨ x.scene = 255)) ∨
  x.kind = 5

/-- CUE: the record as given, in state ARMED, its fields judged where it is in use (R108, R109). -/
def cueFields (b : List Byte) (x : Cue) : Prop :=
  byteAt b 0 ≤ 1 ∧
    (byteAt b 0 = 0 → x.trigger ≤ 1048575 ∧ x.repeatable ≤ 1 ∧ cueKindFields x ∧
      (x.conditionChannel = 255 ∨ (x.conditionChannel ≤ 4 ∧ x.predicate ≤ 8))) ∧
    x = { inUse := decide (byteAt b 0 = 0), trigger := threeAt b 1, window := wordAt b 4, kind := byteAt b 6
          conditionChannel := byteAt b 7, predicate := byteAt b 8, threshold := wordAt b 9, segment := wordAt b 11
          clip := wordAt b 13, mask := BitVec.ofNat 4 (byteAt b 15), scene := byteAt b 16, stop := byteAt b 17
          repeatable := byteAt b 18, preempt := byteAt b 19, state := .armed }

/-- The part of a SCENE record at byte `i` (R154, R155). -/
def partFields (b : List Byte) (i : Nat) (x : ScenePart) : Prop :=
  byteAt b i ≤ 1 ∧ wordAt b (i + 1) ≤ 1000 ∧ byteAt b (i + 3) ≤ 1 ∧
    (100 ≤ wordAt b (i + 4) ∧ wordAt b (i + 4) ≤ 5000 ∧ 20 ∣ wordAt b (i + 4)) ∧
    (wordAt b (i + 6) ≤ 10000 ∧ 10 ∣ wordAt b (i + 6)) ∧
    x = { claim := decide (byteAt b i = 0), target := wordAt b (i + 1)
          pattern := if byteAt b (i + 3) = 0 then .steady else .flash, period := wordAt b (i + 4)
          fade := wordAt b (i + 6) }

/-- SCENE (R154, R155). -/
def sceneFields (b : List Byte) (x : List ScenePart) : Prop :=
  x.length = 8 ∧ ∀ i part, x[i]? = some part → partFields b (8 * i) part

/-- LIGHTING (R156). -/
def lightingFields (b : List Byte) (x : LightParams) : Prop :=
  byteAt b 0 ≤ 15 ∧ (byteAt b 1 ≤ 7 ∨ byteAt b 1 = 255) ∧ wordAt b 2 ≤ 1000 ∧ byteAt b 4 ≤ 3 ∧
    x = { baseScene := byteAt b 0, indicatorChannel := if byteAt b 1 = 255 then none else some (byteAt b 1)
          indicatorLevel := wordAt b 2, beepChime := byteAt b 4 }

/-! ### Requests -/

/-- `r` is the head of the request queue, `rest` waits behind it, and the reply list has a free place (R168). -/
def headIs (r : Request) (rest : List Request) (s : State) : Prop :=
  s.manage.requests = r :: rest ∧ s.manage.replies.length < 8

/-- `s` once the head request `r` has left the queue with its reply, and nothing else (R168). -/
def answered (r : Request) (rest : List Request) (code : ReplyCode) (data : List Byte) (s : State) : State :=
  { s with manage := { s.manage with
      requests := rest
      replies := s.manage.replies ++ [{ tag := r.tag, kind := r.kind, code := code, data := data }] } }

/-- `r` is a TABLE-WRITE of `count` records of `size` bytes from `first` on, within the `entries` of table `table`
(R169, R170). -/
def isWrite (table size entries first count : Nat) (r : Request) : Prop :=
  r.kind = 0#8 ∧ r.params.length = 3 + count * size ∧ byteAt r.params 0 = table ∧ byteAt r.params 1 = first ∧
    byteAt r.params 2 = count ∧ 1 ≤ count ∧ count ≤ 16 ∧ first + count ≤ entries

/-- The records of a TABLE-WRITE, cut from its parameters. -/
def writtenRecords (size count : Nat) (r : Request) : List (List Byte) :=
  cutRecords size count (r.params.drop 3)

/-- The 33 rows that execute the request at the head of the queue. -/
def requestRows : List Instr :=
  [.unknownKind, .tableWriteUnknownTable, .tableWriteLanguage, .tableWriteSeat, .tableWriteZone,
   .tableWriteVolumeCurve, .tableWriteMix, .tableWriteNoiseBands, .tableWriteClass, .tableWriteChime,
   .tableWriteSeatLine, .tableWriteSenseChannel, .tableWriteLimit, .tableWriteCue, .tableWriteScene,
   .tableWriteLighting, .tableRead, .routeStart, .routeHold, .routeResume, .routeStop, .positionFix, .announce,
   .cancelByTicket, .cancelByClass, .liveOn, .liveOff, .sceneForce, .senseStart, .senseStop, .limitClear,
   .statusRead, .reset]

/-- The parameter bytes of the kinds 1..11 (section 11.4). -/
def paramLength : Nat → Nat
  | 1 => 3 | 2 => 1 | 3 => 3 | 4 => 5 | 5 => 2 | 6 => 3 | 7 => 1 | 8 => 3 | 9 => 1 | 10 => 1 | _ => 0

/-- The record size of the tables 0..13 (section 11.3). -/
def recordSize : Nat → Nat
  | 0 => 6 | 1 => 3 | 2 => 2 | 3 => 1 | 4 => 5 | 5 => 3 | 6 => 6 | 7 => 17 | 8 => 2 | 9 => 12 | 10 => 15 | 11 => 20
  | 12 => 64 | _ => 5

/-- A route START or STOP clears the requested stop, with its notice (R105, R107). -/
def stopCleared (s : State) : State :=
  match s.route.requested with
  | some q => notify (.stopCleared q.stop .route) s
  | none => s

/-! ### What is due at once -/

/-- Command `c` is due at once in `s`, the coach link's bytes apart: the head request that may be executed (R168), an
INPUT-GATE conversion's close (R90), or a round that stands at address 0 (R65, R76). -/
def dueAtOnce (s : State) (c : Instr) : Prop :=
  (∃ r rest, headIs r rest s ∧ c = rowOf r) ∨
  (∃ k, s.sense.scan = .converting k ∧ k.settings.gateMode = .inputGate ∧ k.gateOpen = true ∧
    k.settings.edgeCount ≤ k.edges ∧ c = .inputGateClose 0 ⟨false, false⟩) ∨
  ∃ l : Fin 4, (lineAt s l).state = .awake ∧ (lineAt s l).transaction = none ∧ (lineAt s l).roundNext = 0 ∧
    (lineAt s l).pairLow = false ∧ c = .pollRoundBegin l

/-! ### Held writes (R24, R44, R57) -/

/-- The language map after the LANGUAGE writes among `held`, in their order. -/
def mapAfter (held : List HeldSeatWrite) (map : List LangEntry) : List LangEntry :=
  held.foldl (fun m w => match w with
    | .language first records => writeAt m first records
    | .seat _ _ => m) map

/-- Record `n` of the records that a write gives from `first` on. -/
def recordFor {α : Type} (first : Nat) (records : List α) (n : Nat) : Option α :=
  if first ≤ n then records[n - first]? else none

/-- Seat `n` after the SEAT writes among `held`, in their order. -/
def seatWritten (held : List HeldSeatWrite) (n : Nat) (x : Seat) : Seat :=
  held.foldl (fun y w => match w with
    | .language _ _ => y
    | .seat first records =>
      match recordFor first records n with
      | some r => { y with zone := r.zone, language := r.language, volume := r.volume }
      | none => y) x

/-- `d` is the default language of a map: its first enabled default, else its first enabled entry, else NONE (R18). -/
def defaultOf (map : List LangEntry) (d : Option Nat) : Prop :=
  (∃ i e, d = some i ∧ map[i]? = some e ∧ e.enabled = true ∧
    ((e.isDefault = true ∧ ∀ j f, j < i → map[j]? = some f → f.enabled = true → f.isDefault = false) ∨
      ((∀ f ∈ map, f.enabled = true → f.isDefault = false) ∧
        ∀ j f, j < i → map[j]? = some f → f.enabled = false))) ∨
  (d = none ∧ ∀ e ∈ map, e.enabled = false)

/-- A seat after the moves of a frame start: a language that is enabled stays, and any other takes the default `d` (R24
step 2). -/
def movedTo (map : List LangEntry) (d : Option Nat) (x : Seat) : Seat :=
  { x with language := match x.language with
      | some i => if (map[i]?).map LangEntry.enabled = some true then some i else d
      | none => d }

/-- The mix engine's tables after one held write (R36 to R40, R52). -/
def mixWritten (m : MixEngine) : HeldMixWrite → MixEngine
  | .volumeCurve first records => { m with curve := writeAt m.curve first records }
  | .mix record => { m with params := record }
  | .cls first records => { m with classes := writeAt m.classes first records }
  | .zone first records => { m with zones := m.zones.mapIdx fun z x =>
      (match recordFor first records z with
        | some w => { x with source := w.source, clipNotice := w.clipNotice }
        | none => x) }
  | .noiseBands first records => { m with bands := writeAt m.bands first records }
  | .chime first records => { m with chimes := writeAt m.chimes first records }

/-- The records that the held SEAT-LINE writes give line `l`, in their order (R57). -/
def lineRecords (held : List (Nat × List LineWrite)) (l : Nat) : List LineWrite :=
  held.filterMap fun w => recordFor w.1 w.2 l

/-- Zone `z` is covered by what the path plays: an entry on the path that is not chime-only, or a chime-only clearance
that the generator plays (R42, R73). -/
def zoneShown (s : State) (z : Nat) : Prop :=
  (∃ e, s.announce.path = some e ∧ e.state ≠ .chimeOnly ∧ e.mask.getLsbD z = true) ∨
  ∃ q mask, s.mix.generator = some q ∧ q.use = .announcement none mask ∧ mask.getLsbD z = true

/-- A duck attenuation's move of one frame start from `old` to `new`, toward `target`, with the parameters `m` (R42). -/
def duckMoves (m : MixParams) (old target new : Int) : Prop :=
  ∀ clamped, clamped = max old (-(m.duckDepth : Int)) →
    (clamped = target → new = target) ∧ (target < clamped → new = max target (clamped - m.attack)) ∧
      (clamped < target → new = min target (clamped + m.release))

/-! ### Blocks (R7 to R12) -/

/-- `ticket` is that of the path entry, in STARTING-CLIP or PLAYING. -/
def ticketRuns (s : State) (ticket : Nat) : Prop :=
  ∃ e, s.announce.path = some e ∧ (e.state = .startingClip ∨ e.state = .playing) ∧ e.ticket = some ticket

/-- A channel block passes the test for its tag (R7 to R10). -/
def passesTagTest (s : State) (b : ChannelBlock) : Prop :=
  (b.tag ≤ 29 ∧ ∃ e ∈ s.seats.map, e.enabled = true ∧ e.tag = b.tag) ∨ b.tag = 30 ∨
    (b.tag = 31 ∧ ticketRuns s b.ticket)

/-! ### Cues (R108 to R117) -/

/-- `v` is the ordered averaged value of channel `c`: present, marked VALID, and not stale (R95); the
age is held in parts of 1/32768 ms (notes/assumptions/3.md). -/
def orderedValue (s : State) (c v : Nat) : Prop :=
  ∃ record r, s.sense.channels[c]? = some record ∧ s.sense.results[c]? = some r ∧ r.avgPresent = true ∧
    r.avgValid = true ∧ (r.present = true → r.age < record.staleness * 32768) ∧ v = r.avgValue

/-- The comparison of a predicate code with an ordered value: ALWAYS 0, LT, LE, GT, GE 1 to 4, ULT, ULE, UGT, UGE 5 to
8 (R110). -/
def compares (code v threshold : Nat) : Prop :=
  ((code = 1 ∨ code = 5) → v < threshold) ∧ ((code = 2 ∨ code = 6) → v ≤ threshold) ∧
    ((code = 3 ∨ code = 7) → threshold < v) ∧ ((code = 4 ∨ code = 8) → threshold ≤ v)

/-- A cue's condition is true: it is absent, or its predicate holds of the ordered value, or the value is unordered and
the predicate is none of LT, LE, GT, GE (R110). -/
def conditionHolds (c : Cue) (s : State) : Prop :=
  c.conditionChannel = 255 ∨
    (∃ v, orderedValue s c.conditionChannel v ∧ compares c.predicate v c.threshold) ∨
    ((∀ v, ¬ orderedValue s c.conditionChannel v) ∧ ¬ (1 ≤ c.predicate ∧ c.predicate ≤ 4))

/-- The serve test's answer for cue `c` (R126). -/
def serves (c : Cue) (s : State) : Prop :=
  s.link.state = .up ∧ s.segment.live = .off ∧ (s.playout.segmentCopy = 0 ∨ c.preempt = 0)

/-- Cue `i` is DEFERRED and can be served now (R115, R126). -/
def servable (s : State) (i : Nat) : Prop := (cueAt s i).state = .deferred ∧ serves (cueAt s i) s

/-- Cue `i`, whose condition is true, may be fired where SEGMENT cues have been fired by `before`, and they have by
`after` once it is (R115): it is no SEGMENT cue (kind 0), or it can be served and is the first of its step. -/
def mayFire (s : State) (i : Nat) (before after : Bool) : Prop :=
  ((cueAt s i).kind ≠ 0 ∧ after = before) ∨
    ((cueAt s i).kind = 0 ∧ serves (cueAt s i) s ∧ before = false ∧ after = true)

/-- Cue `i` is a SEGMENT cue that cannot be served, or not in this step (R115). -/
def mustWait (s : State) (i : Nat) (before : Bool) : Prop :=
  (cueAt s i).kind = 0 ∧ (before = true ∨ ¬ serves (cueAt s i) s)

/-- The position is past the window end of cue `i` (R108). -/
def windowPassed (s : State) (i : Nat) : Prop := (cueAt s i).trigger + (cueAt s i).window < position s

/-- `s` with cue `i` in state `x`. -/
def withCueState (i : Nat) (x : CueState) (s : State) : State :=
  { s with route := { s.route with cues := s.route.cues.modify i fun c => { c with state := x } } }

/-- `s` with the cursor at `j`. -/
def withCursor (j : Nat) (s : State) : State := { s with route := { s.route with cursor := j } }

/-- `s` with `cues` as the open-cue list. -/
def withOpenCues (cues : List Nat) (s : State) : State := { s with route := { s.route with openCues := cues } }

/-- The open-list pass over the cues given, from `s` to its outcome (R111 part 1). The marks say whether a SEGMENT cue
has been fired in the step. -/
inductive OpenPass : List Nat → State → Bool → State → Bool → Prop
  | done (s : State) (u : Bool) : OpenPass [] s u s u
  | skipped {i rest s t u v} : windowPassed s i → OpenPass rest (skipCue i .window s) u t v →
      OpenPass (i :: rest) s u t v
  | fired {i rest s t u w v} : ¬ windowPassed s i → (cueAt s i).state = .pending → conditionHolds (cueAt s i) s →
      mayFire s i u w → OpenPass rest (fireCue i s) w t v → OpenPass (i :: rest) s u t v
  | deferred {i rest s t u v} : ¬ windowPassed s i → (cueAt s i).state = .pending → conditionHolds (cueAt s i) s →
      mustWait s i u → OpenPass rest (withCueState i .deferred s) u t v → OpenPass (i :: rest) s u t v
  | stays {i rest s t u v} : ¬ windowPassed s i →
      ((cueAt s i).state = .pending → ¬ conditionHolds (cueAt s i) s) → OpenPass rest s u t v →
      OpenPass (i :: rest) s u t v

/-- Cue `i` joins the open-cue list, from `s` to `t`: at the end, after the oldest of 16 cues has been skipped (R113).
-/
inductive Joins (i : Nat) (s : State) : State → Prop
  | atEnd : s.route.openCues.length < 16 → Joins i s (withOpenCues (s.route.openCues ++ [i]) s)
  | overflow {oldest rest} : s.route.openCues = oldest :: rest → 16 ≤ s.route.openCues.length →
      Joins i s (withOpenCues ((skipCue oldest .overflow s).route.openCues ++ [i]) (skipCue oldest .overflow s))

/-- The crossing of the ARMED cue `i`, by the table of R112. -/
inductive Crossed (i : Nat) (s : State) (u : Bool) : State → Bool → Prop
  | fired {w} : conditionHolds (cueAt s i) s → mayFire s i u w → Crossed i s u (fireCue i s) w
  | deferred {t} : conditionHolds (cueAt s i) s → mustWait s i u → ¬ windowPassed s i →
      Joins i (withCueState i .deferred s) t → Crossed i s u t u
  | late : conditionHolds (cueAt s i) s → mustWait s i u → windowPassed s i →
      Crossed i s u (skipCue i .window s) u
  | pending {t} : ¬ conditionHolds (cueAt s i) s → ¬ windowPassed s i → Joins i (withCueState i .pending s) t →
      Crossed i s u t u
  | missed : ¬ conditionHolds (cueAt s i) s → windowPassed s i → Crossed i s u (skipCue i .window s) u

/-- The crossing step, from `s` to `t` (R112). -/
inductive CrossingStep : State → Bool → State → Prop
  | tableEnd {s u} : 256 ≤ s.route.cursor → CrossingStep s u s
  | ahead {s u i} : s.route.cursor = i → i < 256 → (cueAt s i).inUse = true → position s < (cueAt s i).trigger →
      CrossingStep s u s
  | notInUse {s u t i} : s.route.cursor = i → i < 256 → (cueAt s i).inUse = false →
      CrossingStep (withCursor (i + 1) s) u t → CrossingStep s u t
  | passedOver {s u t i} : s.route.cursor = i → i < 256 → (cueAt s i).inUse = true →
      (cueAt s i).trigger ≤ position s → (cueAt s i).state ≠ .armed →
      CrossingStep (withCursor (i + 1) s) u t → CrossingStep s u t
  | crossed {s u m v t i} : s.route.cursor = i → i < 256 → (cueAt s i).inUse = true →
      (cueAt s i).trigger ≤ position s → (cueAt s i).state = .armed → Crossed i (withCursor (i + 1) s) u m v →
      CrossingStep m v t → CrossingStep s u t

/-- The evaluation of the PENDING cues of `list` whose condition names channel `c`, at a raw result on it (R114). -/
inductive ResultPass (c : Nat) : List Nat → State → Bool → State → Prop
  | done (s : State) (u : Bool) : ResultPass c [] s u s
  | fired {i rest s t u w} : (cueAt s i).state = .pending → (cueAt s i).conditionChannel = c →
      conditionHolds (cueAt s i) s → mayFire s i u w → ResultPass c rest (fireCue i s) w t →
      ResultPass c (i :: rest) s u t
  | deferred {i rest s t u} : (cueAt s i).state = .pending → (cueAt s i).conditionChannel = c →
      conditionHolds (cueAt s i) s → mustWait s i u → ResultPass c rest (withCueState i .deferred s) u t →
      ResultPass c (i :: rest) s u t
  | stays {i rest s t u} : ¬ ((cueAt s i).state = .pending ∧ (cueAt s i).conditionChannel = c ∧
      conditionHolds (cueAt s i) s) → ResultPass c rest s u t → ResultPass c (i :: rest) s u t

/-- `row first` is the row of an event in which a SEGMENT question may be asked, `first` saying that a LIVE OFF that
falls together with it is taken before it (R133; notes/assumptions/4.md). -/
def segmentRow (row : Bool → Instr) : Prop :=
  ∃ choice ticks, row = (fun first => .odometerEdge ⟨choice, first⟩) ∨
    row = (fun first => .refGateClose ⟨choice, first⟩) ∨
    row = (fun first => .inputGateClose ticks ⟨choice, first⟩) ∨
    row = fun first => .waitLimitTimeout ⟨choice, first⟩

/-! ### Lamps (R154 to R160) -/

/-- Lamp `y` is lamp `x` after a resolution that gave its channel the setting `new` (R159, R160). A change begins from
the present level, or from the level before the changes of this same moment; one that gives back the setting held before
them finds the transition as it stood then (R166; notes/assumptions/25.md). -/
def lampTakes (new : Setting) (x y : Lamp) : Prop :=
  y.setting = new ∧ (x.setting = new → y = x) ∧
    (∀ b, x.began = some b → b.setting = new → x.setting ≠ new →
      y = { level := b.level, setting := b.setting, transition := b.transition, phase := b.phase, began := none }) ∧
    ∀ start : LampStart, (x.began = some start ∨ (x.began = none ∧ start =
        { level := x.level, setting := x.setting, transition := x.transition, phase := x.phase })) →
      x.setting ≠ new → start.setting ≠ new →
      y.began = some start ∧ y.phase = 0 ∧
      (10 ≤ new.fade → y.level = start.level ∧ y.transition = .fading start.level (new.fade / 10) 0 10) ∧
      (new.fade < 10 → y.level = new.target ∧
        y.transition = match new.pattern with
          | .steady => Transition.steady
          | .flash => .flashOn (new.period / 2))

/-- Layer `l` of `g` claims channel `c` with the setting `x` (R154, R157, R159): by the part of the scene it holds, or
for INDICATOR by its parameters, with period 0 (notes/assumptions/28.md). -/
def layerClaims (g : Lighting) (c : Nat) (l : Layer) (x : Setting) : Prop :=
  (∃ n parts p, g.scenes[n]? = some parts ∧ parts[c]? = some p ∧ p.claim = true ∧
    ((l = .alert ∧ g.alert = some n) ∨ (l = .force ∧ g.force = some n) ∨ (l = .cue ∧ g.cue = some n) ∨
      (l = .base ∧ (g.base = some n ∨ (g.base = none ∧ g.params.baseScene = n)))) ∧
    x = { layer := some l, scene := some n, target := p.target, pattern := p.pattern, period := p.period,
          fade := p.fade }) ∨
  (l = .indicator ∧ g.indicator = true ∧ g.params.indicatorChannel = some c ∧
    x = { layer := some .indicator, scene := none, target := g.params.indicatorLevel, pattern := .steady, period := 0,
          fade := 0 })

/-- `x` governs channel `c`: the highest of the layers ALERT, INDICATOR, FORCE, CUE and BASE that claims it, or target 0
STEADY where none does, with period 0 (R159; notes/assumptions/28.md). -/
def governs (g : Lighting) (c : Nat) (x : Setting) : Prop :=
  (∃ l, layerClaims g c l x ∧ ∀ m y, layerClaims g c m y → l.code ≤ m.code) ∨
  ((∀ l y, ¬ layerClaims g c l y) ∧
    x = { layer := none, scene := none, target := 0, pattern := .steady, period := 0, fade := 0 })

/-- The lamps of `g` are those of `old` after the resolution of every channel (R159). -/
def resolvedFrom (old : List Lamp) (g : Lighting) : Prop :=
  g.lamps.length = old.length ∧
    ∀ (c : Nat) (x y : Lamp), old[c]? = some x → g.lamps[c]? = some y →
      governs g c (governing g c) ∧ lampTakes (governing g c) x y

/-- `new` is `old` once its layers stand as in `layered` (R157): every lamp channel is resolved where a layer has
changed, and nothing changes where none has. -/
def relit (old layered new : Lighting) : Prop :=
  new = { layered with lamps := new.lamps } ∧ (layered = old → new = old) ∧
    (layered ≠ old → resolvedFrom old.lamps new)

/-! ### Endings of the path entry (R144, R145) -/

/-- `t` is `s` once the path entry, ended with `notices`, has left the path and what follows has been done: with nothing
waiting the path stays IDLE, and a REQUESTED live is granted; otherwise the best WAITING entry takes the path. The ALERT
layer takes one change, to the scene of the path as it then stands (notes/assumptions/14.md). -/
def entryEnded (notices : List Notice) (s t : State) : Prop :=
  (s.announce.waiting = [] → s.segment.live ≠ .requested →
    t.announce = { s.announce with path := none, startTimer := none, durationTimer := none } ∧
    t.manage = (notifyAll notices s).manage ∧ relit s.lighting { s.lighting with alert := none } t.lighting ∧
    t = { s with announce := t.announce, manage := t.manage, lighting := t.lighting }) ∧
  (s.announce.waiting = [] → s.segment.live = .requested →
    t.segment.live = .on ∧ t.segment.liveMask = s.segment.heldMask &&& eligible s ∧ t.segment.heldMask = 0 ∧
    t.manage = (notify (.liveGranted t.segment.liveMask) (notifyAll notices s)).manage ∧
    relit s.lighting { s.lighting with alert := none } t.lighting) ∧
  ∀ w rest, s.announce.waiting = w :: rest →
    ∃ p, t.announce.path = some p ∧ t.announce.waiting = rest ∧ p.cls = w.cls ∧ p.clip = w.clip ∧
      p.ticket = some (nextTicket s.announce.tickets) ∧ t.segment = s.segment ∧
      t.manage = (notifyAll notices s).manage ∧ relit s.lighting { s.lighting with alert := w.scene } t.lighting

/-! ### What reads return (R58, R93, R102, R134, R182, R184) -/

/-- A flag's byte: YES, PRESENT, VALID, SET, ACTIVE 0, and their opposites 1. -/
def yesNo (b : Bool) : Byte := if b then 0 else 1

/-- A one-byte field that may be NONE. -/
def orNone : Option Nat → Byte
  | some n => BitVec.ofNat 8 n
  | none => 0xFF

def modeByte : CheckMode → Byte
  | .short => 0 | .full => 1

def cueStateByte : CueState → Byte
  | .armed => 0 | .pending => 1 | .deferred => 2 | .fired => 3 | .skipped => 4

def boxStateByte : BoxState → Byte
  | .absent => 0 | .active => 1 | .suspect => 2 | .isolated => 3

def layerByte : Option Layer → Byte
  | some .alert => 0 | some .indicator => 1 | some .force => 2 | some .cue => 3 | some .base => 4 | none => 0xFF

def scanByte : Scan → Byte
  | .idle => 0 | .delay _ => 1 | .converting _ => 2 | .scanWait => 3

/-- The channel being converted, or NONE. -/
def convertingByte : Scan → Byte
  | .converting k => BitVec.ofNat 8 (chanNumber k.channel)
  | _ => 0xFF

def transitionByte : Transition → Byte
  | .fading .. => 0 | .steady => 1 | .flashOn _ => 2 | .flashOff _ => 3

def entryStateByte : EntryState → Byte
  | .waiting => 0 | .startingChime => 1 | .startingClip => 2 | .playing => 3 | .chimeOnly => 4

/-- The origin of an entry: its kind and index (R134). -/
def originBytes : Origin → List Byte
  | .cue i => [0, BitVec.ofNat 8 i]
  | .limit i => [1, BitVec.ofNat 8 i]
  | .headUnit => [2, 0]

/-- An entry in the ANNOUNCE-QUEUE view, `all` being the entries queued (R134, R135). The arrival order is shown by the
entry's place (notes/assumptions/2.md). -/
def entryBytes (all : List Entry) (onPath : Bool) (e : Entry) : List Byte :=
  [BitVec.ofNat 8 e.cls.code] ++ natBytes 2 e.clip ++ [e.mask.zeroExtend 8] ++ originBytes e.origin ++
    [orNone e.scene, entryStateByte e.state, BitVec.ofNat 8 (e.ticket.getD 0),
     BitVec.ofNat 8 (all.countP fun x => decide (x.arrival < e.arrival)),
     if onPath then orNone e.chime else 0, if onPath then BitVec.ofNat 8 e.maxSeconds else 0]

/-- The ANNOUNCE-QUEUE view: the path state, the last ticket, the time left, the count, and the entries, that on the
path first and then in rank order (R134). The time left is rounded up to whole ms, the model's choice
(notes/assumptions/3.md). -/
def queueViewBytes (s : State) : List Byte :=
  let all := s.announce.path.toList ++ s.announce.waiting
  [(s.announce.path.map fun e => entryStateByte e.state).getD 0, BitVec.ofNat 8 s.announce.tickets] ++
    natBytes 3 (((match s.announce.startTimer with
      | some n => n
      | none => s.announce.durationTimer.getD 0) + 32767) / 32768) ++ [BitVec.ofNat 8 all.length] ++
    s.announce.path.toList.flatMap (entryBytes all true) ++ s.announce.waiting.flatMap (entryBytes all false)

/-- The OPEN-CUES view: the cursor, the count, and each open cue's index, state, trigger and window end (R102). -/
def openCueViewBytes (s : State) : List Byte :=
  natBytes 2 s.route.cursor ++ [BitVec.ofNat 8 s.route.openCues.length] ++
    s.route.openCues.flatMap fun i =>
      [BitVec.ofNat 8 i, cueStateByte (cueAt s i).state] ++ natBytes 3 (cueAt s i).trigger ++
        natBytes 3 ((cueAt s i).trigger + (cueAt s i).window)

/-- A reference record in the view: EMPTY 0, counts 1, ZERO 2, and its two counts in `a` and `b` bytes (R93). -/
def referenceBytes (a b : Nat) : RefRecord → List Byte
  | .empty => [0] ++ List.replicate (a + b) 0
  | .counts x y => [1] ++ natBytes a x ++ natBytes b y
  | .zero => [2] ++ List.replicate (a + b) 0

/-- The SENSE-RESULTS view: the result records, the scan state and mode, the channel being converted, and the two
reference records (R93). An age is shown in whole ms, the model's choice (notes/assumptions/3.md). -/
def resultViewBytes (s : State) : List Byte :=
  (s.sense.results.flatMap fun r =>
    [yesNo r.present] ++ natBytes 2 r.value ++ [yesNo r.valid, yesNo r.timedOut, yesNo r.math] ++
      natBytes 4 (r.age / 32768) ++
      [yesNo r.avgPresent] ++ natBytes 2 r.avgValue ++ [yesNo r.avgValid, BitVec.ofNat 8 r.blockCount] ++
      natBytes 3 r.blockSum) ++
    [scanByte s.sense.scan, if s.sense.mode = .single then 0 else 1, convertingByte s.sense.scan] ++
    referenceBytes 3 2 s.sense.refGateRecord ++ referenceBytes 1 2 s.sense.inputGateRecord

/-- The BOX-STATE view of a line: its state, sleep pending, check mode, sleep enable, four failure counters, and its box
records (R58). -/
def boxViewBytes (x : Line) : List Byte :=
  [if x.state = .awake then 0 else 1, yesNo x.sleepPending, modeByte x.mode, yesNo x.sleepEnable] ++
    natBytes 2 x.noResponses ++ natBytes 2 x.checkFailures ++ natBytes 2 x.framingFailures ++ natBytes 2 x.echoFailures ++
    x.boxes.flatMap fun y =>
      [boxStateByte y.state, BitVec.ofNat 8 y.faultCount, orNone y.seatCount, yesNo y.displayPending,
       BitVec.ofNat 8 y.rounds, yesNo y.baselinePending, y.lastStop.zeroExtend 8, yesNo y.boxFault, yesNo y.lamp,
       yesNo y.icon, y.model, y.firmware] ++ y.serial

/-- The code of a reply (R184). -/
def replyCodeByte : ReplyCode → Byte
  | .done => 0 | .deferred => 1 | .queueFull => 2 | .unknownKind => 3 | .badTable => 4 | .badIndex => 5
  | .badField => 6 | .badOrder => 7 | .routeActive => 8 | .routeState => 9 | .notFound => 10

/-- A reply item of a report (R184). -/
def replyItem (r : Reply) : List Byte :=
  [0, r.tag, r.kind, replyCodeByte r.code] ++ natBytes 2 r.data.length ++ r.data

/-- The class, clip and origin of a notice about a request. -/
def askedBytes (cls : AnnClass) (clip : Nat) (origin : Origin) : List Byte :=
  [BitVec.ofNat 8 cls.code] ++ natBytes 2 clip ++ originBytes origin

/-- The ticket, clip and class of a notice about a clip. -/
def clipBytes (ticket clip : Nat) (cls : AnnClass) : List Byte :=
  [BitVec.ofNat 8 ticket] ++ natBytes 2 clip ++ [BitVec.ofNat 8 cls.code]

/-- A notice item of a report: 1, the kind, the length of the fields, and the fields, by the notice table (R173,
R184). -/
def noticeItem : Notice → List Byte
  | .zoneClip z => [1, 0, 1, BitVec.ofNat 8 z]
  | .boxState l b x n => [1, 1, 4, BitVec.ofNat 8 l, BitVec.ofNat 8 b, boxStateByte x, BitVec.ofNat 8 n]
  | .boxFault l b x => [1, 2, 3, BitVec.ofNat 8 l, BitVec.ofNat 8 b, yesNo x]
  | .limitTripped i v => [1, 3, 3, BitVec.ofNat 8 i] ++ natBytes 2 v
  | .limitCleared i => [1, 4, 1, BitVec.ofNat 8 i]
  | .distanceOverflow => [1, 5, 0]
  | .cueFired i kind place => [1, 6, 6, BitVec.ofNat 8 i, BitVec.ofNat 8 kind] ++ natBytes 4 place
  | .cueSkipped i reason place =>
    [1, 7, 6, BitVec.ofNat 8 i, match reason with | .window => 0 | .overflow => 1] ++ natBytes 4 place
  | .stopRequested n i l b =>
    [1, 8, 4, BitVec.ofNat 8 n, BitVec.ofNat 8 i, BitVec.ofNat 8 l, BitVec.ofNat 8 b]
  | .stopReached n => [1, 9, 1, BitVec.ofNat 8 n]
  | .stopCleared n cause => [1, 10, 2, BitVec.ofNat 8 n, match cause with | .route => 0 | .skipped => 1]
  | .liveGranted mask => [1, 11, 2] ++ natBytes 2 mask.toNat
  | .liveEnded => [1, 12, 0]
  | .announceDisplaced cls clip origin => [1, 13, 5] ++ askedBytes cls clip origin
  | .announceDropped cls clip origin => [1, 14, 5] ++ askedBytes cls clip origin
  | .clipCancel ticket => [1, 15, 1, BitVec.ofNat 8 ticket]
  | .clipEnded ticket clip cls reason =>
    [1, 16, 5] ++ clipBytes ticket clip cls ++ [match reason with | .endMark => 0 | .timeout => 1]
  | .clipFailed ticket clip cls reason =>
    [1, 17, 5] ++ clipBytes ticket clip cls ++ [match reason with | .noStart => 0 | .link => 1]
  | .linkRestored => [1, 18, 0]

/-! ### Seats -/

/-- A seat after one side of a STATUS delivery, by the deltas of R26 and the order of R27 to R29. -/
def seatAfter (map : List LangEntry) (defaultStep : Nat) (baseline : Bool) (side : SideStatus) (x : Seat) : Seat :=
  if x.fitted then
    { x with
      jack := side.jack
      volume := min ((if side.jack && !x.jack then defaultStep else x.volume) + delta baseline side.up x.lastUp) 15 -
        delta baseline side.down x.lastDown
      language := stepLanguage map (delta baseline side.language x.lastLanguage) x.language
      lastLanguage := side.language
      lastUp := side.up
      lastDown := side.down }
  else x

/-- One side of a STATUS delivery marks its box display pending: on a fitted seat the jack's default step, the ups, the
downs or the languages place another value (R31; notes/assumptions/14.md). -/
def sideMarks (map : List LangEntry) (defaultStep : Nat) (baseline : Bool) (side : SideStatus) (x : Seat) : Prop :=
  x.fitted = true ∧ ∃ v0 v1,
    v0 = (if side.jack && !x.jack then defaultStep else x.volume) ∧ v1 = min (v0 + delta baseline side.up x.lastUp) 15 ∧
    (v0 ≠ x.volume ∨ v1 ≠ v0 ∨ v1 - delta baseline side.down x.lastDown ≠ v1 ∨
      stepLanguage map (delta baseline side.language x.lastLanguage) x.language ≠ x.language)

/-- The factor of an announcement or chime term of class record `r` with `trim`, for a seat at step `volume` with volume
code `code` in a zone with noise offset `offset` (R48, R49). -/
def termFactor (r : ClassRec) (volume : Nat) (code offset trim : Int) : Int :=
  if volume = 0 then (if r.muteOverride then factor (r.floor + offset + trim) else 0)
  else factor (max code r.floor + offset + trim)

/-- The source that zone `z` has after the ZONE writes among `held`, in their order, where it had `source` (R39). -/
def sourceAfter (held : List HeldMixWrite) (z : Nat) (source : Option NoiseSource) : Option NoiseSource :=
  held.foldl (fun y w => match w with
    | .zone first records => ((recordFor first records z).map ZoneWrite.source).getD y
    | _ => y) source

/-- The held writes call for a new target of zone `z`, whose source was `source`: a NOISE-BANDS write, or a ZONE write
that changes the source the zone has when the write takes effect (R39, R40). -/
def targetCalled (held : List HeldMixWrite) (z : Nat) (source : Option NoiseSource) : Prop :=
  (∃ first records, .noiseBands first records ∈ held) ∨
    ∃ before after first records w, held = before ++ .zone first records :: after ∧
      recordFor first records z = some w ∧ w.source ≠ sourceAfter before z source

/-- `new` is the target that a zone with `source` takes in `s`, `old` being the one it had: 0 without a source, the band
of the source's ordered averaged value, and the old one while that is unordered (R40). -/
def targetTaken (s : State) (source : Option NoiseSource) (old new : Nat) : Prop :=
  (source = none → new = 0) ∧
    ∀ x, source = some x →
      (∀ v, orderedValue s (sourceChannel x) v → new = bandOffset v s.mix.bands) ∧
      ((∀ v, ¬ orderedValue s (sourceChannel x) v) → new = old)

def routeByte : RouteState → Byte
  | .stopped => 0 | .running => 1 | .held => 2

def liveByte : LiveState → Byte
  | .off => 0 | .requested => 1 | .on => 2

/-- The header of a REPORT with `items` items, `unordered` saying whether the ODO channel's averaged value is unordered
(R174, section 11.5). -/
def headerBytes (s : State) (unordered : Bool) (items : Nat) : List Byte :=
  [if s.link.state = .up then 0 else 1,
   routeByte s.route.state] ++ natBytes 4 (s.route.distance.toNat / 10000) ++
    natBytes 2 (((s.sense.results[0]?).map fun r => if r.avgPresent then r.avgValue else 0).getD 0) ++
    [BitVec.ofNat 8 ((if unordered then 1 else 0) + (if s.manage.noticesLost then 2 else 0)),
     BitVec.ofNat 8 ((s.route.requested.map StopRequest.stop).getD 0),
     (s.announce.path.map fun e => entryStateByte e.state).getD 0,
     BitVec.ofNat 8 ((s.announce.path.map fun e => e.ticket.getD 0).getD 0)] ++
    natBytes 2 ((s.announce.path.map Entry.clip).getD 0) ++ natBytes 2 s.segment.requested ++
    [s.segment.count, liveByte s.segment.live, BitVec.ofNat 8 items]

/-- The state of a box after a failure that made its fault count `count` (the table of R67). -/
def stateAfterFailure (state : BoxState) (count : Nat) : BoxState :=
  match state with
  | .absent => .absent
  | .active => if 12 ≤ count then .suspect else .active
  | .suspect => if 24 ≤ count then .isolated else .suspect
  | .isolated => .isolated

/-- An answer of `data` data characters that passes every test of R64 but the last: as many characters as the answer
needs, high stop bits, ninth bits 0, and the check of R60. -/
def goodAnswer (tx : Transaction) (data : Nat) (answer : List LineChar) : Prop :=
  tx.low = false ∧ answer.length = data + 1 ∧ (∀ c ∈ answer, c.stopHigh = true ∧ c.bits.getLsbD 8 = false) ∧
    (answer.map charByte).getD data 0 = lineCheck tx.mode tx.box tx.kind ((answer.map charByte).take data)

/-- Limit `x` is evaluated on value `v` at a result `r` of channel `c` (R96 step 3, R98): the valid raw value, or the
valid averaged value where a block has been completed. -/
def limitReads (x : Limit) (c : Nat) (completed : Bool) (r : ResultRec) (v : Nat) : Prop :=
  x.inUse = true ∧ x.channel = c ∧
    ((x.source = .raw ∧ r.valid = true ∧ v = r.value) ∨
      (x.source = .avg ∧ completed = true ∧ r.avgValid = true ∧ v = r.avgValue))

/-- A conversion that has just begun on channel `c` with the record in force (R84, R89, R90). -/
def conversionBegun (c : SenseChan) (record : SenseRec) : Scan :=
  .converting { channel := c, settings := record, gateOpen := false, edges := 0, ticks := 0, waited := 0 }

/-- The scan `scan` begins at the lowest enabled channel of `s`, or waits where none is enabled (R87). -/
def lowestBegins (s : State) (scan : Scan) : Prop :=
  (∀ d record, s.sense.channels[chanNumber d]? = some record → record.enabled = true →
    (∀ i x, i < chanNumber d → s.sense.channels[i]? = some x → x.enabled = false) → scan = conversionBegun d record) ∧
  ((∀ x ∈ s.sense.channels, x.enabled = false) → scan = .scanWait)

/-- `t` is `s` once the scan has chosen after channel `c` (R87): the lowest enabled channel above it; where there is
none, IDLE in SINGLE, and in CONTINUOUS the lowest enabled channel of all, or SCAN-WAIT. -/
def scanGoesOn (c : SenseChan) (s t : State) : Prop :=
  t = { s with sense := { s.sense with scan := t.sense.scan } } ∧
  (∀ d record, chanNumber c < chanNumber d → s.sense.channels[chanNumber d]? = some record → record.enabled = true →
    (∀ i x, chanNumber c < i → i < chanNumber d → s.sense.channels[i]? = some x → x.enabled = false) →
    t.sense.scan = conversionBegun d record) ∧
  ((∀ i x, chanNumber c < i → s.sense.channels[i]? = some x → x.enabled = false) →
    (s.sense.mode = .single → t.sense.scan = .idle) ∧
    (s.sense.mode = .continuous → lowestBegins s t.sense.scan))

/-- The announcement that a limit's action asks for when limit `i` trips (R99). -/
def limitAsks (i : Nat) : LimitAction → List AnnRequest
  | .announce clip cls mask => [{ cls := cls, clip := clip, mask := mask, origin := .limit i, scene := none }]
  | _ => []

/-- `u` is `s` once limit `i`, which was `x`, has become TRIPPED on the value `v`, or CLEAR: with its notice, and the
selection formed anew and reported to the BASE layer where it changes (R98, R99). -/
def limitChanges (i v : Nat) (x : Limit) (now : Bool) (s u : State) : Prop :=
  ∀ limits, limits = s.sense.limits.set i { x with tripped := now } →
    u.sense = { s.sense with limits := limits, selection := baseSelection limits } ∧
    u.manage = (notify (if now then .limitTripped i v else .limitCleared i) s).manage ∧
    (baseSelection limits = s.sense.selection → u.lighting = s.lighting) ∧
    (baseSelection limits ≠ s.sense.selection →
      relit s.lighting { s.lighting with base := baseSelection limits } u.lighting) ∧
    u = { s with sense := u.sense, manage := u.manage, lighting := u.lighting }

/-- The limits of `list` are evaluated in that order at the result `r` of channel `c`, from `s` to `t` (R96 step 3, R98,
R99). With `defer` the announcements they ask for are given as the last argument, and otherwise each is sent as its
limit trips. Each is acted on before the next is evaluated (notes/assumptions/30.md). -/
inductive LimitPass (defer : Bool) (c : Nat) (completed : Bool) (r : ResultRec) :
    List Nat → State → State → List AnnRequest → Prop
  | done (s : State) : LimitPass defer c completed r [] s s []
  | stays {i rest s t asks} :
      (∀ x v, s.sense.limits[i]? = some x → limitReads x c completed r v → trips x v = false ∧ clears x v = false) →
      LimitPass defer c completed r rest s t asks → LimitPass defer c completed r (i :: rest) s t asks
  | tripped {i rest s u t asks x v} : s.sense.limits[i]? = some x → limitReads x c completed r v → trips x v = true →
      limitChanges i v x true s u →
      LimitPass defer c completed r rest
        (if defer then u else (limitAsks i x.action).foldl (fun w q => announceRequest q w) u) t asks →
      LimitPass defer c completed r (i :: rest) s t ((if defer then limitAsks i x.action else []) ++ asks)
  | cleared {i rest s u t asks x v} : s.sense.limits[i]? = some x → limitReads x c completed r v → trips x v = false →
      clears x v = true → limitChanges i v x false s u → LimitPass defer c completed r rest u t asks →
      LimitPass defer c completed r (i :: rest) s t asks

/-- `out` is the end of conversion `k` with the outcome `o` (R87, R93, R94, R96): the channel's result record takes it
with `averaging` results to a block, the other channels keep theirs, the limits on the channel are evaluated by index,
the route engine has the report (R114), a completed valid average sets the targets of its zones (R40), and the scan
chooses its next conversion. With `cuesFirst` the announcements that the limits ask for are sent after those of the
cues. -/
def conversionEnds (s : State) (k : Conversion) (cuesFirst : Bool) (averaging : Nat) (o : Outcome)
    (refGate inputGate : RefRecord) (out : Host.Outcome State Fault Refusal) : Prop :=
  ∃ t, out = .next t ∧
    t.sense.results = s.sense.results.modify (chanNumber k.channel)
      (fun _ => (storeResult averaging o (resultRecord s (chanNumber k.channel))).1) ∧
    t.route = (resultReport (chanNumber k.channel)
      { s with sense := { s.sense with results := t.sense.results } }).route ∧
    (∀ (r : ResultRec) (completed : Bool),
      (r, completed) = storeResult averaging o (resultRecord s (chanNumber k.channel)) →
      t.mix.zones = s.mix.zones.map (fun z =>
        if completed = true ∧ r.avgValid = true ∧ z.source.map sourceChannel = some (chanNumber k.channel) then
          { z with target := bandOffset r.avgValue s.mix.bands } else z) ∧
      (∃ m asks w,
        LimitPass cuesFirst (chanNumber k.channel) completed r (List.range 8)
          { s with sense := { s.sense with
              results := t.sense.results, refGateRecord := refGate, inputGateRecord := inputGate } } m asks ∧
        w = asks.foldl (fun u q => announceRequest q u) (resultReport (chanNumber k.channel) m) ∧
        t = { w with sense := { w.sense with scan := t.sense.scan }, mix := { w.mix with zones := t.mix.zones } }) ∧
      ∀ i x, i < 8 → s.sense.limits[i]? = some x → ∃ y, t.sense.limits[i]? = some y ∧
        (∀ v, limitReads x (chanNumber k.channel) completed r v → y = { x with
          tripped := if trips x v then true else if clears x v then false else x.tripped }) ∧
        ((∀ v, ¬ limitReads x (chanNumber k.channel) completed r v) → y = x)) ∧
    t.sense.channels = s.sense.channels ∧ t.sense.mode = s.sense.mode ∧
    (∃ u, scanGoesOn k.channel s u ∧ t.sense.scan = u.sense.scan) ∧ t.sense.refGateRecord = refGate ∧
    t.sense.inputGateRecord = inputGate ∧ t.link = s.link ∧ t.playout = s.playout ∧ t.seats = s.seats ∧
    t.lines = s.lines ∧ t.report = s.report ∧ t.route.distance = s.route.distance ∧
    t.manage.requests = s.manage.requests ∧ t.manage.replies = s.manage.replies

/-- The four failure counters of a line (R56). -/
def failureCounters (x : Line) : Nat × Nat × Nat × Nat :=
  (x.noResponses, x.checkFailures, x.framingFailures, x.echoFailures)

/-- Line `x` with its round at address `c`, the boxes from its own address up to `c` passed, each with one round more
(R65). -/
def passedTo (c : Nat) (x : Line) : Line :=
  { x with
    roundNext := c
    boxes := x.boxes.mapIdx fun i y =>
      if x.roundNext ≤ i ∧ i < c then { y with rounds := min (y.rounds + 1) 63 } else y }

/-- `y` is line `x` once its round has gone on from its next address: the first due box's transaction has begun, IDENT
for an ABSENT box and STATUS otherwise, or the round waits for its end, and ends with its 4 ms (R65, R66). -/
def roundGoesOn (x y : Line) : Prop :=
  (∀ c box, x.roundNext ≤ c → x.boxes[c]? = some box → interval box.state ≤ box.rounds + 1 →
    (∀ i z, x.roundNext ≤ i → i < c → x.boxes[i]? = some z → z.rounds + 1 < interval z.state) →
    y = { passedTo c x with
      roundNext := c + 1
      transaction := some { box := c, kind := if box.state = .absent then .ident else .status, mode := x.mode
                            turnState := box.state, low := false
                            sent := [headerChar c (if box.state = .absent then .ident else .status)] } }) ∧
  ((∀ i z, x.roundNext ≤ i → x.boxes[i]? = some z → z.rounds + 1 < interval z.state) →
    y = { passedTo 12 x with
      roundNext := if x.roundLeft = 0 then 0 else 12
      roundLeft := if x.roundLeft = 0 then Config.ms 4 else x.roundLeft
      transaction := none })

/-- `y` is line `x` once the turn of box `b` has ended: its rounds-since-poll is 0, and the line enters SLEEPING where
a sleep is pending, or its round goes on (R65, R74, R75, R80). -/
def turnEnds (b : Nat) (x y : Line) : Prop :=
  ∀ z, z = { x with boxes := x.boxes.modify b fun box => { box with rounds := 0 } } →
    (x.sleepPending = true → y = { z with
      state := .sleeping, sleepPending := false, quiet := none, roundNext := 0, roundLeft := Config.ms 4
      transaction := none, pairLow := false, slots := List.replicate 24 (List.replicate 32 0) }) ∧
    (x.sleepPending = false → roundGoesOn z y)

/-- The data characters of a DISPLAY to a box with the seats `a` and `b` (R63, section 11.6): a language, 15 for NONE,
with the volume step above it, for each seat, and the lamp and icon values. -/
def displayBytes (a b : Seat) (x : Box) : List Byte :=
  [BitVec.ofNat 8 (a.language.getD 15 % 16 + 16 * a.volume), BitVec.ofNat 8 (b.language.getD 15 % 16 + 16 * b.volume),
   if x.lamp then 1 else 0, if x.icon then 1 else 0]

/-- `y` is line `x` of number `l` once a DISPLAY to box `b` has begun, with the seats of `s`: the mark is cleared, and
the header, the four data characters and the check by R60 are sent (R63, R186). -/
def displayBegun (l b : Nat) (turnState : BoxState) (s : State) (x y : Line) : Prop :=
  ∀ data, data = displayBytes (seatAt s (seatNumber l b 0)) (seatAt s (seatNumber l b 1)) (x.boxes.getD b boxReset) →
    y = { x with
      boxes := x.boxes.modify b fun box => { box with displayPending := false }
      transaction := some { box := b, kind := .display, mode := x.mode, turnState := turnState, low := false
                            sent := headerChar b .display ::
                              (data ++ [lineCheck x.mode b .display data]).map fun c => c.zeroExtend 9 } }

/-- The tables have their sizes: 4 lines of 12 boxes, and 96 seats. -/
def lineTablesSized (s : State) : Prop :=
  s.lines.lines.length = 4 ∧ s.seats.seats.length = 96 ∧ ∀ x ∈ s.lines.lines, x.boxes.length = 12

/-- The answers of the other lines stay, and so do the held SEAT-LINE writes. -/
def otherLinesStay (l : Nat) (s t : State) : Prop :=
  t.lines.held = s.lines.held ∧ t.lines.lines.length = s.lines.lines.length ∧
    ∀ m, m ≠ l → lineAt t m = lineAt s m

/-- `s` with line `l` replaced by `x`. -/
def putLine (l : Nat) (x : Line) (s : State) : State :=
  { s with lines := { s.lines with lines := s.lines.lines.set l x } }

end Sys2Proof.Machine
end

