-- ==== Sys2Proof/Certificates/Slice0/Obligations.lean ====
section
/-! DEFINITION. The statements for the provers. -/

open Sys2Proof Sys2Proof.Machine

/-! ### The step and the clock -/

/-- A step takes the command at the front of the queue and is that command's effect with the queue's rest (the model's
queue, notes/assumptions/1.md). -/
def Obligations.StepTakesFrontCommand : Prop :=
  ∀ (c : Instr) (rest : List Instr) (s : State), s.pending = c :: rest → step s = exec c { s with pending := rest }

/-- Every command answers a next state, and changes nothing in the queue of waiting commands. Both are the model's own
choices: the queue that every command leaves as it was (notes/assumptions/1.md), and that no command ends in a fault
or a refusal (notes/assumptions/24.md). -/
def Obligations.EveryCommandAnswersAndKeepsQueue : Prop :=
  ∀ (c : Instr) (s : State), ∃ t, exec c s = .next t ∧ t.pending = s.pending

/-- With no command waiting and nothing due, a reference tick passes. It takes 1000/32768 ms from every timer that
runs (supervision, start and maximum-duration timers, quiet timers, rounds, start delay) and adds as much to every
age. A conversion in flight takes the tick (R89, R90). A lamp's transition moves on the lamp's own time alone: a
millisecond of that takes one from its fade step or flash half (R161 to R163); the moment in which a transition began
ends (R166). The frame timer runs on the clock phase, which no other timer reads (R2). No other block changes. What
runs out has its command queued (R2, R65, R74, R86, R89, R90, R93, R95, R143, R161, R162, R181). With something due at
once, the step only queues it: the head request that may be executed, the close of an INPUT-GATE that has its edges,
and a line's round at address 0 (R168, R90, R65). The clock is the model's choice (notes/assumptions/3.md, 25.md), and
so are that the age of a record without a result stands still, while R93 says that every age runs
(notes/assumptions/19.md), and that each command is queued with its Bool operands false (notes/assumptions/4.md). -/
def Obligations.IdleStepPassesTime : Prop :=
  (∀ s : State, s.pending = [] → dueNow s ≠ [] → step s = .next { s with pending := dueNow s }) ∧
  (∀ (s : State) (c : Instr), s.link.received = [] → s.link.ended = [] → (c ∈ dueNow s ↔ dueAtOnce s c)) ∧
  (∀ s : State, s.pending = [] → dueNow s = [] → ∃ t, step s = .next t ∧
    (s.clockPhase + 1000 < 32768 → t.clockPhase = s.clockPhase + 1000 ∧ t.playout = s.playout) ∧
    (32768 ≤ s.clockPhase + 1000 → t.clockPhase = s.clockPhase + 1000 - 32768 ∧
      t.playout = { s.playout with frameTimer := s.playout.frameTimer - 1 } ∧
      (s.playout.frameTimer ≤ 1 → Instr.frameStart false ⟨false, false⟩ ∈ t.pending)) ∧
    t.link = { s.link with supervision := s.link.supervision.map fun n => n - 1000 } ∧
    t.announce = { s.announce with startTimer := s.announce.startTimer.map fun n => n - 1000
                                   durationTimer := s.announce.durationTimer.map fun n => n - 1000 } ∧
    t.lines = { s.lines with lines := s.lines.lines.map fun x =>
      { x with quiet := x.quiet.map fun n => n - 1000, roundLeft := x.roundLeft - 1000 } } ∧
    t.sense = { s.sense with
      results := s.sense.results.map (fun r =>
        if r.present then { r with age := min (r.age + 1000) (Config.ms 4294967295) } else r)
      scan := match s.sense.scan with
        | .converting k => .converting (tickConversion k)
        | .delay left => .delay (left - 1000)
        | other => other } ∧
    t.lighting = { s.lighting with lamps := s.lighting.lamps.map fun x =>
      if x.transition = .steady then { x with began := none }
      else if x.phase + 1000 < 32768 then { x with began := none, phase := x.phase + 1000 }
      else { x with
        began := none
        phase := x.phase + 1000 - 32768
        transition := match x.transition with
          | .fading start k i next => .fading start k i (next - 1)
          | .steady => .steady
          | .flashOn left => .flashOn (left - 1)
          | .flashOff left => .flashOff (left - 1) } } ∧
    t.seats = s.seats ∧ t.mix = s.mix ∧ t.route = s.route ∧ t.segment = s.segment ∧ t.manage = s.manage ∧
    t.report = s.report ∧
    (∀ n, n ≤ 1000 →
      (s.link.supervision = some n → Instr.supervisionTimerExpiry false ∈ t.pending) ∧
      (s.announce.startTimer = some n → Instr.startTimerExpiry ∈ t.pending) ∧
      (s.announce.durationTimer = some n → Instr.maximumDurationExpiry ∈ t.pending) ∧
      (∀ l : Fin 4, (lineAt s l).quiet = some n → l.val < s.lines.lines.length →
        Instr.quietTimerExpiry l ∈ t.pending) ∧
      (∀ (l : Fin 4) (x : Line), s.lines.lines[l.val]? = some x → x.state = .awake → x.transaction = none →
        12 ≤ x.roundNext → x.roundLeft = n → Instr.roundTimerExpiry l ∈ t.pending) ∧
      (s.sense.scan = .delay n → Instr.startDelayExpiry ∈ t.pending)) ∧
    (∀ (c : Fin 8) (x : Lamp), s.lighting.lamps[c.val]? = some x → 32768 ≤ x.phase + 1000 →
      ((∃ start k i, x.transition = .fading start k i 1) → Instr.fadeStep c ∈ t.pending) ∧
      (x.transition = .flashOn 1 ∨ x.transition = .flashOff 1 → Instr.flashHalfExpiry c ∈ t.pending)) ∧
    (∀ (c : SenseChan) (record : SenseRec) (r : ResultRec), s.sense.channels[chanNumber c]? = some record →
      s.sense.results[chanNumber c]? = some r → r.present = true → r.age < Config.ms record.staleness →
      Config.ms record.staleness ≤ r.age + 1000 → record.staleness ≤ 65535 → Instr.resultStale c ∈ t.pending) ∧
    ∀ k, s.sense.scan = .converting k →
      (k.settings.gateMode = .refGate → k.gateOpen = true → k.settings.gateLength = k.ticks + 1 →
        Instr.refGateClose ⟨false, false⟩ ∈ t.pending) ∧
      (k.settings.gateMode = .inputGate → k.settings.waitLimit = k.waited + 1 →
        Instr.waitLimitTimeout ⟨false, false⟩ ∈ t.pending)) ∧
  ∀ k : Conversion,
    (k.settings.gateMode = .refGate → tickConversion k =
      if k.gateOpen then { k with ticks := k.ticks + 1 } else { k with gateOpen := true, ticks := 0 }) ∧
    (k.settings.gateMode = .inputGate → tickConversion k =
      { k with waited := k.waited + 1, ticks := if k.gateOpen then k.ticks + 1 else k.ticks })

/-! ### Resets -/

/-- Power-on reset puts every block in its reset state, whatever it held (R177). The frame timer at its full 2 ms and
the reset values of the model's own fields are its choice (notes/assumptions/2.md, 7.md, 19.md). -/
def Obligations.PowerOnResetGivesResetState : Prop :=
  (∀ s : State, exec .powerOnReset s = .next { State.reset with pending := s.pending }) ∧
    State.reset.link.state = .wait ∧ State.reset.link.supervision = none ∧
    State.reset.playout.queue = [] ∧ State.reset.playout.state = .filling ∧
    State.reset.playout.lastSequence = none ∧ State.reset.playout.segmentCopy = 0 ∧
    (∀ e ∈ State.reset.seats.map, e.enabled = false) ∧
    (∀ x ∈ State.reset.seats.seats, x.language = none ∧ x.volume = 8 ∧ x.jack = false ∧ x.fitted = true) ∧
    (∀ z ∈ State.reset.mix.zones, z.offset = 0 ∧ z.duck = 0 ∧ z.clip = false) ∧
    State.reset.mix.generator = none ∧
    (∀ x ∈ State.reset.lines.lines, x.state = .awake ∧ x.mode = .full ∧ x.sleepEnable = true ∧
      ∀ b ∈ x.boxes, b.state = .absent ∧ isDue b = true) ∧
    (∀ r ∈ State.reset.sense.channels, r.enabled = false) ∧ State.reset.sense.scan = .idle ∧
    (∀ r ∈ State.reset.sense.results, r.present = false ∧ r.avgPresent = false) ∧
    (∀ x ∈ State.reset.sense.limits, x.inUse = false) ∧ State.reset.sense.selection = none ∧
    State.reset.route.state = .stopped ∧ State.reset.route.distance = 0 ∧
    State.reset.route.openCues = [] ∧ State.reset.route.requested = none ∧
    (∀ c ∈ State.reset.route.cues, c.inUse = false ∧ c.state = .armed) ∧
    State.reset.segment.requested = 0 ∧ State.reset.segment.count = 0 ∧ State.reset.segment.live = .off ∧
    State.reset.announce.path = none ∧ State.reset.announce.waiting = [] ∧ State.reset.announce.tickets = 0 ∧
    (∀ x ∈ State.reset.lighting.lamps, x.level = 0 ∧ x.setting.layer = none ∧ x.transition = .steady) ∧
    State.reset.manage = { requests := [], replies := [], notices := [], noticesLost := false }

/-- A RESET request resets every block but the link interface; the frame timer runs on; the queues are emptied and
hold its DONE reply alone (R176). That the last report and the clock phase stand is the model's choice
(notes/assumptions/2.md). -/
def Obligations.ResetRequestKeepsLinkOnly : Prop :=
  ∀ (s : State) (r : Request) (rest : List Request), headIs r rest s → r.kind = 11#8 → r.params = [] →
    exec .reset s = .next { State.reset with
      link := s.link
      playout := { State.reset.playout with frameTimer := s.playout.frameTimer }
      manage := { requests := [], replies := [{ tag := r.tag, kind := r.kind, code := .done, data := [] }],
                  notices := [], noticesLost := false }
      report := s.report
      clockPhase := s.clockPhase
      pending := s.pending }

/-! ### The coach link -/

/-- Every AUDIO frame that the head unit forms by section 11.1, with 0..16 channel blocks, is found by the frame
checker and reaches the playout buffer with its body as section 11.4 lays it out; the link is UP with its timer
restarted before (R179, R180, R181). Of the body, the sequence is bytes 0 and 1, the segment the low 12 bits of bytes
3 and 4, and block i stands at byte 5 + 67 i: its tag, its ticket, the END mark in bit 0 of byte 2, and 32 samples in
two's complement, high byte first (R183). -/
def Obligations.FormedAudioFrameIsTaken : Prop :=
  (∀ (body : List Byte) (f : AudioFrame), f = decodeAudio body →
    f.sequence.toNat = wordAt body 0 ∧ f.segment = wordAt body 3 % 4096 ∧ f.blocks.length = byteAt body 2 ∧
    ∀ (i : Nat) (b : ChannelBlock), f.blocks[i]? = some b →
      b.tag = byteAt body (5 + 67 * i) ∧ b.ticket = byteAt body (6 + 67 * i) ∧
      (b.endMark = true ↔ byteAt body (7 + 67 * i) % 2 = 1) ∧ b.samples.length = 32 ∧
      ∀ j w, j < 32 → w = wordAt body (8 + 67 * i + 2 * j) →
        b.samples[j]? = some (if w < 32768 then (w : Int) else w - 65536)) ∧
  ∀ (s : State) (body : List Byte), s.link.received = [] → s.link.ended = [] → byteAt body 2 ≤ 16 →
    body.length = 5 + 67 * byteAt body 2 →
    exec (.audioFrame (frameBytes 0x01#8 body)) s = .next (takeAudio (decodeAudio body) (validFrame s)) ∧
      (validFrame s).link = { s.link with state := .up, supervision := some (Config.ms 100) }

/-- Every REQUEST frame that the head unit forms by section 11.1 joins the request queue while that holds fewer than
4; at 4 it is refused with QUEUE-FULL, and without a free reply place it is discarded with the notices-lost flag set
(R167, R179, R180). In UP it restarts the supervision timer before and changes nothing else; in WAIT and LOST it first
makes the link UP, with LINK-RESTORED from LOST, a retry and the start step, and is then taken under UP (R127, R151,
R181). -/
def Obligations.FormedRequestFrameIsQueued : Prop :=
  ∀ (s : State) (tag kind : Byte) (params : List Byte), s.link.received = [] → s.link.ended = [] →
    params.length ≤ 1075 →
    ∃ v, exec (.requestFrame (frameBytes 0x02#8 (tag :: kind :: params))) s = .next { v with
        manage :=
          if s.manage.requests.length < 4 then
            { v.manage with requests := s.manage.requests ++ [{ tag := tag, kind := kind, params := params }] }
          else if s.manage.replies.length < 8 then
            { v.manage with
              replies := s.manage.replies ++ [{ tag := tag, kind := kind, code := .queueFull, data := [] }] }
          else { v.manage with noticesLost := true } } ∧
      v.link = { s.link with state := .up, supervision := some (Config.ms 100) } ∧
      v.manage.requests = s.manage.requests ∧ v.manage.replies = s.manage.replies ∧
      ∀ u, u = { s with link := { s.link with state := .up, supervision := some (Config.ms 100) } } →
        (s.link.state = .up → v = u) ∧ (s.link.state = .wait → v = announceLinkUp (retry u)) ∧
        (s.link.state = .lost → v = announceLinkUp (retry (notify .linkRestored u)))

/-- A frame whose check differs from the CRC, a frame of another kind than AUDIO and REQUEST, a length above 1077, and
with a good check an AUDIO frame of a wrong block count or length and a REQUEST of fewer than 2 bytes are discarded:
only the bytes after the first sync byte are left to hunt in, and nothing else changes. A gap ends every partial frame
in the bytes before it, also one that stands behind a bad frame: it changes nothing but the bytes held, of which none
but a last 0xB7 joins the bytes behind the gap (R179, R180). The check is the register that starts at
0xFFFF and takes each byte, most significant bit first, with the polynomial 0x1021; the nine bytes 0x31 to 0x39 leave
it at 0x29B1. What is left to hunt in is the model's reading (notes/assumptions/8.md). -/
def Obligations.BadFramesChangeOnlyHunting : Prop :=
  (crc [] = 0xFFFF#16 ∧ crc [0x31, 0x32, 0x33, 0x34, 0x35, 0x36, 0x37, 0x38, 0x39] = 0x29B1#16 ∧
    ∀ (bytes : List Byte) (b : Byte), crc (bytes ++ [b]) =
      Nat.repeat (fun r : BitVec 16 => (r <<< 1) ^^^ (if r.getLsbD 15 then 0x1021#16 else 0)) 8
        (crc bytes ^^^ (b.zeroExtend 16 <<< 8))) ∧
  (∀ (s : State) (bytes : List Byte),
    (∃ t, exec (.byteGapTimeout bytes) s = .next t ∧
      t = { s with link := { s.link with ended := t.link.ended, received := t.link.received } } ∧
      (t.link.received = [] ∨ t.link.received = [0xB7#8]) ∧
      ∀ burst rest, t.link.ended = burst :: rest → (checkFrames burst).1 ≠ .unfinished) ∧
    ∀ c, (c = .audioFrame bytes ∨ c = .requestFrame bytes ∨ c = .badFrame bytes) → s.link.ended ≠ [] →
      ∃ t, exec c s = .next t ∧
        (t.link.received = s.link.received ++ bytes ∨ t.link.received = 0xB7#8 :: (s.link.received ++ bytes))) ∧
  ∀ (s : State), s.link.received = [] → s.link.ended = [] →
    (∀ (kind : Byte) (body : List Byte) (check : BitVec 16), (kind = 0x01#8 ∨ kind = 0x02#8) →
      body.length ≤ 1077 → check ≠ crc (kind :: natBytes 2 body.length ++ body) →
      exec (.badFrame (0xB7#8 :: 0x4E#8 :: kind :: natBytes 2 body.length ++ body ++ natBytes 2 check.toNat)) s =
        .next { s with link := { s.link with
          received := 0x4E#8 :: kind :: natBytes 2 body.length ++ body ++ natBytes 2 check.toNat } }) ∧
    (∀ kind : Byte, kind ≠ 0x01#8 → kind ≠ 0x02#8 →
      exec (.badFrame [0xB7#8, 0x4E#8, kind]) s = .next { s with link := { s.link with received := [0x4E#8, kind] } }) ∧
    (∀ kind high low : Byte, (kind = 0x01#8 ∨ kind = 0x02#8) → 1077 < high.toNat * 256 + low.toNat →
      exec (.badFrame [0xB7#8, 0x4E#8, kind, high, low]) s =
        .next { s with link := { s.link with received := [0x4E#8, kind, high, low] } }) ∧
    (∀ body : List Byte, body.length ≤ 1077 → (16 < byteAt body 2 ∨ body.length ≠ 5 + 67 * byteAt body 2) →
      exec (.badFrame (frameBytes 0x01#8 body)) s =
        .next { s with link := { s.link with received := (frameBytes 0x01#8 body).tail } }) ∧
    (∀ body : List Byte, body.length < 2 →
      exec (.badFrame (frameBytes 0x02#8 body)) s =
        .next { s with link := { s.link with received := (frameBytes 0x02#8 body).tail } }) ∧
    (∀ (kind : Byte) (tail : List Byte), (kind = 0x01#8 ∨ kind = 0x02#8) → 0xB7#8 ∉ tail →
      (tail.length < 2 ∨ (wordAt tail 0 ≤ 1077 ∧ tail.length < wordAt tail 0 + 4)) →
      exec (.byteGapTimeout (0xB7#8 :: 0x4E#8 :: kind :: tail)) s = .next s ∧
      ∀ other : Byte, other ≠ 0x01#8 → other ≠ 0x02#8 →
        ∃ t, exec (.byteGapTimeout (0xB7#8 :: 0x4E#8 :: other :: 0xB7#8 :: 0x4E#8 :: kind :: tail)) s = .next t ∧
          ∀ bytes, exec (.badFrame bytes) t = .next { s with link := { s.link with received := bytes } })

/-- At the supervision timer's expiry in UP the link is LOST, the playout queue is flushed, live is OFF, the requests
are discarded and the replies kept, the announcement controller deals with the loss, and seats, lines, sense unit and
route stay (R15, R131, R148, R175, R181); in any other link state, and with time left on the timer, nothing changes
(R16). Live ON or REQUESTED gives one LIVE-ENDED: before the path's notices where the loss is taken first, and
otherwise after them and after the LIVE-GRANTED of a REQUESTED that the freed path grants (R129). A valid frame makes
the link UP again: it restarts the timer, and from LOST, with LINK-RESTORED, and WAIT it makes a retry and the start
step (R127, R151, R181). The operand is the model's choice (notes/assumptions/4.md), and so is that an event the state
rules out changes nothing (notes/assumptions/6.md). -/
def Obligations.SupervisionExpiryLosesLink : Prop :=
  (∀ (s : State) (liveFirst : Bool),
    (s.link.state = .up → s.link.supervision = some 0 →
      ∃ t, exec (.supervisionTimerExpiry liveFirst) s = .next t ∧
        t.link = { s.link with state := .lost, supervision := none } ∧
        t.playout = { s.playout with queue := [], state := .filling, lastSequence := none, segmentCopy := 0 } ∧
        t.segment.live = .off ∧ (s.segment.live ≠ .off → t.segment.liveMask = 0 ∧ t.segment.heldMask = 0) ∧
        t.segment.requested = s.segment.requested ∧ t.segment.count = s.segment.count ∧
        t.manage.requests = [] ∧ t.manage.replies = s.manage.replies ∧
        t.seats = s.seats ∧ t.lines = s.lines ∧ t.sense = s.sense ∧ t.route = s.route ∧
        t.mix = { s.mix with generator := t.mix.generator } ∧ t.report = s.report ∧
        ∀ u, u = (announceLinkLoss { s with link := { s.link with state := .lost, supervision := none } }).1 →
          t.announce = u.announce ∧ t.lighting = u.lighting ∧ t.mix = u.mix ∧
          (s.segment.live = .off → t.manage = { u.manage with requests := [] }) ∧
          (s.segment.live ≠ .off → liveFirst = false → t.manage =
            { (notify .liveEnded (if s.segment.live = .requested ∧ u.announce.path = none ∧
                (∃ e, s.announce.path = some e ∧ e.state ≠ .chimeOnly ∧ e.state ≠ .waiting) then
              notify (.liveGranted (s.segment.heldMask &&& eligible s)) u else u)).manage with requests := [] }) ∧
        ∀ u, u = (announceLinkLoss (notify .liveEnded { s with
            link := { s.link with state := .lost, supervision := none }
            segment := { s.segment with live := .off, liveMask := 0, heldMask := 0 } })).1 →
          s.segment.live ≠ .off → liveFirst = true → t.manage = { u.manage with requests := [] }) ∧
    (s.link.state ≠ .up ∨ s.link.supervision ≠ some 0 → exec (.supervisionTimerExpiry liveFirst) s = .next s)) ∧
  ∀ s u : State, u = { s with link := { s.link with state := .up, supervision := some (Config.ms 100) } } →
    (s.link.state = .up → validFrame s = u) ∧
    (s.link.state = .lost → validFrame s = announceLinkUp (retry (notify .linkRestored u))) ∧
    (s.link.state = .wait → validFrame s = announceLinkUp (retry u)) ∧
    (∀ e, u.announce.path = some e → announceLinkUp u = u) ∧
    (u.announce.path = none → u.announce.waiting = [] →
      announceLinkUp u = { u with lighting := (announceLinkUp u).lighting } ∧
      relit u.lighting { u.lighting with alert := none } (announceLinkUp u).lighting) ∧
    (∀ w rest, u.announce.path = none → u.announce.waiting = w :: rest → ∃ p,
      (announceLinkUp u).announce.path = some p ∧ (announceLinkUp u).announce.waiting = rest ∧ p.cls = w.cls ∧
      p.clip = w.clip ∧ p.arrival = w.arrival ∧ p.ticket = some (nextTicket u.announce.tickets) ∧
      relit u.lighting { u.lighting with alert := w.scene } (announceLinkUp u).lighting ∧
      (announceLinkUp u).manage = u.manage)

/-- What a link loss does to the path, row by row: a SAFETY, STOP or SERVICE entry in STARTING-CLIP or PLAYING, while
no CLEARANCE waits, is removed with CLIP-FAILED for reason LINK, the timers stop and the alert layer is released; one
in STARTING-CHIME has its chime stopped and returns to WAITING, merged with one alike; a CLEARANCE entry has its
CLIP-FAILED and runs chime-only, or is removed where its class has no chime; an IDLE path and a CHIME-ONLY run stay.
While the link is not UP, the start step takes a CLEARANCE entry alone, which runs chime-only with CLIP-FAILED for
ticket 0 (R140, R147, R148, R149, R150). -/
def Obligations.LinkLossFailsRunningClip : Prop :=
  (∀ (s : State) (e : Entry), s.announce.path = some e → (e.state = .startingClip ∨ e.state = .playing) →
    e.cls ≠ .clearance → (∀ w ∈ s.announce.waiting, w.cls ≠ .clearance) → s.link.state ≠ .up →
    s.manage.notices.length < 16 →
    (announceLinkLoss s).1.announce =
        { s.announce with path := none, startTimer := none, durationTimer := none } ∧
      (announceLinkLoss s).1.manage =
        { s.manage with notices := s.manage.notices ++ [.clipFailed (e.ticket.getD 0) e.clip e.cls .link] } ∧
      relit s.lighting { s.lighting with alert := none } (announceLinkLoss s).1.lighting) ∧
  (∀ s : State, s.announce.path = none ∨ (∃ e, s.announce.path = some e ∧ e.state = .chimeOnly) →
    (announceLinkLoss s).1 = s) ∧
  (∀ (s : State) (e : Entry) (mask : ZoneMask), s.announce.path = some e → e.state = .startingChime →
    e.cls ≠ .clearance → (∀ w ∈ s.announce.waiting, w.cls ≠ .clearance) → s.link.state ≠ .up → waitingDistinct s →
    ((mask = e.mask ∧ ∀ w ∈ s.announce.waiting, ¬ (w.clip = e.clip ∧ w.cls = e.cls)) ∨
      ∃ w ∈ s.announce.waiting, w.clip = e.clip ∧ w.cls = e.cls ∧ mask = e.mask ||| w.mask) →
    (announceLinkLoss s).1.announce = { s.announce with
        path := none, startTimer := none, durationTimer := none
        waiting := insertRanked
          { e with state := .waiting, ticket := none, chime := none, maxSeconds := 0, mask := mask }
          (s.announce.waiting.filter fun w => decide (¬ (w.clip = e.clip ∧ w.cls = e.cls))) } ∧
      (announceLinkLoss s).1.mix = (stopChime s).mix ∧ (announceLinkLoss s).1.manage = s.manage ∧
      relit s.lighting { s.lighting with alert := none } (announceLinkLoss s).1.lighting) ∧
  (∀ (s : State) (e : Entry) (record : ClassRec) (n : Nat), s.announce.path = some e → e.state ≠ .chimeOnly →
    e.state ≠ .waiting → e.cls = .clearance → s.link.state ≠ .up →
    s.mix.classes[AnnClass.clearance.code]? = some record → record.chime = some n →
    (announceLinkLoss s).1.announce = { s.announce with
        path := some { e with state := .chimeOnly, ticket := none, chime := some n }
        startTimer := none, durationTimer := none } ∧
      (announceLinkLoss s).1.mix = { s.mix with
        generator := some (sequenceOf (.announcement none e.mask) (chimeRecord s n)) } ∧
      (announceLinkLoss s).1.manage = (notify (.clipFailed (e.ticket.getD 0) e.clip e.cls .link) s).manage ∧
      relit s.lighting { s.lighting with alert := e.scene } (announceLinkLoss s).1.lighting) ∧
  (∀ (s : State) (e : Entry) (record : ClassRec), s.announce.path = some e → e.state ≠ .chimeOnly →
    e.state ≠ .waiting → e.cls = .clearance → s.link.state ≠ .up →
    s.mix.classes[AnnClass.clearance.code]? = some record → record.chime = none →
    (∀ w ∈ s.announce.waiting, w.cls ≠ .clearance) →
    (announceLinkLoss s).1.announce =
        { s.announce with path := none, startTimer := none, durationTimer := none } ∧
      (announceLinkLoss s).1.manage = (notify (.clipFailed (e.ticket.getD 0) e.clip e.cls .link) s).manage ∧
      relit s.lighting { s.lighting with alert := none } (announceLinkLoss s).1.lighting) ∧
  ∀ (s : State) (w : Entry) (rest : List Entry), s.announce.path = none → s.announce.waiting = w :: rest →
    s.link.state ≠ .up →
    (w.cls ≠ .clearance → (startStep s).1 = s) ∧
    (∀ record n, w.cls = .clearance → s.mix.classes[AnnClass.clearance.code]? = some record → record.chime = some n →
      (startStep s).1.announce = { s.announce with
          path := some { w with state := .chimeOnly, ticket := none, chime := some n, maxSeconds := record.maxSeconds }
          waiting := rest } ∧
        (startStep s).1.manage = (notify (.clipFailed 0 w.clip w.cls .link) s).manage ∧
        (startStep s).1.mix = { s.mix with
          generator := some (sequenceOf (.announcement none w.mask) (chimeRecord s n)) })

/-! ### The playout buffer -/

/-- The sequence test (R4): a frame is newer when nothing has been accepted or when the difference to the last
accepted sequence lies in 1..32767. A newer frame is accepted and its sequence becomes the last accepted one, and no
frame is put in the place of the numbers between. A duplicate or late frame is dropped whole and unreported. The frame
that brings the queue to 2 entries in FILLING moves the playout state to PLAYING, and no other arrival moves it (R6). -/
def Obligations.SequenceTestAcceptsNewerOnly : Prop :=
  ∀ (f : AudioFrame) (s : State),
    ((s.playout.lastSequence = none ∨
        ∃ l, s.playout.lastSequence = some l ∧ 1 ≤ (f.sequence - l).toNat ∧ (f.sequence - l).toNat ≤ 32767) →
      (takeAudio f s).playout.lastSequence = some f.sequence ∧
        (takeAudio f s).playout.queue =
          (if s.playout.queue.length < 4 then s.playout.queue else s.playout.queue.tail) ++
            [{ sequence := f.sequence, segment := f.segment, kept := keepBlocks s f.blocks [] }] ∧
        (takeAudio f s).playout.segmentCopy = s.playout.segmentCopy ∧
        (takeAudio f s).playout.frameTimer = s.playout.frameTimer ∧
        (s.playout.state = .playing → (takeAudio f s).playout.state = .playing) ∧
        (s.playout.state = .filling →
          ((takeAudio f s).playout.queue.length = 2 → (takeAudio f s).playout.state = .playing) ∧
          ((takeAudio f s).playout.queue.length ≠ 2 → (takeAudio f s).playout.state = .filling))) ∧
    (∀ l, s.playout.lastSequence = some l →
      ((f.sequence - l).toNat = 0 ∨ 32768 ≤ (f.sequence - l).toNat) → takeAudio f s = s)

/-- Block keeping by tag (R7 to R10): of the kept blocks of a frame no two have one tag, every kept block has a tag up
to 31, a commentary block's tag is claimed by an enabled language, and an announcement block carries the ticket of the
path entry in STARTING-CLIP or PLAYING. The first block of a tag that passes the test for the tag is kept, with its
samples and on tag 31 its ticket and END mark, and nothing else is kept. A kept announcement block starts the clip of an
entry in STARTING-CLIP (R143). -/
def Obligations.KeptBlocksPassTagTests : Prop :=
  ∀ (s : State) (blocks : List ChannelBlock),
    ((keepBlocks s blocks []).map KeptBlock.tag).Nodup ∧
      (∀ k ∈ keepBlocks s blocks [], k.tag ≤ 31 ∧
        (k.tag ≤ 29 → ∃ e ∈ s.seats.map, e.enabled = true ∧ e.tag = k.tag) ∧
        (k.tag = 31 → ∃ m, k.mark = some m ∧ ticketOnPath m.ticket s = true) ∧ (k.tag ≠ 31 → k.mark = none)) ∧
      (∀ ticket, ticketOnPath ticket s = true ↔ ticketRuns s ticket) ∧
      (∀ (i : Nat) (b : ChannelBlock), blocks[i]? = some b → passesTagTest s b →
        (∀ (j : Nat) (c : ChannelBlock), j < i → blocks[j]? = some c → c.tag = b.tag → ¬ passesTagTest s c) →
        { tag := b.tag, samples := b.samples
          mark := if b.tag = 31 then some { ticket := b.ticket, endMark := b.endMark } else none } ∈
            keepBlocks s blocks []) ∧
      (∀ k ∈ keepBlocks s blocks [], ∃ b ∈ blocks, passesTagTest s b ∧ k =
        { tag := b.tag, samples := b.samples
          mark := if b.tag = 31 then some { ticket := b.ticket, endMark := b.endMark } else none }) ∧
      ∀ (f : AudioFrame) (e : Entry), f.blocks = blocks → s.playout.lastSequence = none → s.announce.path = some e →
        ((∃ k ∈ keepBlocks s blocks [], k.tag = 31) → e.state = .startingClip →
          (takeAudio f s).announce = { s.announce with
            path := some { e with state := .playing }, startTimer := none
            durationTimer := some (Config.ms (e.maxSeconds * 1000)) }) ∧
        ((∀ k ∈ keepBlocks s blocks [], k.tag ≠ 31) ∨ e.state ≠ .startingClip →
          (takeAudio f s).announce = s.announce)

/-- A frame start restarts the frame timer, hands over the oldest queued frame in PLAYING or makes the underflow, and
applies every held write: the language map, the seats, which then move off languages not enabled to the default, the
mix engine's tables and the zones' fields, and the lines' check modes and sleep enables, where a NO wakes the line. A
LANGUAGE write takes from both live masks what is no longer enabled and live-eligible, and adds nothing (R132). The
frame handed over leaves out announcement blocks whose ticket is not the path's, and the END of one that is mixed is
reported after the mix. Each zone's duck and each box's icon read the path after a chime's end, or before it, which
leaves an ending chime-only run in place (R43). Each box takes its lamp and icon values and is marked where one
changes; the INDICATOR layer follows the requested stop, and the lamps are resolved where a layer changes; the link,
the sense unit and the request queue stay (R2, R11 to R14, R18, R24, R36 to R40, R42, R44, R57, R73, R77, R144, R157).
The handover reports a segment indicator copy that becomes 0, which is a retry (R14, R127). A LIVE OFF that falls
together with the handover and is taken first stands in LiveRequestsByState. The order of the blocks and of the
operands is the model's reading (notes/assumptions/4.md, 20.md). -/
def Obligations.FrameStartHandsOverAndAppliesWrites : Prop :=
  (∀ (s : State) (reportFirst chimeFirst : Bool),
    ∃ t, exec (.frameStart reportFirst ⟨chimeFirst, false⟩) s = .next t ∧
      t.playout.frameTimer = 2 ∧ t.playout.lastSequence = s.playout.lastSequence ∧
      (s.playout.state = .filling → t.playout.state = .filling ∧ t.playout.queue = s.playout.queue ∧
        t.playout.segmentCopy = s.playout.segmentCopy) ∧
      (s.playout.state = .playing → s.playout.queue = [] → t.playout.state = .filling ∧ t.playout.queue = [] ∧
        t.playout.segmentCopy = s.playout.segmentCopy) ∧
      (∀ f rest, s.playout.state = .playing → s.playout.queue = f :: rest → t.playout.state = .playing ∧
        t.playout.queue = rest ∧ t.playout.segmentCopy = f.segment) ∧
      t.seats.held = [] ∧ t.mix.held = [] ∧ t.lines.held = [] ∧
      t.link = s.link ∧ t.sense = s.sense ∧ t.manage.requests = s.manage.requests ∧
      t.lighting.indicator = t.route.requested.isSome ∧ t.clockPhase = s.clockPhase ∧
      (t.seats.map = mapAfter s.seats.held s.seats.map ∧
        (s.seats.seats.length = 96 → ∃ d, defaultOf t.seats.map d ∧
          t.seats.seats = s.seats.seats.mapIdx fun n x => movedTo t.seats.map d (seatWritten s.seats.held n x))) ∧
      (∀ m, m = s.mix.held.foldl mixWritten s.mix →
        t.mix.curve = m.curve ∧ t.mix.params = m.params ∧ t.mix.classes = m.classes ∧ t.mix.bands = m.bands ∧
        t.mix.chimes = m.chimes ∧ t.mix.zones.map Zone.source = m.zones.map Zone.source ∧
        t.mix.zones.map Zone.clipNotice = m.zones.map Zone.clipNotice) ∧
      (∀ l x, s.lines.lines[l]? = some x → ∃ y, t.lines.lines[l]? = some y ∧
        y.mode = ((lineRecords s.lines.held l).getLast?.map LineWrite.mode).getD x.mode ∧
        y.sleepEnable = ((lineRecords s.lines.held l).getLast?.map LineWrite.sleepEnable).getD x.sleepEnable ∧
        y.state = (if x.state = .sleeping ∧ ∀ w ∈ lineRecords s.lines.held l, w.sleepEnable = true then .sleeping
                   else .awake) ∧
        (x.state = .sleeping → y.state = .awake →
          y.quiet = some (Config.ms 60000) ∧ y.roundNext = 0 ∧ y.transaction = none) ∧
        ∀ b bx, x.boxes[b]? = some bx → ∃ c, y.boxes[b]? = some c ∧ c.lamp = t.route.requested.isSome ∧
          (∀ p, p = (if chimeFirst then endChime (mixFrameWrites (handOver s).2) else (handOver s).2) →
            (c.icon = true ↔ zoneShown p (seatAt t (seatNumber l b 0)).zone ∨
              zoneShown p (seatAt t (seatNumber l b 1)).zone)) ∧
          (bx.displayPending = true ∨ c.lamp ≠ bx.lamp ∨ c.icon ≠ bx.icon → c.displayPending = true)) ∧
      (∀ p z x, p = (if chimeFirst then endChime (mixFrameWrites (handOver s).2) else (handOver s).2) →
        s.mix.zones[z]? = some x → ∃ y, t.mix.zones[z]? = some y ∧
          (zoneShown p z → duckMoves t.mix.params x.duck (-(t.mix.params.duckDepth : Int)) y.duck) ∧
          (¬ zoneShown p z → duckMoves t.mix.params x.duck 0 y.duck)) ∧
      (t.segment.live = s.segment.live →
        ((∃ first records, .language first records ∈ s.seats.held) →
          t.segment.liveMask = s.segment.liveMask &&& eligible t ∧
            t.segment.heldMask = s.segment.heldMask &&& eligible t) ∧
        ((∀ first records, .language first records ∉ s.seats.held) →
          t.segment.liveMask = s.segment.liveMask ∧ t.segment.heldMask = s.segment.heldMask)) ∧
      (t.segment.live ≠ s.segment.live → s.segment.live = .requested ∧ t.segment.live = .on ∧
        t.segment.liveMask = s.segment.heldMask &&& eligible t ∧ t.segment.heldMask = 0) ∧
      (∀ h, h = (handOver s).2 → (∀ q, h.mix.generator = some q → q.tones ≠ []) → endTicket (handOver s).1 = none →
        relit h.lighting { h.lighting with indicator := t.route.requested.isSome } t.lighting) ∧
      ∀ v, v = reportWhen reportFirst { s with playout := { s.playout with frameTimer := 2 } } →
        t = reportWhen (!reportFirst) (endReport (endTicket (handOver v).1)
          (frameWork chimeFirst (handOver v).1 (handOver v).2))) ∧
  (∀ s : State, (s.playout.state = .filling ∨ s.playout.queue = [] → (handOver s).1 = []) ∧
    (s.playout.state = .filling → (handOver s).2 = s) ∧
    (s.playout.state = .playing → s.playout.queue = [] →
      (handOver s).2 = { s with playout := { s.playout with state := .filling } }) ∧
    (∀ f rest u, s.playout.state = .playing → s.playout.queue = f :: rest →
      u = { s with playout := { s.playout with queue := rest, segmentCopy := f.segment } } →
      (handOver s).2 = if s.playout.segmentCopy ≠ 0 ∧ f.segment = 0 then retry u else u) ∧
    ∀ f rest, s.playout.state = .playing → s.playout.queue = f :: rest →
      (handOver s).1.Sublist f.kept ∧
      ∀ k ∈ f.kept, (k ∈ (handOver s).1 ↔ ∀ m, k.mark = some m → ticketRuns s m.ticket)) ∧
  ∀ frame : List KeptBlock,
    (∀ ticket, endTicket frame = some ticket →
      ∃ k ∈ frame, ∃ m, k.mark = some m ∧ m.endMark = true ∧ m.ticket = ticket) ∧
    (endTicket frame = none ↔ ∀ k ∈ frame, ∀ m, k.mark = some m → m.endMark = false)

/-- The REPORT frame (R174, R185): none in WAIT; in LOST the header alone, and the lists keep their items; in UP up to
4 items, replies from the front of their list before notices from the front of theirs, each leaving its list, taken
while a place is left and the body with the next item stays within 2400 bytes. A reply item is 0, the tag, the kind,
the code, the length in two bytes and the data; a notice item 1, the kind, the length and the notice's fields. The
header shows the link, the route state and position, the averaged speed with its mark, the notices-lost flag, the
requested stop, the path with its ticket and clip, the requested segment, the request count, the live state and the
item count (R184). Keeping the last report in the state is the model's choice (notes/assumptions/2.md), and so are the
codes of the flags (notes/assumptions/18.md). -/
def Obligations.ReportTakesRepliesThenNotices : Prop :=
  (∀ (s : State) (unordered : Bool) (items : Nat), (unordered = true ↔ ∀ v, ¬ orderedValue s 0 v) →
    reportHeader s items = headerBytes s unordered items) ∧
  (∀ r : Reply, encodeReply r = replyItem r) ∧ (∀ n : Notice, encodeNotice n = noticeItem n) ∧
  ∀ s : State,
    (s.link.state = .wait → buildReport s = s) ∧
    (s.link.state = .lost →
      buildReport s = { s with report := some (frameBytes 0x81#8 (reportHeader s 0)) }) ∧
    (s.link.state = .up → ∃ a b : Nat, a + b ≤ 4 ∧ a ≤ s.manage.replies.length ∧ b ≤ s.manage.notices.length ∧
      (b ≠ 0 → a = s.manage.replies.length) ∧
      (∀ items, items = (s.manage.replies.take a).map encodeReply ++ (s.manage.notices.take b).map encodeNotice →
        19 + items.flatten.length ≤ 2400 ∧
        (a + b < 4 → ∀ item, ((s.manage.replies.drop a).map encodeReply ++
            (s.manage.notices.drop b).map encodeNotice).head? = some item →
          2400 < 19 + items.flatten.length + item.length)) ∧
      buildReport s = { s with
        manage := { s.manage with replies := s.manage.replies.drop a, notices := s.manage.notices.drop b }
        report := some (frameBytes 0x81#8 (reportHeader s (a + b) ++
          ((s.manage.replies.take a).map encodeReply ++ (s.manage.notices.take b).map encodeNotice).flatten)) })

/-! ### Management requests -/

/-- The checks before the owner's (R169, R170, R183): a kind above 11, a parameter length other than the kind's, and
for a TABLE-WRITE in this order: fewer than 3 bytes, the table name, the count, the length, for CUE the route state,
and the index range; and an action outside its kind's set. A refused request leaves the queue with its reply and
changes nothing else. BAD-FIELD for a CANCEL action is the model's reading (notes/assumptions/16.md). -/
def Obligations.RequestsAreCheckedInOrder : Prop :=
  ∀ (s : State) (r : Request) (rest : List Request), headIs r rest s →
    (11 < r.kind.toNat → exec .unknownKind s = .next (answered r rest .unknownKind [] s)) ∧
    (1 ≤ r.kind.toNat → r.kind.toNat ≤ 11 → r.params.length ≠ paramLength r.kind.toNat →
      exec (rowOf r) s = .next (answered r rest .badField [] s)) ∧
    (r.kind = 0#8 → r.params.length < 3 →
      exec .tableWriteUnknownTable s = .next (answered r rest .badField [] s)) ∧
    (r.kind = 0#8 → 3 ≤ r.params.length → 13 < byteAt r.params 0 →
      exec .tableWriteUnknownTable s = .next (answered r rest .badTable [] s)) ∧
    (r.kind = 0#8 → 3 ≤ r.params.length → byteAt r.params 0 ≤ 13 →
      (byteAt r.params 2 = 0 ∨ 16 < byteAt r.params 2) →
      exec (rowOf r) s = .next (answered r rest .badIndex [] s)) ∧
    (r.kind = 0#8 → 3 ≤ r.params.length → byteAt r.params 0 ≤ 13 → 1 ≤ byteAt r.params 2 → byteAt r.params 2 ≤ 16 →
      r.params.length ≠ 3 + byteAt r.params 2 * recordSize (byteAt r.params 0) →
      exec (rowOf r) s = .next (answered r rest .badField [] s)) ∧
    (∀ entries, r.kind = 0#8 → byteAt r.params 0 ≤ 13 → 1 ≤ byteAt r.params 2 → byteAt r.params 2 ≤ 16 →
      r.params.length = 3 + byteAt r.params 2 * recordSize (byteAt r.params 0) →
      tableEntries (byteAt r.params 0) = some entries →
      (byteAt r.params 0 = 11 → s.route.state ≠ .stopped →
        exec (rowOf r) s = .next (answered r rest .routeActive [] s)) ∧
      ((byteAt r.params 0 = 11 → s.route.state = .stopped) → entries < byteAt r.params 1 + byteAt r.params 2 →
        exec (rowOf r) s = .next (answered r rest .badIndex [] s))) ∧
    (∀ action tail, r.params = action :: tail → r.params.length = paramLength r.kind.toNat →
      ((r.kind = 2#8 ∧ 3 < action.toNat) ∨
        ((r.kind = 5#8 ∨ r.kind = 6#8 ∨ r.kind = 8#8) ∧ 1 < action.toNat)) →
      exec (rowOf r) s = .next (answered r rest .badField [] s))

/-- The head request waits while the reply list is full, and with no request queued there is nothing to execute: each
request row leaves the device as it is (R168). With a free place, the row of the head request takes it off the queue
with one reply at the end of the list that carries its tag and kind; a RESET with no parameters empties both first
(R176). That a request row takes the head request is the model's choice (notes/assumptions/5.md). -/
def Obligations.RequestRowsWaitForReplyPlace : Prop :=
  (∀ (s : State) (r : Request) (rest : List Request), headIs r rest s → rowOf r ∈ requestRows ∧
    ∃ t code data, exec (rowOf r) s = .next t ∧
      ((r.kind ≠ 11#8 ∨ r.params ≠ []) → t.manage.requests = rest ∧
        t.manage.replies = s.manage.replies ++ [{ tag := r.tag, kind := r.kind, code := code, data := data }]) ∧
      (r.kind = 11#8 → r.params = [] → t.manage.requests = [] ∧
        t.manage.replies = [{ tag := r.tag, kind := r.kind, code := .done, data := [] }])) ∧
  ∀ (c : Instr) (s : State), c ∈ requestRows →
    (s.manage.requests = [] ∨ 8 ≤ s.manage.replies.length) → exec c s = .next s

/-- An accepted LANGUAGE or SEAT write is replied DONE and only held. The records stand one after another in the
parameters, and a write puts them in place of the entries from its first index on (R170). A record is taken where each
of its fields lies in its set, and BAD-FIELD otherwise: an entry's flags YES or NO, its tag in 0..29 and its code of
capital letters or spaces; a seat's zone in 0..3 and its volume step in 0..15. The LANGUAGE write is refused where the
map that would result claims a tag twice or has two enabled defaults, and the SEAT write where a language is not on
offer in the map after the writes held (R17, R19, R20, R22, R23). -/
def Obligations.LanguageAndSeatWritesAreHeld : Prop :=
  (∀ (α : Type) (list records : List α) (first : Nat), first + records.length ≤ list.length → ∀ i,
    (writeAt list first records)[i]? =
      if first ≤ i ∧ i < first + records.length then records[i - first]? else list[i]?) ∧
  (∀ (α : Type) (decode : List Byte → Option α) (records : List (List Byte)) (xs : List α),
    decodeAll decode records = some xs ↔ xs.length = records.length ∧
      ∀ (i : Nat) b x, records[i]? = some b → xs[i]? = some x → decode b = some x) ∧
  (∀ (size count : Nat) (r : Request), (writtenRecords size count r).length = count ∧
    ∀ i, i < count → (writtenRecords size count r)[i]? = some ((r.params.drop (3 + size * i)).take size)) ∧
  (∀ held map, heldMap held map = mapAfter held map) ∧
  (∀ b x, decodeLang b = some x ↔ langFields b x) ∧ (∀ b x, decodeSeat b = some x ↔ seatFields b x) ∧
  ∀ (s : State) (r : Request) (rest : List Request) (first count : Nat), headIs r rest s →
    (∀ records map, isWrite 0 6 12 first count r → decodeAll decodeLang (writtenRecords 6 count r) = some records →
      map = writeAt (heldMap s.seats.held s.seats.map) first records →
      exec .tableWriteLanguage s = .next
        (if ((map.filter LangEntry.enabled).map LangEntry.tag).Nodup ∧
            (map.filter fun e => e.enabled && e.isDefault).length ≤ 1 then
          { answered r rest .done [] s with
            seats := { s.seats with held := s.seats.held ++ [.language first records] } }
        else answered r rest .badField [] s)) ∧
    (isWrite 0 6 12 first count r → decodeAll decodeLang (writtenRecords 6 count r) = none →
      exec .tableWriteLanguage s = .next (answered r rest .badField [] s)) ∧
    (∀ records map, isWrite 1 3 96 first count r → decodeAll decodeSeat (writtenRecords 3 count r) = some records →
      map = heldMap s.seats.held s.seats.map →
      ((∀ w ∈ records, (∀ i, w.language = some i → ∃ e, map[i]? = some e ∧ e.enabled = true) ∧
          (w.language = none → ∀ e ∈ map, e.enabled = false)) →
        exec .tableWriteSeat s = .next { answered r rest .done [] s with
          seats := { s.seats with held := s.seats.held ++ [.seat first records] } }) ∧
      ((∃ w ∈ records, (∃ i, w.language = some i ∧ ∀ e, map[i]? = some e → e.enabled = false) ∨
          (w.language = none ∧ ∃ e ∈ map, e.enabled = true)) →
        exec .tableWriteSeat s = .next (answered r rest .badField [] s))) ∧
    (isWrite 1 3 96 first count r → decodeAll decodeSeat (writtenRecords 3 count r) = none →
      exec .tableWriteSeat s = .next (answered r rest .badField [] s))

/-- An accepted write to a table of the mix engine or to SEAT-LINE is replied DONE and only held, and one with a field
outside its set is refused with BAD-FIELD; a NOISE-BANDS write that breaks the order of the table it would produce is
refused with BAD-ORDER (R36 to R40, R52, R57). Each decoder takes a record exactly where each field lies in the set
that the field's table gives, and the record holds those fields. That the table a NOISE-BANDS write would produce
counts the writes held is the model's reading (notes/assumptions/17.md). -/
def Obligations.MixAndLineWritesAreHeld : Prop :=
  (∀ m : MixEngine, heldBands m.held m.bands = (m.held.foldl mixWritten m).bands) ∧
  (∀ b x, decodeZone b = some x ↔ zoneFields b x) ∧ (∀ b x, decodeCurve b = some x ↔ curveFields b x) ∧
  (∀ b x, decodeMix b = some x ↔ mixFields b x) ∧ (∀ b x, decodeBand b = some x ↔ bandFields b x) ∧
  (∀ b x, decodeClass b = some x ↔ classFields b x) ∧ (∀ b x, decodeChime b = some x ↔ chimeFields b x) ∧
  (∀ b x, decodeSeatLine b = some x ↔ lineFields b x) ∧
  ∀ (s : State) (r : Request) (rest : List Request) (first count : Nat), headIs r rest s →
    (isWrite 2 2 4 first count r → exec .tableWriteZone s = .next
      (match decodeAll decodeZone (writtenRecords 2 count r) with
        | some records => { answered r rest .done [] s with
            mix := { s.mix with held := s.mix.held ++ [.zone first records] } }
        | none => answered r rest .badField [] s)) ∧
    (isWrite 3 1 16 first count r → exec .tableWriteVolumeCurve s = .next
      (match decodeAll decodeCurve (writtenRecords 1 count r) with
        | some records => { answered r rest .done [] s with
            mix := { s.mix with held := s.mix.held ++ [.volumeCurve first records] } }
        | none => answered r rest .badField [] s)) ∧
    (isWrite 4 5 1 first count r → exec .tableWriteMix s = .next
      (match decodeMix ((r.params.drop 3).take 5) with
        | some record => { answered r rest .done [] s with
            mix := { s.mix with held := s.mix.held ++ [.mix record] } }
        | none => answered r rest .badField [] s)) ∧
    (isWrite 5 3 8 first count r → exec .tableWriteNoiseBands s = .next
      (match decodeAll decodeBand (writtenRecords 3 count r) with
        | some records =>
          if (writeAt (heldBands s.mix.held s.mix.bands) first records).IsChain
              (fun a b => a.threshold < b.threshold ∧ a.offset ≤ b.offset) then
            { answered r rest .done [] s with
              mix := { s.mix with held := s.mix.held ++ [.noiseBands first records] } }
          else answered r rest .badOrder [] s
        | none => answered r rest .badField [] s)) ∧
    (isWrite 6 6 4 first count r → exec .tableWriteClass s = .next
      (match decodeAll decodeClass (writtenRecords 6 count r) with
        | some records => { answered r rest .done [] s with
            mix := { s.mix with held := s.mix.held ++ [.cls first records] } }
        | none => answered r rest .badField [] s)) ∧
    (isWrite 7 17 4 first count r → exec .tableWriteChime s = .next
      (match decodeAll decodeChime (writtenRecords 17 count r) with
        | some records => { answered r rest .done [] s with
            mix := { s.mix with held := s.mix.held ++ [.chime first records] } }
        | none => answered r rest .badField [] s)) ∧
    (isWrite 8 2 4 first count r → exec .tableWriteSeatLine s = .next
      (match decodeAll decodeSeatLine (writtenRecords 2 count r) with
        | some records => { answered r rest .done [] s with
            lines := { s.lines with held := s.lines.held ++ [(first, records)] } }
        | none => answered r rest .badField [] s))

/-- A SENSE-CHANNEL write (R84): a field outside its set is BAD-FIELD, and any other write is taken at once and
replied DONE. A record is taken exactly where each field lies in its set (R83). For one record (R87, R88, R93):
Enabling a channel clears its result record, and for LREF the reference records; a changed setting of a channel that
stays enabled discards its partial block; disabling the channel being converted abandons the conversion, and the scan
goes on as after a result; in SCAN-WAIT an enabled channel begins to be converted. The order among several records is
the model's reading (notes/assumptions/13.md). -/
def Obligations.SenseChannelWriteTakesEffect : Prop :=
  (∀ n b x, decodeSense n b = some x ↔ senseFields n b x) ∧
  (∀ first records xs, decodeSenses first records = some xs ↔ xs.length = records.length ∧
    ∀ i b x, records[i]? = some b → xs[i]? = some x → senseFields (first + i) b x) ∧
  (∀ (s : State) (r : Request) (rest : List Request) (first count : Nat), headIs r rest s →
    isWrite 9 12 5 first count r →
    (decodeSenses first (writtenRecords 12 count r) = none →
      exec .tableWriteSenseChannel s = .next (answered r rest .badField [] s)) ∧
    ∀ records, decodeSenses first (writtenRecords 12 count r) = some records →
      exec .tableWriteSenseChannel s = .next (addReply { tag := r.tag, kind := r.kind, code := .done, data := [] }
        (writeChannels first records (setRequests rest s)))) ∧
  ∀ (s : State) (r : Request) (rest : List Request) (n : Nat) (old new : SenseRec), headIs r rest s →
    isWrite 9 12 5 n 1 r → decodeSense n ((r.params.drop 3).take 12) = some new → s.sense.channels[n]? = some old →
    ((s.sense.scan = .idle ∨ ∃ left, s.sense.scan = .delay left) →
      exec .tableWriteSenseChannel s = .next { answered r rest .done [] s with
        sense := { s.sense with
          channels := s.sense.channels.set n new
          results :=
            if old.enabled = false ∧ new.enabled = true then s.sense.results.modify n fun _ => resultCleared
            else if new.enabled = true ∧ settingsDiffer old new = true then
              s.sense.results.modify n fun x => { x with blockCount := 0, blockSum := 0, blockInvalid := false }
            else s.sense.results
          refGateRecord :=
            if n = 2 ∧ old.enabled = false ∧ new.enabled = true then .empty else s.sense.refGateRecord
          inputGateRecord :=
            if n = 2 ∧ old.enabled = false ∧ new.enabled = true then .empty else s.sense.inputGateRecord } }) ∧
    (∀ k, s.sense.scan = .converting k → chanNumber k.channel = n → old.enabled = true → new.enabled = false →
      ∃ t, exec .tableWriteSenseChannel s = .next t ∧ scanGoesOn k.channel
        { answered r rest .done [] s with sense := { s.sense with channels := s.sense.channels.set n new } } t) ∧
    (s.sense.scan = .scanWait → old.enabled = false → new.enabled = true →
      (∀ i x, i ≠ n → s.sense.channels[i]? = some x → x.enabled = false) →
      ∃ t c, exec .tableWriteSenseChannel s = .next t ∧ chanNumber c = n ∧
        t.sense.channels = s.sense.channels.set n new ∧
        t.sense.scan = .converting { channel := c, settings := new, gateOpen := false, edges := 0, ticks := 0,
                                     waited := 0 } ∧
        t = { answered r rest .done [] s with sense := t.sense })

/-- A LIMIT write (R97, R99): a field outside its set is BAD-FIELD, and any other write is taken at once and replied
DONE; the decoder takes a record exactly where each field lies in its set. For one record, the entry takes the new
fields and CLEAR, an entry that was TRIPPED gives a LIMIT-CLEARED notice, and the base scene selection is formed anew
and reported to the BASE layer when it changed, with the resolution of every lamp channel (R157, R159). -/
def Obligations.LimitWriteReplacesEntry : Prop :=
  (∀ b x, decodeLimit b = some x ↔ limitFields b x) ∧
  (∀ (s : State) (r : Request) (rest : List Request) (first count : Nat), headIs r rest s →
    isWrite 10 15 8 first count r →
    (decodeAll decodeLimit (writtenRecords 15 count r) = none →
      exec .tableWriteLimit s = .next (answered r rest .badField [] s)) ∧
    ∀ records, decodeAll decodeLimit (writtenRecords 15 count r) = some records →
      exec .tableWriteLimit s = .next (addReply { tag := r.tag, kind := r.kind, code := .done, data := [] }
        (writeLimits first records (setRequests rest s)))) ∧
  ∀ (s : State) (r : Request) (rest : List Request) (i : Nat) (old new : Limit), headIs r rest s →
    isWrite 10 15 8 i 1 r → decodeLimit ((r.params.drop 3).take 15) = some new → s.sense.limits[i]? = some old →
    new.tripped = false ∧ ∃ t, exec .tableWriteLimit s = .next t ∧
      t.sense = { s.sense with limits := s.sense.limits.set i new
                               selection := baseSelection (s.sense.limits.set i new) } ∧
      t.manage =
        (answered r rest .done [] (if old.tripped then notify (.limitCleared i) s else s)).manage ∧
      (baseSelection (s.sense.limits.set i new) = s.sense.selection → t.lighting = s.lighting) ∧
      (baseSelection (s.sense.limits.set i new) ≠ s.sense.selection →
        relit s.lighting { s.lighting with base := baseSelection (s.sense.limits.set i new) } t.lighting) ∧
      t = { s with sense := t.sense, manage := t.manage, lighting := t.lighting }

/-- A CUE write on a STOPPED route (R109): the entries written take the records in state ARMED and leave the open-cue
list; a field of an in-use record outside its set is BAD-FIELD, and triggers that fall in the table that results are
BAD-ORDER. The decoder takes a record exactly where its in-use byte is YES or NO and, in an in-use record, the fields
that its kind uses lie in their sets (R108). That a record whose in-use byte is neither YES nor NO is BAD-FIELD too is
the model's reading (notes/assumptions/16.md). -/
def Obligations.CueWriteArmsCues : Prop :=
  (∀ b x, decodeCue b = some x ↔ cueFields b x) ∧
  ∀ (s : State) (r : Request) (rest : List Request) (first count : Nat), headIs r rest s →
    isWrite 11 20 256 first count r → s.route.state = .stopped →
    (decodeAll decodeCue (writtenRecords 20 count r) = none →
      exec .tableWriteCue s = .next (answered r rest .badField [] s)) ∧
    (∀ records, decodeAll decodeCue (writtenRecords 20 count r) = some records →
      (∀ c ∈ records, c.state = .armed) ∧
      exec .tableWriteCue s = .next
        (if ((writeAt s.route.cues first records).filter Cue.inUse).Pairwise (fun a b => a.trigger ≤ b.trigger) then
          { answered r rest .done [] s with
            route := { s.route with
              cues := writeAt s.route.cues first records
              openCues := s.route.openCues.filter fun i => decide (i < first ∨ first + count ≤ i) } }
        else answered r rest .badOrder [] s))

/-- A SCENE and a LIGHTING write take effect at once, with the resolution of every lamp channel: the highest of the
layers ALERT, INDICATOR, FORCE, CUE and BASE that claims a channel governs it, and one that none claims has target 0
STEADY; a channel whose setting stays keeps its transition, and any other begins a new one from its present level. Of
changes of one moment the later start from the level before the first, and one that gives back the setting before the
first finds its transition as it stood: resolutions of one moment, in whatever order the layers, the scenes and the
parameters change, leave the lamps that the last of them alone would leave (R154 to R157, R159, R160, R166). Each
decoder takes a record exactly where each field lies in its set (R155, R156). That changes with no reference tick
between them fall in one moment, and that the transition is found as it stood (notes/assumptions/25.md), and the
period 0 of the INDICATOR setting and of one that none claims (notes/assumptions/28.md), are the model's choice. -/
def Obligations.SceneAndLightingWritesResolve : Prop :=
  (∀ b x, decodeScene b = some x ↔ sceneFields b x) ∧ (∀ b x, decodeLighting b = some x ↔ lightingFields b x) ∧
  (∀ (g : Lighting) (changes : List (Lighting → Lighting)) (last : Lighting), (∀ x ∈ g.lamps, x.began = none) →
    last.lamps = (changes.foldl (fun h change => resolve { change h with lamps := h.lamps }) g).lamps →
    (resolve last).lamps = (resolve { last with lamps := g.lamps }).lamps) ∧
  ∀ (s : State) (r : Request) (rest : List Request) (first count : Nat), headIs r rest s →
    (∀ records, isWrite 12 64 16 first count r → decodeAll decodeScene (writtenRecords 64 count r) = some records →
      ∃ t, exec .tableWriteScene s = .next t ∧
        t.lighting = { s.lighting with scenes := writeAt s.lighting.scenes first records, lamps := t.lighting.lamps } ∧
        resolvedFrom s.lighting.lamps t.lighting ∧ t = { answered r rest .done [] s with lighting := t.lighting }) ∧
    (isWrite 12 64 16 first count r → decodeAll decodeScene (writtenRecords 64 count r) = none →
      exec .tableWriteScene s = .next (answered r rest .badField [] s)) ∧
    (∀ p, isWrite 13 5 1 first count r → decodeLighting ((r.params.drop 3).take 5) = some p →
      ∃ t, exec .tableWriteLighting s = .next t ∧
        t.lighting = { s.lighting with params := p, lamps := t.lighting.lamps } ∧
        resolvedFrom s.lighting.lamps t.lighting ∧ t = { answered r rest .done [] s with lighting := t.lighting }) ∧
    (isWrite 13 5 1 first count r → decodeLighting ((r.params.drop 3).take 5) = none →
      exec .tableWriteLighting s = .next (answered r rest .badField [] s))

/-- A TABLE-READ is replied with its three parameter bytes and the records as they stand in force, a write held for
the next frame start left out, and changes no state; a name outside the catalogue is BAD-TABLE, and a count or range
outside the table BAD-INDEX (R171, R184). The records come in index order, each its fields in the order of the owning
table, the fields that are not written included: a SEAT its jack, fitting and last counts, a ZONE its offset, target,
slew count, duck and clip flag, a LIMIT and a CUE their state. The views give the announcement queue, the open cues,
the sense results and the boxes of a line (R58, R93, R102, R134, R182). The rounding of a time in a view to whole ms
is the model's choice (notes/assumptions/3.md). -/
def Obligations.TableReadReturnsRecordsInForce : Prop :=
  (∀ (s : State) (r : Request) (rest : List Request) (table first count : Nat), headIs r rest s → r.kind = 1#8 →
    r.params.length = 3 → byteAt r.params 0 = table → byteAt r.params 1 = first → byteAt r.params 2 = count →
    (17 < table → exec .tableRead s = .next (answered r rest .badTable [] s)) ∧
    (∀ entries, tableEntries table = some entries →
      ((count = 0 ∨ 16 < count ∨ entries < first + count) →
        exec .tableRead s = .next (answered r rest .badIndex [] s)) ∧
      (1 ≤ count → count ≤ 16 → first + count ≤ entries →
        exec .tableRead s = .next (answered r rest .done (r.params ++ recordsOf s table first count) s) ∧
        ∀ heldSeats heldMix heldLines, recordsOf
          { s with seats := { s.seats with held := heldSeats }, mix := { s.mix with held := heldMix },
                   lines := { s.lines with held := heldLines } } table first count = recordsOf s table first count))) ∧
  ∀ s : State,
    (∀ table ∈ [0, 1, 2, 3, 5, 6, 7, 8, 9, 10, 11, 12, 17], ∀ first a b, recordsOf s table first 0 = [] ∧
      recordsOf s table first (a + b) = recordsOf s table first a ++ recordsOf s table (first + a) b) ∧
    (∀ n x, s.seats.map[n]? = some x → recordsOf s 0 n 1 = encodeLang x) ∧
    (∀ n x, s.seats.seats[n]? = some x → recordsOf s 1 n 1 = [BitVec.ofNat 8 x.zone, orNone x.language,
      BitVec.ofNat 8 x.volume, yesNo x.jack, yesNo x.fitted, x.lastLanguage.zeroExtend 8, x.lastUp.zeroExtend 8,
      x.lastDown.zeroExtend 8]) ∧
    (∀ n x, s.mix.zones[n]? = some x → recordsOf s 2 n 1 =
      [orNone (x.source.map fun y => sourceChannel y - 3), BitVec.ofNat 8 x.offset, BitVec.ofNat 8 x.target,
       BitVec.ofNat 8 x.slew, BitVec.ofInt 8 x.duck, yesNo x.clip, yesNo x.clipNotice]) ∧
    (∀ n x, s.mix.curve[n]? = some x → recordsOf s 3 n 1 = [BitVec.ofInt 8 x]) ∧
    recordsOf s 4 0 1 = encodeMix s.mix.params ∧
    (∀ n x, s.mix.bands[n]? = some x → recordsOf s 5 n 1 = encodeBand x) ∧
    (∀ n x, s.mix.classes[n]? = some x → recordsOf s 6 n 1 = encodeClass x) ∧
    (∀ n x, s.mix.chimes[n]? = some x → recordsOf s 7 n 1 = encodeChime x) ∧
    (∀ n x, s.lines.lines[n]? = some x → recordsOf s 8 n 1 = [modeByte x.mode, yesNo x.sleepEnable]) ∧
    (∀ n x, s.sense.channels[n]? = some x → recordsOf s 9 n 1 = encodeSense x) ∧
    (∀ n x, s.sense.limits[n]? = some x → recordsOf s 10 n 1 = encodeLimit x ∧
      (encodeLimit x).drop 15 = [if x.tripped then 1 else 0]) ∧
    (∀ n x, s.route.cues[n]? = some x → recordsOf s 11 n 1 = encodeCue x ∧
      (encodeCue x).drop 20 = [cueStateByte x.state]) ∧
    (∀ n x, s.lighting.scenes[n]? = some x → recordsOf s 12 n 1 = encodeScene x) ∧
    recordsOf s 13 0 1 = encodeLighting s.lighting.params ∧
    recordsOf s 14 0 1 = queueViewBytes s ∧ recordsOf s 15 0 1 = openCueViewBytes s ∧
    recordsOf s 16 0 1 = resultViewBytes s ∧
    ∀ n x, s.lines.lines[n]? = some x → recordsOf s 17 n 1 = boxViewBytes x

/-- A STATUS-READ takes its values first; with clear YES the four clip flags and the notices-lost flag are then
cleared, and with NO nothing changes (R172). The values are the zones' clip flags, the notices-lost flag, the number of
notices queued, the live and the held mask, for each lamp channel its level, governing layer, governing scene and
transition state, and the contents of the five layers (R164, R184). The codes of the flags are the model's reading
(notes/assumptions/18.md). -/
def Obligations.StatusReadReportsThenClears : Prop :=
  (∀ s : State, statusData s = s.mix.zones.map (fun z => yesNo z.clip) ++
    [yesNo s.manage.noticesLost, BitVec.ofNat 8 s.manage.notices.length] ++
    natBytes 2 s.segment.liveMask.toNat ++ natBytes 2 s.segment.heldMask.toNat ++
    s.lighting.lamps.flatMap (fun x => natBytes 2 x.level ++ [layerByte x.setting.layer, orNone x.setting.scene,
      transitionByte x.transition]) ++
    [orNone s.lighting.alert, yesNo s.lighting.indicator, orNone s.lighting.force, orNone s.lighting.cue,
     orNone s.lighting.base]) ∧
  ∀ (s : State) (r : Request) (rest : List Request), headIs r rest s → r.kind = 10#8 →
    (r.params = [1#8] → exec .statusRead s = .next (answered r rest .done (statusData s) s)) ∧
    (r.params = [0#8] → ∃ t, exec .statusRead s = .next t ∧
      t = { answered r rest .done (statusData s) s with mix := t.mix, manage := t.manage } ∧
      t.mix = { s.mix with zones := s.mix.zones.map fun z => { z with clip := false } } ∧
      t.manage = { (answered r rest .done (statusData s) s).manage with noticesLost := false }) ∧
    (∀ b, r.params = [b] → 1 < b.toNat → exec .statusRead s = .next (answered r rest .badField [] s))

/-! ### The route engine -/

/-- ROUTE START (R77, R105): position 0, every cue ARMED, an empty open-cue list, no requested stop, RUNNING, and
every line woken: a SLEEPING one is AWAKE with its quiet timer at 60,000 ms and a round at address 0, and on an AWAKE
one the timer restarts, a pending sleep is cancelled and the round goes on (R74, R77). With no in-use cue at trigger 0
nothing else happens but the cursor's move to the first in-use cue; with the triggers in order, no in-use cue at
trigger 0 is left ARMED. -/
def Obligations.RouteStartResetsRun : Prop :=
  (∀ x : Line,
    (x.state = .sleeping → routeWake x = { x with
      state := .awake, sleepPending := false, quiet := some (Config.ms 60000), roundNext := 0
      roundLeft := Config.ms 4, transaction := none, pairLow := false }) ∧
    (x.state = .awake → routeWake x = { x with sleepPending := false, quiet := some (Config.ms 60000) })) ∧
  ∀ (s : State) (r : Request) (rest : List Request), headIs r rest s → r.kind = 2#8 → r.params = [0#8] →
    s.route.cues.length = 256 →
    ((∀ c ∈ s.route.cues, c.inUse = true → 0 < c.trigger) →
      exec .routeStart s = .next { answered r rest .done [] (stopCleared s) with
        route := { distance := 0, state := .running, cursor := (findFrom Cue.inUse 0 s.route.cues).getD 256,
                   openCues := [], requested := none,
                   cues := s.route.cues.map fun c => { c with state := .armed } }
        lines := { s.lines with lines := s.lines.lines.map routeWake } }) ∧
    ((s.route.cues.filter Cue.inUse).Pairwise (fun a b => a.trigger ≤ b.trigger) →
      ∃ t, exec .routeStart s = .next t ∧ t.route.distance = 0 ∧ t.route.state = .running ∧
        t.route.requested = none ∧ t.lines = { s.lines with lines := s.lines.lines.map routeWake } ∧
        (∀ c ∈ t.route.cues, c.inUse = true → c.trigger = 0 → c.state ≠ .armed) ∧
        t = { s with route := t.route, lines := t.lines, segment := t.segment, announce := t.announce,
                     mix := { s.mix with generator := t.mix.generator }, lighting := t.lighting, manage := t.manage })

/-- HOLD and RESUME (R106): HOLD of a RUNNING route keeps all but the state; RESUME of a HELD route wakes the lines as
START does (R74, R77), runs the position step and makes one retry; in every other state they are refused with
ROUTE-STATE. The retry, on a RUNNING route alone, fires the first DEFERRED cue of the open-cue list that passes the
serve test, and nothing else (R115, R126, R127): the link UP, live OFF, and the segment indicator copy 0 or the cue's
preempt YES. -/
def Obligations.HoldAndResume : Prop :=
  (∀ x : Line,
    (x.state = .sleeping → routeWake x = { x with
      state := .awake, sleepPending := false, quiet := some (Config.ms 60000), roundNext := 0
      roundLeft := Config.ms 4, transaction := none, pairLow := false }) ∧
    (x.state = .awake → routeWake x = { x with sleepPending := false, quiet := some (Config.ms 60000) })) ∧
  (∀ (c : Cue) (s : State), canServe c s = true ↔ serves c s) ∧
  (∀ s : State, (s.route.state ≠ .running → retry s = s) ∧
    ((∀ i ∈ s.route.openCues, ¬ servable s i) → retry s = s) ∧
    ∀ before i after, s.route.state = .running → s.route.openCues = before ++ i :: after →
      (∀ j ∈ before, ¬ servable s j) → servable s i → retry s = fireCue i s) ∧
  ∀ (s : State) (r : Request) (rest : List Request), headIs r rest s → r.kind = 2#8 →
    (r.params = [1#8] → s.route.state = .running →
      exec .routeHold s = .next { answered r rest .done [] s with route := { s.route with state := .held } }) ∧
    (r.params = [1#8] → s.route.state ≠ .running →
      exec .routeHold s = .next (answered r rest .routeState [] s)) ∧
    (r.params = [2#8] → s.route.state = .held →
      exec .routeResume s = .next (addReply { tag := r.tag, kind := r.kind, code := .done, data := [] }
        (retry (positionStep { setRequests rest s with
          route := { s.route with state := .running }
          lines := { s.lines with lines := s.lines.lines.map routeWake } })))) ∧
    (r.params = [2#8] → s.route.state ≠ .held →
      exec .routeResume s = .next (answered r rest .routeState [] s))

/-- ROUTE STOP (R107): STOPPED, the requested stop cleared with its notice, everything else of the route kept; and in
STOPPED it is frozen: no edge is counted, no cue evaluated or retried. -/
def Obligations.RouteStopFreezesRun : Prop :=
  (∀ (s : State) (r : Request) (rest : List Request), headIs r rest s → r.kind = 2#8 → r.params = [3#8] →
    exec .routeStop s = .next { answered r rest .done [] (stopCleared s) with
      route := { s.route with state := .stopped, requested := none } }) ∧
  ∀ s : State, s.route.state = .stopped → exec (.odometerEdge ⟨false, false⟩) s = .next s ∧
    (∀ c, resultReport c s = s) ∧ retry s = s

/-- POSITION-FIX (R118, R119): the checks; a fix forward moves the distance and runs the position step only while
RUNNING; a fix to the present metre only moves the distance to its start; a fix backward re-arms the open cues and the
repeatable cues ahead of it, takes the open ones off the list and moves the cursor back, never forward. -/
def Obligations.PositionFixMovesRoute : Prop :=
  ∀ (s : State) (r : Request) (rest : List Request) (m : Nat), headIs r rest s → r.kind = 3#8 →
    r.params.length = 3 → threeAt r.params 0 = m →
    (1048575 < m → exec .positionFix s = .next (answered r rest .badField [] s)) ∧
    (m ≤ 1048575 → s.route.state = .stopped → exec .positionFix s = .next (answered r rest .routeState [] s)) ∧
    (m ≤ 1048575 → s.route.state ≠ .stopped → (m = position s ∨ (position s < m ∧ s.route.state = .held)) →
      exec .positionFix s = .next { answered r rest .done [] s with
        route := { s.route with distance := BitVec.ofNat 40 (m * 10000) } }) ∧
    (m ≤ 1048575 → position s < m → s.route.state = .running →
      exec .positionFix s = .next (addReply { tag := r.tag, kind := r.kind, code := .done, data := [] }
        (positionStep { setRequests rest s with
          route := { s.route with distance := BitVec.ofNat 40 (m * 10000) } }))) ∧
    (∀ target, m < position s → m ≤ 1048575 → s.route.state ≠ .stopped →
      target = (findFrom (fun c : Cue => c.inUse && decide (m < c.trigger)) 0 s.route.cues).getD 256 →
      exec .positionFix s = .next { answered r rest .done [] s with
        route := { s.route with
          distance := BitVec.ofNat 40 (m * 10000)
          openCues := s.route.openCues.filter fun i => decide ((cueAt s i).trigger ≤ m)
          cues := s.route.cues.map fun c =>
            if m < c.trigger ∧ (c.state = .pending ∨ c.state = .deferred ∨
                (c.repeatable = 0 ∧ (c.state = .fired ∨ c.state = .skipped))) then { c with state := .armed } else c
          cursor := if target < s.route.cursor then target else s.route.cursor } })

/-- The odometer edge at the route engine (R103, R104): STOPPED, nothing; otherwise the pulse length of the ODO record
in force joins the distance, and the position step runs only for a new metre of a RUNNING route. A sum past 2^40
wraps, with one DISTANCE-OVERFLOW notice and the steps of a backward fix to the new position. The position step is the
open-list pass, which skips a cue past its window and fires or defers a PENDING cue whose condition is true, and then
the crossing step from the cursor on, which fires, defers, skips or opens each ARMED cue whose trigger is reached; a
cue joins at the end of the list, after the oldest of 16; at most one SEGMENT cue fires in the step (R110 to R113,
R115). An open cue that the crossing step would reach, which R112 rules out, is passed over: that case is the model's
choice (notes/assumptions/6.md). A LIVE OFF that falls together with the event and is taken first stands in
LiveRequestsByState. -/
def Obligations.OdometerEdgeMovesPosition : Prop :=
  (∀ s : State, ∃ m u, OpenPass s.route.openCues s false m u ∧ CrossingStep m u (positionStep s)) ∧
  ∀ (s : State) (odo : SenseRec) (sum : Nat), s.sense.channels[0]? = some odo →
    sum = s.route.distance.toNat + odo.pulse →
    (s.route.state = .stopped → exec (.odometerEdge ⟨false, false⟩) s = .next s) ∧
    (s.route.state ≠ .stopped → sum < 2 ^ 40 → (s.route.state = .held ∨ sum / 10000 = position s) →
      exec (.odometerEdge ⟨false, false⟩) s =
        .next { s with route := { s.route with distance := BitVec.ofNat 40 sum } }) ∧
    (s.route.state = .running → sum < 2 ^ 40 → sum / 10000 ≠ position s →
      exec (.odometerEdge ⟨false, false⟩) s =
        .next (positionStep { s with route := { s.route with distance := BitVec.ofNat 40 sum } })) ∧
    (s.route.state ≠ .stopped → 2 ^ 40 ≤ sum → odo.pulse ≤ 65535 → ∃ t,
      exec (.odometerEdge ⟨false, false⟩) s = .next t ∧
      t.route.distance.toNat = sum - 2 ^ 40 ∧ t.manage = (notify .distanceOverflow s).manage ∧
      t.route.state = s.route.state ∧ t.route.requested = s.route.requested ∧
      t.route.openCues = s.route.openCues.filter (fun i => decide ((cueAt s i).trigger ≤ position t)) ∧
      t.route.cues = s.route.cues.map (fun c =>
        if position t < c.trigger ∧ (c.state = .pending ∨ c.state = .deferred ∨
            (c.repeatable = 0 ∧ (c.state = .fired ∨ c.state = .skipped))) then { c with state := .armed } else c) ∧
      t.route.cursor = min s.route.cursor
        ((findFrom (fun c : Cue => c.inUse && decide (position t < c.trigger)) 0 s.route.cues).getD 256) ∧
      t = { s with route := t.route, manage := t.manage })

/-- A fired cue (R116): FIRED, off the open-cue list, one CUE-FIRED notice with its kind and the position, and then
the action of its kind; a SCENE cue's scene is taken by the CUE layer, with the resolution of every lamp channel, and
one that the layer holds already changes nothing (R157). A skipped cue (R117): SKIPPED, off the list, one CUE-SKIPPED
notice with the reason and the position, and a requested stop that names it is cleared with its notice. A condition
(R110) compares the channel's ordered averaged value, and an unordered one makes it true but for LT, LE, GT and GE. A
new raw result of a channel (R114) has the PENDING cues that name it evaluated in list order while the route is
RUNNING, and fires or defers those whose condition is true, one SEGMENT cue at most (R115). -/
def Obligations.FiredCueTakesItsAction : Prop :=
  (∀ (c : Cue) (s : State), conditionTrue c s = true ↔ conditionHolds c s) ∧
  (∀ (scene : Option Nat) (s : State),
    relit s.lighting { s.lighting with cue := scene } (setCueScene scene s).lighting ∧
    setCueScene scene s = { s with lighting := (setCueScene scene s).lighting }) ∧
  (∀ (s : State) (n : Nat), (s.route.state ≠ .running → resultReport n s = s) ∧
    (s.route.state = .running → ResultPass n s.route.openCues s false (resultReport n s))) ∧
  (∀ (s u : State) (i : Nat) (c : Cue) (reason : SkipReason), s.route.cues[i]? = some c →
    u = notify (.cueSkipped i reason (position s)) { s with route := { s.route with
          cues := s.route.cues.set i { c with state := .skipped }
          openCues := s.route.openCues.filter fun j => decide (j ≠ i) } } →
    ((∀ q, s.route.requested = some q → q.cue ≠ i) → skipCue i reason s = u) ∧
    ∀ q, s.route.requested = some q → q.cue = i → skipCue i reason s =
      notify (.stopCleared q.stop .skipped) { u with route := { u.route with requested := none } }) ∧
  ∀ (s u : State) (i : Nat) (c : Cue), s.route.cues[i]? = some c →
    u = notify (.cueFired i c.kind (position s)) { s with route := { s.route with
          cues := s.route.cues.set i { c with state := .fired }
          openCues := s.route.openCues.filter fun j => decide (j ≠ i) } } →
    (c.kind = 0 → fireCue i s = { u with segment := { s.segment with
      requested := c.segment, count := s.segment.count + 1 } }) ∧
    (c.kind = 1 → fireCue i s = announceRequest
      { cls := .stop, clip := if (s.route.requested.map StopRequest.stop) = some c.stop then c.clip + 1 else c.clip
        mask := c.mask, origin := .cue i, scene := none } u) ∧
    (c.kind = 2 → ∀ v, v = (if (s.route.requested.map StopRequest.stop) = some c.stop then
          notify (.stopReached c.stop) { u with route := { u.route with requested := none } } else u) →
      fireCue i s = if c.clip = 1023 then v else announceRequest
        { cls := .service, clip := c.clip, mask := c.mask, origin := .cue i, scene := none } v) ∧
    (c.kind = 3 → fireCue i s = announceRequest
      { cls := .clearance, clip := c.clip, mask := c.mask, origin := .cue i
        scene := if c.scene = 255 then none else some c.scene } u) ∧
    (c.kind = 4 → fireCue i s = setCueScene (if c.scene = 255 then none else some c.scene) u) ∧
    (c.kind = 5 → fireCue i s = u)

/-! ### Announcements -/

/-- An ANNOUNCE request (R138): a class, clip or scene outside its set is BAD-FIELD, and any other is handed over with
origin HEAD-UNIT and replied DONE. On an IDLE path with nothing waiting and the link UP (R141, R143) it takes the path
at once with the next ticket and the chime and duration of its class record, in STARTING-CHIME with its chime
requested, or in STARTING-CLIP with the start timer at 250 ms where the class has no chime; its scene is the alert
scene, and the lamps are resolved where the ALERT layer changes (R147, R157). -/
def Obligations.AnnounceTakesIdlePath : Prop :=
  ∀ (s : State) (r : Request) (rest : List Request), headIs r rest s → r.kind = 4#8 →
    (r.params.length = 5 → (3 < byteAt r.params 0 ∨ 1023 < wordAt r.params 1 ∨
        (16 ≤ byteAt r.params 4 ∧ byteAt r.params 4 ≤ 254)) →
      exec .announce s = .next (answered r rest .badField [] s)) ∧
    (∀ n, nextTicket n = if n = 255 then 1 else n + 1) ∧
    ∀ (cls : AnnClass) (clip : Nat) (mask : Byte) (scene : Option Nat), clip ≤ 1023 →
      (∀ n, scene = some n → n ≤ 15) →
      r.params = natBytes 1 cls.code ++ natBytes 2 clip ++ [mask] ++ natBytes 1 (optCode scene) →
      exec .announce s = .next (addReply { tag := r.tag, kind := r.kind, code := .done, data := [] }
        (announceRequest { cls := cls, clip := clip, mask := mask.truncate 4, origin := .headUnit, scene := scene }
          (setRequests rest s))) ∧
      ∀ (record : ClassRec) (ticket : Nat) (e : Entry), s.announce.path = none → s.announce.waiting = [] →
        s.link.state = .up → s.mix.classes[cls.code]? = some record →
        ticket = (if s.announce.tickets = 255 then 1 else s.announce.tickets + 1) →
        e = { cls := cls, clip := clip, mask := mask.truncate 4, origin := .headUnit, scene := scene,
              state := if record.chime.isSome then .startingChime else .startingClip, ticket := some ticket,
              arrival := s.announce.nextArrival, chime := record.chime, maxSeconds := record.maxSeconds } →
        ∃ t, exec .announce s = .next t ∧
          t.announce = { path := some e, waiting := [], tickets := ticket, nextArrival := s.announce.nextArrival + 1
                         startTimer := if record.chime.isSome then s.announce.startTimer else some (Config.ms 250)
                         durationTimer := if record.chime.isSome then s.announce.durationTimer else none } ∧
          t.mix = { s.mix with generator := match record.chime with
                      | some n => some (sequenceOf (.announcement (some ticket) (mask.truncate 4)) (chimeRecord s n))
                      | none => s.mix.generator } ∧
          relit s.lighting { s.lighting with alert := scene } t.lighting ∧
          t = { answered r rest .done [] s with announce := t.announce, mix := t.mix, lighting := t.lighting }

/-- A request at the queue (R136, R137, R139): it merges into a WAITING entry alike; while the path is held and not
preempted it is inserted in its rank, displaces the lowest-ranked WAITING entry of a full queue when its class is
better, and is dropped otherwise. A CLEARANCE request inserted over a lower class on the path preempts it: the old
entry waits again without its ticket, with one CLIP-CANCEL notice, and the CLEARANCE holds the path with the next
ticket and its scene in the ALERT layer. That the two changes of the path entry make one change of that layer, to the
new entry's scene, is the model's reading (notes/assumptions/14.md): R147 has the scene told at each change of the
path entry. -/
def Obligations.AnnounceQueueRules : Prop :=
  (∀ (e : Entry) (list : List Entry), ∃ before after, list = before ++ after ∧
    insertRanked e list = before ++ e :: after ∧ (∀ w ∈ before, ¬ ranksBefore e w) ∧
    ∀ w rest, after = w :: rest → ranksBefore e w) ∧
  ∀ (s : State) (q : AnnRequest) (e new : Entry), s.announce.path = some e → e.state ≠ .waiting →
    new = { cls := q.cls, clip := q.clip, mask := q.mask, origin := q.origin, scene := q.scene, state := .waiting,
            ticket := none, arrival := s.announce.nextArrival, chime := none, maxSeconds := 0 } →
    ((∃ w ∈ s.announce.waiting, w.clip = q.clip ∧ w.cls = q.cls) →
      announceRequest q s = { s with announce := { s.announce with waiting := s.announce.waiting.map fun w =>
        if w.clip = q.clip ∧ w.cls = q.cls then { w with mask := w.mask ||| q.mask } else w } }) ∧
    ((∀ w ∈ s.announce.waiting, ¬ (w.clip = q.clip ∧ w.cls = q.cls)) →
      (q.cls ≠ .clearance ∨ e.cls = .clearance) →
      (s.announce.waiting.length < 7 →
        announceRequest q s = { s with announce := { s.announce with
          waiting := insertRanked new s.announce.waiting, nextArrival := s.announce.nextArrival + 1 } }) ∧
      (∀ others worst, s.announce.waiting = others ++ [worst] → 7 ≤ s.announce.waiting.length →
        (q.cls.code < worst.cls.code →
          announceRequest q s = { notify (.announceDisplaced worst.cls worst.clip worst.origin) s with
            announce := { s.announce with
              waiting := insertRanked new others, nextArrival := s.announce.nextArrival + 1 } }) ∧
        (worst.cls.code ≤ q.cls.code →
          announceRequest q s = notify (.announceDropped q.cls q.clip q.origin) s))) ∧
    ((∀ w ∈ s.announce.waiting, w.cls ≠ .clearance ∧ ¬ (w.clip = e.clip ∧ w.cls = e.cls)) → q.cls = .clearance →
      e.cls ≠ .clearance → e.state ≠ .chimeOnly → s.announce.waiting.length < 7 → s.link.state = .up →
      ∃ p, (announceRequest q s).announce.path = some p ∧ p.cls = .clearance ∧ p.clip = q.clip ∧ p.mask = q.mask ∧
        p.arrival = s.announce.nextArrival ∧ p.ticket = some (nextTicket s.announce.tickets) ∧
        (announceRequest q s).announce.waiting = insertRanked
          { e with state := .waiting, ticket := none, chime := none, maxSeconds := 0 } s.announce.waiting ∧
        (announceRequest q s).manage = (notify (.clipCancel (e.ticket.getD 0)) s).manage ∧
        relit s.lighting { s.lighting with alert := q.scene } (announceRequest q s).lighting)

/-- CANCEL (R145, R146): by ticket, the running path entry that carries it ends with one CLIP-CANCEL notice and both
timers stop, and any other ticket is NOT-FOUND; by class, the WAITING entries of the class go without a notice, the
path entry of the class ends too, a chime-only one without a notice, and a class with no entry is NOT-FOUND. While the
link is UP, the best WAITING entry takes the path that a cancelled entry leaves, and a path left IDLE grants a
REQUESTED live (R129, R145). The ALERT layer is released with the path entry, and the lamps are resolved where it
changes (R147, R157). That an entry which leaves and the next which starts make one change of that layer is the
model's reading (notes/assumptions/14.md): R147 has the scene told at each change of the path entry and of the path
state to or from IDLE. Ticket 0 and a class outside the four are BAD-FIELD. -/
def Obligations.CancelRemovesEntries : Prop :=
  (∀ (s : State) (e : Entry), s.announce.path = some e → s.link.state = .up →
    entryEnded (if e.state = .chimeOnly then [] else [.clipCancel (e.ticket.getD 0)])
      (if e.state = .startingChime ∨ e.state = .chimeOnly then stopChime s else s) (cancelPath e s)) ∧
  ∀ (s : State) (r : Request) (rest : List Request) (b : Byte), headIs r rest s → r.kind = 5#8 →
    (r.params = [0#8, 0#8] → exec .cancelByTicket s = .next (answered r rest .badField [] s)) ∧
    (r.params = [0#8, b] → b ≠ 0#8 →
      (∀ e, s.announce.path = some e → e.state = .chimeOnly ∨ e.ticket ≠ some b.toNat) →
      exec .cancelByTicket s = .next (answered r rest .notFound [] s)) ∧
    (∀ e, r.params = [0#8, b] → b ≠ 0#8 → s.announce.path = some e → e.state ≠ .chimeOnly →
      e.ticket = some b.toNat →
      exec .cancelByTicket s = .next (addReply { tag := r.tag, kind := r.kind, code := .done, data := [] }
        (cancelPath e (setRequests rest s))) ∧
      (s.announce.waiting = [] → s.segment.live ≠ .requested → ∃ t, exec .cancelByTicket s = .next t ∧
        t.announce = { s.announce with path := none, startTimer := none, durationTimer := none } ∧
        t.mix = (if e.state = .startingChime then stopChime s else s).mix ∧
        relit s.lighting { s.lighting with alert := none } t.lighting ∧
        t.manage = (answered r rest .done [] (notify (.clipCancel b.toNat) s)).manage ∧
        t = { s with announce := t.announce, mix := t.mix, lighting := t.lighting, manage := t.manage })) ∧
    (r.params = [1#8, b] → 3 < b.toNat → exec .cancelByClass s = .next (answered r rest .badField [] s)) ∧
    (∀ cls, r.params = [1#8, b] → AnnClass.ofCode b.toNat = some cls →
      (∀ e, s.announce.path = some e → e.cls ≠ cls) →
      exec .cancelByClass s = .next
        { answered r rest (if (s.announce.waiting.any fun w => decide (w.cls = cls)) then .done else .notFound) [] s with
          announce := { s.announce with waiting := s.announce.waiting.filter fun w => decide (w.cls ≠ cls) } }) ∧
    (∀ cls e, r.params = [1#8, b] → AnnClass.ofCode b.toNat = some cls → s.announce.path = some e → e.cls = cls →
      exec .cancelByClass s = .next (addReply { tag := r.tag, kind := r.kind, code := .done, data := [] }
        (cancelPath e (setWaiting (s.announce.waiting.filter fun w => !decide (w.cls = cls))
          (setRequests rest s)))) ∧
      ((∀ w ∈ s.announce.waiting, w.cls = cls) → s.segment.live ≠ .requested →
        ∃ t, exec .cancelByClass s = .next t ∧
          t.announce = { s.announce with path := none, waiting := [], startTimer := none, durationTimer := none } ∧
          t.mix = (if e.state = .startingChime ∨ e.state = .chimeOnly then stopChime s else s).mix ∧
          relit s.lighting { s.lighting with alert := none } t.lighting ∧
          t.manage = (answered r rest .done []
            (if e.state = .chimeOnly then s else notify (.clipCancel (e.ticket.getD 0)) s)).manage ∧
          t = { s with announce := t.announce, mix := t.mix, lighting := t.lighting, manage := t.manage }))

/-- The announcement timers (R145): the start timer, run out, ends a STARTING-CLIP entry with CLIP-FAILED for reason
NO-START, the maximum-duration timer a PLAYING entry with CLIP-ENDED for reason TIMEOUT and CLIP-CANCEL; in any other
path state, and with time left, they change nothing. An END report for the ticket of an entry in STARTING-CLIP or
PLAYING ends it with CLIP-ENDED for reason END (R144), and the chime's end ends a CHIME-ONLY run (R150). The best
WAITING entry then takes the path, and a path left IDLE grants a REQUESTED live; the ALERT layer takes the scene of
the path entry, or none, and the lamps are resolved where it changes (R147, R157). The chime's end moves
STARTING-CHIME to STARTING-CLIP with the start timer at 250 ms (R142), and the first kept block of its ticket moves
STARTING-CLIP to PLAYING with the maximum-duration timer at its seconds (R143). That an entry which leaves and the
next which starts make one change of the ALERT layer is the model's reading (notes/assumptions/14.md): R147 has the
scene told at each change of the path entry and of the path state to or from IDLE. That an event the state rules out
changes nothing is the model's choice (notes/assumptions/6.md). -/
def Obligations.AnnouncementTimersEndEntry : Prop :=
  (∀ s : State, s.announce.path = none →
    exec .startTimerExpiry s = .next s ∧ exec .maximumDurationExpiry s = .next s ∧ chimeEnded s = s ∧
      ∀ ticket, blockKept ticket s = s ∧ endReported ticket s = s) ∧
  ∀ (s : State) (e : Entry), s.announce.path = some e →
    (e.state ≠ .startingClip ∨ s.announce.startTimer ≠ some 0 → exec .startTimerExpiry s = .next s) ∧
    (e.state ≠ .playing ∨ s.announce.durationTimer ≠ some 0 → exec .maximumDurationExpiry s = .next s) ∧
    (s.link.state = .up → ∀ (command : Instr) (notices : List Notice),
      ((command = .startTimerExpiry ∧ e.state = .startingClip ∧ s.announce.startTimer = some 0 ∧
          notices = [.clipFailed (e.ticket.getD 0) e.clip e.cls .noStart]) ∨
        (command = .maximumDurationExpiry ∧ e.state = .playing ∧ s.announce.durationTimer = some 0 ∧
          notices = [.clipEnded (e.ticket.getD 0) e.clip e.cls .timeout, .clipCancel (e.ticket.getD 0)])) →
      ∃ t, exec command s = .next t ∧ entryEnded notices s t) ∧
    (∀ ticket, (¬ ticketRuns s ticket → endReported ticket s = s) ∧
      (s.link.state = .up → ticketRuns s ticket →
        entryEnded [.clipEnded ticket e.clip e.cls .endMark] s (endReported ticket s))) ∧
    (e.state = .startingChime → chimeEnded s = { s with announce := { s.announce with
      path := some { e with state := .startingClip }, startTimer := some (Config.ms 250), durationTimer := none } }) ∧
    (e.state = .chimeOnly → s.link.state = .up → s.announce.startTimer = none → s.announce.durationTimer = none →
      entryEnded [] s (chimeEnded s)) ∧
    (e.state ≠ .startingChime → e.state ≠ .chimeOnly → chimeEnded s = s) ∧
    ∀ ticket,
      (e.state = .startingClip → e.ticket = some ticket → blockKept ticket s = { s with announce := { s.announce with
        path := some { e with state := .playing }, startTimer := none
        durationTimer := some (Config.ms (e.maxSeconds * 1000)) } }) ∧
      (e.state ≠ .startingClip ∨ e.ticket ≠ some ticket → blockKept ticket s = s)

/-! ### Live, lighting, limits -/

/-- LIVE (R128, R130): ON keeps of its mask the languages enabled and live-eligible; by the live state and the path it
changes the live mask, waits in REQUESTED with DEFERRED, or is granted with LIVE-GRANTED; a mask bit above 11 is
BAD-FIELD. The path is busy while it holds an entry in STARTING-CHIME, STARTING-CLIP or PLAYING, and while the chime
generator plays a chime-only clearance. OFF ends ON and REQUESTED with LIVE-ENDED and one retry, and from OFF changes
nothing. A LIVE OFF that falls together with an event in which a SEGMENT question may be asked, and is taken first,
has the event find live OFF, and the retry follows it (R133); with no such request at the head, the event's row is as
otherwise. At a FRAME_START that event is the handover, which may report a retry (R14, R127): the LIVE OFF's own retry
follows it, before the rest of the frame start's work. That the event's row says so, and that there are five such
rows, are the model's choice (notes/assumptions/4.md). -/
def Obligations.LiveRequestsByState : Prop :=
  (∀ s : State,
    ((∃ e, s.announce.path = some e ∧ (e.state = .startingChime ∨ e.state = .startingClip ∨ e.state = .playing)) ∨
      (∃ q mask, s.mix.generator = some q ∧ q.use = .announcement none mask) → pathBusy s = true) ∧
    ((∀ e, s.announce.path = some e → e.state = .chimeOnly) →
      (∀ q mask, s.mix.generator = some q → q.use ≠ .announcement none mask) → pathBusy s = false)) ∧
  (∀ (s : State) (row : Bool → Instr), segmentRow row →
    (∀ r rest high low, headIs r rest s → r.kind = 6#8 → r.params ≠ [1#8, high, low]) →
    exec (row true) s = exec (row false) s) ∧
  (∀ (s v : State) (reportFirst chimeFirst : Bool),
    v = reportWhen reportFirst { s with playout := { s.playout with frameTimer := 2 } } →
    ((∀ r rest high low, headIs r rest v → r.kind = 6#8 → r.params ≠ [1#8, high, low]) →
      exec (.frameStart reportFirst ⟨chimeFirst, true⟩) s = exec (.frameStart reportFirst ⟨chimeFirst, false⟩) s) ∧
    ∀ r rest high low, headIs r rest v → r.kind = 6#8 → r.params = [1#8, high, low] → ∃ w,
      exec (.frameStart reportFirst ⟨chimeFirst, true⟩) s = .next (reportWhen (!reportFirst)
        (endReport (endTicket (handOver v).1) (frameWork chimeFirst (handOver v).1 (addReply
          { tag := r.tag, kind := r.kind, code := .done, data := [] } w)))) ∧
      (s.segment.live = .off → w = (handOver (setRequests rest v)).2) ∧
      ∀ u, u = notify .liveEnded { setRequests rest v with
          segment := { s.segment with live := .off, liveMask := 0, heldMask := 0 } } →
        s.segment.live ≠ .off → w = retry (handOver u).2) ∧
  ∀ (s : State) (r : Request) (rest : List Request) (high low : Byte) (mask : LanguageMask), headIs r rest s →
    r.kind = 6#8 → mask = BitVec.ofNat 12 (high.toNat * 256 + low.toNat) &&& eligible s →
    (∀ i, (eligible s).getLsbD i = true ↔
      i < 12 ∧ ∃ e, s.seats.map[i]? = some e ∧ e.enabled = true ∧ e.liveEligible = true) ∧
    (r.params = [0#8, high, low] → 15 < high.toNat → exec .liveOn s = .next (answered r rest .badField [] s)) ∧
    (r.params = [0#8, high, low] → high.toNat ≤ 15 → s.segment.live = .on →
      exec .liveOn s = .next { answered r rest .done [] s with segment := { s.segment with liveMask := mask } }) ∧
    (r.params = [0#8, high, low] → high.toNat ≤ 15 → s.segment.live ≠ .on → pathBusy s = true →
      exec .liveOn s = .next { answered r rest .deferred [] s with
        segment := { s.segment with live := .requested, heldMask := mask } }) ∧
    (r.params = [0#8, high, low] → high.toNat ≤ 15 → s.segment.live ≠ .on → pathBusy s = false →
      exec .liveOn s = .next { answered r rest .done [] (notify (.liveGranted mask) s) with
        segment := { s.segment with live := .on, liveMask := mask, heldMask := 0 } }) ∧
    (r.params = [1#8, high, low] → s.segment.live = .off →
      exec .liveOff s = .next (answered r rest .done [] s)) ∧
    ∀ u, u = notify .liveEnded { setRequests rest s with
          segment := { s.segment with live := .off, liveMask := 0, heldMask := 0 } } →
      (r.params = [1#8, high, low] → s.segment.live ≠ .off →
        exec .liveOff s =
          .next (addReply { tag := r.tag, kind := r.kind, code := .done, data := [] } (retry u))) ∧
      ∀ row v, segmentRow row → r.params = [1#8, high, low] →
        (s.segment.live ≠ .off → exec (row false) u = .next v → exec (row true) s =
          .next (addReply { tag := r.tag, kind := r.kind, code := .done, data := [] } (retry v))) ∧
        (s.segment.live = .off → exec (row false) (setRequests rest s) = .next v → exec (row true) s =
          .next (addReply { tag := r.tag, kind := r.kind, code := .done, data := [] } v))

/-- SCENE-FORCE (R157 to R160): the FORCE layer takes the scene, or none for RELEASE, and every channel is resolved:
the highest of the layers ALERT, INDICATOR, FORCE, CUE and BASE that claims a channel governs it, and a new setting
begins a transition from the present level, or from the level before the changes of the same moment, one that gives
back the setting before them finding its transition as it stood (R166; the model's choice, notes/assumptions/25.md, as
is the period 0 of the INDICATOR setting and of one that none claims, notes/assumptions/28.md). A request that leaves
the layer as it was changes nothing; a value outside 0..15 and RELEASE is BAD-FIELD. -/
def Obligations.SceneForceSetsLayer : Prop :=
  ∀ (s : State) (r : Request) (rest : List Request) (b : Byte), headIs r rest s → r.kind = 7#8 → r.params = [b] →
    (16 ≤ b.toNat → b.toNat ≤ 254 → exec .sceneForce s = .next (answered r rest .badField [] s)) ∧
    (∀ scene, ((b.toNat ≤ 15 ∧ scene = some b.toNat) ∨ (b.toNat = 255 ∧ scene = none)) →
      (s.lighting.force = scene → exec .sceneForce s = .next (answered r rest .done [] s)) ∧
      (s.lighting.force ≠ scene → ∃ t, exec .sceneForce s = .next t ∧
        t.lighting = { s.lighting with force := scene, lamps := t.lighting.lamps } ∧
        resolvedFrom s.lighting.lamps t.lighting ∧ t = { answered r rest .done [] s with lighting := t.lighting }))

/-- LIMIT-CLEAR and the evaluation of a limit (R98 to R100): a named TRIPPED entry becomes CLEAR whatever its mode,
with its notice, and a CLEAR one is left; ALL clears every TRIPPED entry, each with its notice; an index of 8..254 is
BAD-INDEX. An in-use CLEAR limit trips above or below its threshold by its direction, and a TRIPPED one clears past
its hysteresis in TRANSPARENT mode only. A trip gives one LIMIT-TRIPPED notice with the value, forms the base scene
selection anew, which is reported to the BASE layer when it changes, with the resolution of every lamp channel, and
asks for the announcement its action names; a clear gives LIMIT-CLEARED and the selection. The selection is the scene
of the lowest-indexed in-use TRIPPED entry with action BASE-SCENE, or DEFAULT. That ALL goes by index is the model's
choice (notes/assumptions/13.md), and that the request may be kept for later its reading (notes/assumptions/4.md). -/
def Obligations.LimitsTripAndClear : Prop :=
  (∀ (s : State) (r : Request) (rest : List Request) (b : Byte), headIs r rest s → r.kind = 9#8 → r.params = [b] →
    (8 ≤ b.toNat → b.toNat ≠ 255 → exec .limitClear s = .next (answered r rest .badIndex [] s)) ∧
    (∀ x, b.toNat ≤ 7 → s.sense.limits[b.toNat]? = some x →
      (x.tripped = false → exec .limitClear s = .next (answered r rest .done [] s)) ∧
      (x.tripped = true → ∃ t, exec .limitClear s = .next t ∧
        t.sense.limits = s.sense.limits.set b.toNat { x with tripped := false } ∧
        t.sense.selection = baseSelection t.sense.limits ∧
        t.manage = (answered r rest .done [] (notify (.limitCleared b.toNat) s)).manage ∧
        (t.sense.selection = s.sense.selection → t.lighting = s.lighting) ∧
        (t.sense.selection ≠ s.sense.selection →
          relit s.lighting { s.lighting with base := t.sense.selection } t.lighting) ∧
        t = { s with sense := { s.sense with limits := t.sense.limits, selection := t.sense.selection }
                     manage := t.manage, lighting := t.lighting })) ∧
    (b.toNat = 255 → s.sense.limits.length = 8 → ∃ t, exec .limitClear s = .next t ∧
      t.sense.limits = s.sense.limits.map (fun x => { x with tripped := false }) ∧
      t = { s with sense := { s.sense with limits := t.sense.limits, selection := t.sense.selection }
                   manage := t.manage, lighting := t.lighting } ∧ t.manage.requests = rest ∧
      t.manage = (answered r rest .done [] (notifyAll ((List.range 8).filterMap fun i =>
        if (s.sense.limits[i]?).map Limit.tripped = some true then some (.limitCleared i) else none) s)).manage ∧
      (s.sense.selection = baseSelection s.sense.limits → t.sense.selection = none ∧
        (s.sense.selection = none → t.lighting = s.lighting) ∧
        (s.sense.selection ≠ none → t.lighting.base = none ∧
          t.lighting = { s.lighting with base := none, lamps := t.lighting.lamps } ∧
          (s.lighting.base = s.sense.selection → ∀ (c : Nat) (y : Lamp), t.lighting.lamps[c]? = some y →
            y.setting = governing t.lighting c ∧ governs t.lighting c y.setting))))) ∧
  (∀ (s : State) (i v : Nat) (x : Limit), s.sense.limits[i]? = some x →
    (trips x v = false → clears x v = false → ∀ defer, evaluateLimit defer i v s = (s, [])) ∧
    ∀ now, (trips x v = true ∧ now = true ∨ trips x v = false ∧ clears x v = true ∧ now = false) →
      ∃ u asks, limitChanges i v x now s u ∧
        (∀ clip cls mask, now = true → x.action = .announce clip cls mask →
          asks = [{ cls := cls, clip := clip, mask := mask, origin := .limit i, scene := none }]) ∧
        (now = false ∨ (∀ clip cls mask, x.action ≠ .announce clip cls mask) → asks = []) ∧
        evaluateLimit true i v s = (u, asks) ∧
        evaluateLimit false i v s = (asks.foldl (fun w q => announceRequest q w) u, [])) ∧
  (∀ (limits : List Limit) (n : Nat), baseSelection limits = some n ↔
    ∃ (i : Nat) (x : Limit), limits[i]? = some x ∧ x.inUse = true ∧ x.tripped = true ∧ x.action = .baseScene n ∧
      ∀ (j : Nat) (y : Limit) (m : Nat), j < i → limits[j]? = some y → y.action = .baseScene m →
        y.inUse = false ∨ y.tripped = false) ∧
  ∀ (x : Limit) (v : Nat),
    (trips x v = true ↔ x.tripped = false ∧
      ((x.direction = .over ∧ x.threshold < v) ∨ (x.direction = .under ∧ v < x.threshold))) ∧
    (v ≤ 65535 → x.threshold ≤ 65535 →
      (clears x v = true ↔ x.tripped = true ∧ x.mode = .transparent ∧
        ((x.direction = .over ∧ (v : Int) ≤ max 0 ((x.threshold : Int) - x.hysteresis)) ∨
          (x.direction = .under ∧ min 65535 (x.threshold + x.hysteresis) ≤ v))))

/-- Fade steps and flash halves (R161, R162): step i of k gives L0 + trunc((target - L0) * i / k), the last step
exactly the target, and then STEADY or the lit half; a flash half flips between the target and 0 for half the period.
A lamp without such a step or half, or whose step or half has time left, and every other lamp, is left. That an event
the state rules out changes nothing, and the mark of a transition's moment, are the model's choice
(notes/assumptions/6.md, 25.md). -/
def Obligations.LampTimersStepAndFlip : Prop :=
  ∀ (s : State) (c : Fin 8) (x : Lamp), s.lighting.lamps[c.val]? = some x →
    (∀ start k i, x.transition = .fading start k i 0 → start ≤ 1000 → x.setting.target ≤ 1000 →
      (i + 1 < k → ∃ level : Nat, (level : Int) = start + (((x.setting.target : Int) - start) * (i + 1 : Nat)).tdiv k ∧
        min start x.setting.target ≤ level ∧ level ≤ max start x.setting.target ∧
        exec (.fadeStep c) s = .next { s with lighting := { s.lighting with
          lamps := s.lighting.lamps.set c { x with
            level := level, transition := .fading start k (i + 1) 10, began := none } } }) ∧
      (i + 1 = k → exec (.fadeStep c) s = .next { s with lighting := { s.lighting with
        lamps := s.lighting.lamps.set c { x with
          level := x.setting.target
          transition := match x.setting.pattern with
            | .steady => .steady
            | .flash => .flashOn (x.setting.period / 2)
          began := none } } })) ∧
    (x.transition = .flashOn 0 → exec (.flashHalfExpiry c) s = .next { s with lighting := { s.lighting with
      lamps := s.lighting.lamps.set c { x with
        level := 0, transition := .flashOff (x.setting.period / 2), began := none } } }) ∧
    (x.transition = .flashOff 0 → exec (.flashHalfExpiry c) s = .next { s with lighting := { s.lighting with
      lamps := s.lighting.lamps.set c { x with
        level := x.setting.target, transition := .flashOn (x.setting.period / 2), began := none } } }) ∧
    ((∀ start k i, x.transition ≠ .fading start k i 0) → exec (.fadeStep c) s = .next s) ∧
    (x.transition ≠ .flashOn 0 → x.transition ≠ .flashOff 0 → exec (.flashHalfExpiry c) s = .next s)

/-! ### The sense unit -/

/-- SENSE START and STOP (R86 to R88): in any state a conversion in flight is abandoned with no result; STOP enters
IDLE; START takes the mode and enters DELAY for the delay in units of 10 ms, and with delay 0 begins at once at the
lowest enabled channel, or waits where none is enabled. A mode outside the set is BAD-FIELD. -/
def Obligations.SenseStartAndStop : Prop :=
  ∀ (s : State) (r : Request) (rest : List Request) (m d : Byte), headIs r rest s → r.kind = 8#8 →
    (r.params = [1#8, m, d] →
      exec .senseStop s = .next { answered r rest .done [] s with sense := { s.sense with scan := .idle } }) ∧
    (r.params = [0#8, m, d] → 2 ≤ m.toNat → exec .senseStart s = .next (answered r rest .badField [] s)) ∧
    (∀ mode, r.params = [0#8, m, d] → ScanMode.ofCode m.toNat = some mode →
      (d ≠ 0#8 → exec .senseStart s = .next { answered r rest .done [] s with
        sense := { s.sense with mode := mode, scan := .delay (Config.ms (d.toNat * 10)) } }) ∧
      (d = 0#8 → (∀ x ∈ s.sense.channels, x.enabled = false) →
        exec .senseStart s = .next { answered r rest .done [] s with
          sense := { s.sense with mode := mode, scan := .scanWait } }) ∧
      (∀ c record, d = 0#8 → s.sense.channels[chanNumber c]? = some record → record.enabled = true →
        (∀ i x, i < chanNumber c → s.sense.channels[i]? = some x → x.enabled = false) →
        exec .senseStart s = .next { answered r rest .done [] s with
          sense := { s.sense with
            mode := mode
            scan := .converting { channel := c, settings := record, gateOpen := false, edges := 0, ticks := 0,
                                  waited := 0 } } }))

/-- The scan's own events (R85, R87, R89, R90, R95): the start delay's expiry, with no time left, begins at the lowest
enabled channel; an input edge reaches only a conversion of its channel, where a REF-GATE counts it while its gate is
open and an INPUT-GATE opens with the first and counts the later ones up to N; a result whose age has reached the
limit is unordered, a fresh VALID one is not, and RESULT_STALE itself moves nothing (notes/assumptions/12.md). An
odometer edge that the conversion takes too is the sense unit's edge, as SENSE_INPUT_EDGE gives it, and then the route
engine's (the command's operand is the model's choice, notes/assumptions/4.md). That an edge opens the INPUT-GATE as
INPUT_GATE_OPEN does is the model's reading (notes/assumptions/11.md), and that an event the state rules out changes
nothing its choice (notes/assumptions/6.md). A LIVE OFF that falls together with the event and is taken first stands
in LiveRequestsByState. -/
def Obligations.ScanEventsAct : Prop :=
  ∀ (s : State) (c : SenseChan),
    (∀ record, s.sense.scan = .delay 0 → s.sense.channels[chanNumber c]? = some record →
      record.enabled = true → (∀ i x, i < chanNumber c → s.sense.channels[i]? = some x → x.enabled = false) →
      exec .startDelayExpiry s = .next { s with sense := { s.sense with
        scan := .converting { channel := c, settings := record, gateOpen := false, edges := 0, ticks := 0,
                              waited := 0 } } }) ∧
    (s.sense.scan = .delay 0 → (∀ x ∈ s.sense.channels, x.enabled = false) →
      exec .startDelayExpiry s = .next { s with sense := { s.sense with scan := .scanWait } }) ∧
    (s.sense.scan ≠ .delay 0 → exec .startDelayExpiry s = .next s) ∧
    (∀ k, s.sense.scan = .converting k →
      (k.channel ≠ c → exec (.senseInputEdge c) s = .next s) ∧
      (k.channel = c → k.settings.gateMode = .refGate → k.gateOpen = true →
        exec (.senseInputEdge c) s = .next { s with sense := { s.sense with
          scan := .converting { k with edges := min (k.edges + 1) 16777215 } } }) ∧
      (k.channel = c → k.settings.gateMode = .refGate → k.gateOpen = false →
        exec (.senseInputEdge c) s = .next s) ∧
      (k.channel = c → k.settings.gateMode = .inputGate → k.gateOpen = true →
        exec (.senseInputEdge c) s = .next { s with sense := { s.sense with
          scan := .converting { k with edges := min (k.edges + 1) k.settings.edgeCount } } }) ∧
      (k.channel = c → k.settings.gateMode = .inputGate → k.gateOpen = false →
        exec (.senseInputEdge c) s = exec .inputGateOpen s) ∧
      (k.settings.gateMode = .inputGate → k.gateOpen = false →
        exec .inputGateOpen s = .next { s with sense := { s.sense with
          scan := .converting { k with gateOpen := true, edges := 0, ticks := 0 } } }) ∧
      (k.settings.gateMode = .refGate ∨ k.gateOpen = true → exec .inputGateOpen s = .next s)) ∧
    ((∀ k, s.sense.scan ≠ .converting k) →
      exec (.senseInputEdge c) s = .next s ∧ exec .inputGateOpen s = .next s) ∧
    exec (.resultStale c) s = .next s ∧
    (∀ record r, s.sense.channels[chanNumber c]? = some record → s.sense.results[chanNumber c]? = some r →
      (r.present = true → Config.ms record.staleness ≤ r.age → orderedAverage (chanNumber c) s = none) ∧
      (r.present = true → r.age < Config.ms record.staleness → r.avgPresent = true → r.avgValid = true →
        orderedAverage (chanNumber c) s = some r.avgValue)) ∧
    ∃ u, exec (.senseInputEdge .odo) s = .next u ∧ u = { s with sense := { s.sense with scan := u.sense.scan } } ∧
      exec (.odometerEdge ⟨true, false⟩) s = exec (.odometerEdge ⟨false, false⟩) u

/-- The ends of a conversion (R40, R87, R89 to R93, R96, R98, R114): a REF-GATE close, once the gate has been open for
its G ticks, gives the result of its edges, an INPUT-GATE close the result of the ticks its gate was open, and the
wait limit reached first the valid timed-out 0; LREF sets the reference record of its own gate mode. The limits on the
channel are evaluated by index, each with its notice, the selection and the lamps it changes, and then the route
engine has the report; the announcements that limits ask for are sent as each trips, or, by the operand, after those
of the cues (R96, R99). The scan then goes on with the lowest enabled channel above, or is IDLE in SINGLE, or begins
again at the lowest enabled one in CONTINUOUS, or waits. In the other gate mode, before the gate has been open for G
ticks or the wait counter has reached W, with the gate not open, or without a conversion, the event changes nothing.
The two operands, that each trip or clear is acted on before the next limit is evaluated, the case of a close on the
W-th tick itself, and that an event the state rules out changes nothing, are the model's choice
(notes/assumptions/4.md, 30.md, 11.md, 6.md). A LIVE OFF that falls together with the event and is
taken first stands in LiveRequestsByState. -/
def Obligations.ConversionsStoreResults : Prop :=
  ∀ (s : State) (cuesFirst : Bool),
    ((∀ k, s.sense.scan ≠ .converting k) → exec (.refGateClose ⟨cuesFirst, false⟩) s = .next s ∧
      exec (.waitLimitTimeout ⟨cuesFirst, false⟩) s = .next s ∧
      ∀ n, exec (.inputGateClose n ⟨cuesFirst, false⟩) s = .next s) ∧
    (∀ k record, s.sense.scan = .converting k → s.sense.channels[chanNumber k.channel]? = some record →
      (k.settings.gateMode = .refGate →
        (k.gateOpen = true → k.settings.gateLength ≤ k.ticks →
          conversionEnds s k cuesFirst record.averaging (refGateResult k s)
            (if k.channel = .lref then .counts k.edges k.settings.gateLength else s.sense.refGateRecord)
            s.sense.inputGateRecord (exec (.refGateClose ⟨cuesFirst, false⟩) s)) ∧
        (k.gateOpen = false ∨ k.ticks < k.settings.gateLength → exec (.refGateClose ⟨cuesFirst, false⟩) s = .next s) ∧
        exec (.waitLimitTimeout ⟨cuesFirst, false⟩) s = .next s ∧
        ∀ n, exec (.inputGateClose n ⟨cuesFirst, false⟩) s = .next s) ∧
      (k.settings.gateMode = .inputGate →
        (k.settings.waitLimit ≤ k.waited →
          conversionEnds s k cuesFirst record.averaging timedOutZero s.sense.refGateRecord
            (if k.channel = .lref then .zero else s.sense.inputGateRecord)
            (exec (.waitLimitTimeout ⟨cuesFirst, false⟩) s)) ∧
        (k.waited < k.settings.waitLimit → exec (.waitLimitTimeout ⟨cuesFirst, false⟩) s = .next s) ∧
        exec (.refGateClose ⟨cuesFirst, false⟩) s = .next s ∧
        (k.gateOpen = false → ∀ n, exec (.inputGateClose n ⟨cuesFirst, false⟩) s = .next s) ∧
        (k.gateOpen = true → ∀ n,
          (k.waited + n ≤ k.settings.waitLimit →
            conversionEnds s k cuesFirst record.averaging (inputGateResult k (k.ticks + n) s) s.sense.refGateRecord
              (if k.channel = .lref then .counts k.settings.edgeCount (max (k.ticks + n) 1)
                else s.sense.inputGateRecord)
              (exec (.inputGateClose n ⟨cuesFirst, false⟩) s)) ∧
          (k.settings.waitLimit < k.waited + n →
            conversionEnds s k cuesFirst record.averaging timedOutZero s.sense.refGateRecord
              (if k.channel = .lref then .zero else s.sense.inputGateRecord)
              (exec (.inputGateClose n ⟨cuesFirst, false⟩) s)))))

/-- The formulas of the results (R91): products and quotients exact, floored, and clamped to a valid 0..65535; a tick
count of 0 is taken as 1 (R90). A LUX result is paired with the reference record of its own gate mode, and is INVALID
with value 0 and the MATH mark where that record is EMPTY, ZERO or has a count of 0 (R92). -/
def Obligations.ResultFormulas : Prop :=
  ∀ (s : State) (k : Conversion) (t : Nat) (o p : Outcome), o = refGateResult k s → p = inputGateResult k t s →
    (k.channel ≠ .lux → o.valid = true ∧ o.timedOut = false ∧ o.math = false ∧
      p.valid = true ∧ p.timedOut = false ∧ p.math = false) ∧
    (k.channel = .odo →
      o.value = min (k.edges * k.settings.pulse * 32768 / (100 * k.settings.gateLength)) 65535 ∧
      p.value = min (k.settings.edgeCount * k.settings.pulse * 32768 / (100 * max t 1)) 65535) ∧
    (k.channel = .nfwd ∨ k.channel = .naft →
      o.value = min (k.edges * 32768 / k.settings.gateLength) 65535 ∧
      p.value = min (k.settings.edgeCount * 32768 / max t 1) 65535) ∧
    (k.channel = .lref → o.value = min k.edges 65535 ∧ p.value = min (k.settings.edgeCount * 32768 / max t 1) 65535) ∧
    (k.channel = .lux →
      (∀ n g, s.sense.refGateRecord = .counts n g → n ≠ 0 → o =
        { value := min (1000 * k.edges * g / (n * k.settings.gateLength)) 65535, valid := true, timedOut := false
          math := false }) ∧
      ((∀ n g, s.sense.refGateRecord = .counts n g → n = 0) →
        o = { value := 0, valid := false, timedOut := false, math := true }) ∧
      (∀ n u, s.sense.inputGateRecord = .counts n u → n ≠ 0 → u ≠ 0 → p =
        { value := min (1000 * k.settings.edgeCount * u / (max t 1 * n)) 65535, valid := true, timedOut := false
          math := false }) ∧
      ((∀ n u, s.sense.inputGateRecord = .counts n u → n = 0 ∨ u = 0) →
        p = { value := 0, valid := false, timedOut := false, math := true }))

/-- The averaging block (R94): a result joins the sum and the count; the k-th completes the block with the floor of
the mean, or with an INVALID 0 where a result of the block was invalid, and the block is empty again. -/
def Obligations.AveragingBlocks : Prop :=
  ∀ (k : Nat) (o : Outcome) (r x : ResultRec) (completed : Bool), (x, completed) = storeResult k o r →
    x.present = true ∧ x.value = o.value ∧ x.valid = o.valid ∧ x.timedOut = o.timedOut ∧ x.math = o.math ∧ x.age = 0 ∧
    (r.blockCount + 1 < k → completed = false ∧ x.blockCount = r.blockCount + 1 ∧
      x.blockSum = r.blockSum + o.value ∧ x.blockInvalid = (r.blockInvalid || !o.valid) ∧
      x.avgPresent = r.avgPresent ∧ x.avgValue = r.avgValue ∧ x.avgValid = r.avgValid) ∧
    (k ≤ r.blockCount + 1 → completed = true ∧ x.blockCount = 0 ∧ x.blockSum = 0 ∧ x.blockInvalid = false ∧
      x.avgPresent = true ∧ x.avgValid = (!r.blockInvalid && o.valid) ∧
      x.avgValue = if r.blockInvalid = false ∧ o.valid = true then (r.blockSum + o.value) / k else 0)

/-! ### The seat lines -/

/-- A poll round (R65, R66): on an AWAKE line without a transaction it passes the boxes that are not due, each with
one round more up to 63, and begins the first due box's transaction, IDENT for an ABSENT box and STATUS otherwise;
with no box due it waits for the rest of its 4 ms. The interval is 16 rounds for ABSENT, 1 for ACTIVE, 2 for SUSPECT
and 64 for ISOLATED. After those the next round stands ready, and it begins no earlier: with an address left to serve
or time left of the 4 ms, the row changes nothing. The round after a wake pulse, whose first header waits for the pair
to return high, keeps the 4 ms the wake began (R76). The form of the round position, that the row stands for the
pair's return, and that an event the state rules out changes nothing are the model's choice (notes/assumptions/6.md,
9.md, 26.md). -/
def Obligations.PollRoundServesDueBoxes : Prop :=
  (interval .absent = 16 ∧ interval .active = 1 ∧ interval .suspect = 2 ∧ interval .isolated = 64) ∧
  ∀ (s : State) (l : Fin 4) (x : Line) (left : Nat), s.lines.lines[l.val]? = some x → x.boxes.length = 12 →
    left = (if x.pairLow then x.roundLeft else Config.ms 4) →
    (x.state = .sleeping ∨ x.transaction ≠ none ∨ (x.roundNext ≠ 0 ∧ (x.roundNext < 12 ∨ x.roundLeft ≠ 0)) →
      exec (.pollRoundBegin l) s = .next s) ∧
    (∀ b box, x.state = .awake → x.transaction = none →
      (x.roundNext = 0 ∨ (12 ≤ x.roundNext ∧ x.roundLeft = 0)) → x.boxes[b]? = some box →
      interval box.state ≤ box.rounds + 1 →
      (∀ i y, i < b → x.boxes[i]? = some y → y.rounds + 1 < interval y.state) →
      exec (.pollRoundBegin l) s = .next (putLine l { x with
          roundNext := b + 1
          roundLeft := left
          pairLow := false
          boxes := x.boxes.mapIdx fun i y => if i < b then { y with rounds := min (y.rounds + 1) 63 } else y
          transaction := some { box := b, kind := if box.state = .absent then .ident else .status, mode := x.mode
                                turnState := box.state, low := false
                                sent := [headerChar b (if box.state = .absent then .ident else .status)] } } s)) ∧
    (x.state = .awake → x.transaction = none → (x.roundNext = 0 ∨ (12 ≤ x.roundNext ∧ x.roundLeft = 0)) →
      (∀ y ∈ x.boxes, y.rounds + 1 < interval y.state) →
      exec (.pollRoundBegin l) s = .next (putLine l { x with
        roundNext := if left = 0 then 0 else 12
        roundLeft := if left = 0 then Config.ms 4 else left
        pairLow := false
        boxes := x.boxes.map fun y => { y with rounds := min (y.rounds + 1) 63 } } s)) ∧
    (x.state = .awake → x.transaction = none → 12 ≤ x.roundNext → x.roundLeft = 0 →
      exec (.roundTimerExpiry l) s = .next (putLine l { x with roundNext := 0, roundLeft := Config.ms 4 } s)) ∧
    (x.state = .sleeping ∨ x.transaction ≠ none ∨ x.roundNext < 12 ∨ x.roundLeft ≠ 0 →
      exec (.roundTimerExpiry l) s = .next s)

/-- A failed transaction (R63, R64, R67, R69): one failure of the kind of the first test that applies, counted on the
line but for a NO-RESPONSE on an IDENT; a STATUS or DISPLAY raises the box's fault count by 4 up to 31 and may change
its state by the table, with a BOX-STATE notice; a DISPLAY whose echo failed is pending again. A counter rises by 1
and stays at 65535 (R56). A failed STATUS at a box ACTIVE before and after, with its display pending and no sleep
pending, is followed by the DISPLAY (R66, R74); otherwise the turn ends: the box's rounds-since-poll is 0, and the
round goes on with the next due box, or waits for its end, or the line enters SLEEPING where a sleep is pending (R65,
R75). The mark of a pair held low is the model's reading (notes/assumptions/10.md). -/
def Obligations.FailedTransactionsCountOnce : Prop :=
  (∀ x : Line, countFailure .noResponse x = { x with noResponses := min (x.noResponses + 1) 65535 } ∧
    countFailure .check x = { x with checkFailures := min (x.checkFailures + 1) 65535 } ∧
    countFailure .framing x = { x with framingFailures := min (x.framingFailures + 1) 65535 } ∧
    countFailure .echo x = { x with echoFailures := min (x.echoFailures + 1) 65535 }) ∧
  ∀ (s : State) (l : Fin 4) (tx : Transaction) (x : Box) (c : Instr) (f : LineFailure) (count : Nat)
    (counted : Bool), lineTablesSized s → (lineAt s l).transaction = some tx → tx.box < 12 → x = boxAt s l tx.box →
    ((c = .answerWindowExpiry l ∧ tx.kind ≠ .display ∧ f = (if tx.low then .framing else .noResponse)) ∨
      (c = .echo l ∧ f = .echo) ∨ (c = .displayTransactionEnd l ∧ tx.kind = .display ∧ tx.low = true ∧ f = .framing) ∨
      (∃ answer, c = .statusTransactionEnd l answer ∧ tx.kind = .status ∧ judgeAnswer tx 4 answer = some f) ∨
      (∃ answer, c = .identTransactionEnd l answer ∧ tx.kind = .ident ∧ (judgeAnswer tx 6 answer = some f ∨
        (judgeAnswer tx 6 answer = none ∧ byteAt (answer.map charByte) 2 ≠ 1 ∧ byteAt (answer.map charByte) 2 ≠ 2 ∧
          f = .check)))) →
    count = min (x.faultCount + 4) 31 → counted = decide (tx.kind ≠ .ident ∧ x.state ≠ .absent) →
    ∃ t, exec c s = .next t ∧
      failureCounters (lineAt t l) = failureCounters
        (if tx.kind = .ident ∧ f = .noResponse then lineAt s l else countFailure f (lineAt s l)) ∧
      (boxAt t l tx.box).faultCount = (if counted then count else x.faultCount) ∧
      (boxAt t l tx.box).state = (if counted then stateAfterFailure x.state count else x.state) ∧
      (tx.kind = .display → f = .echo → (boxAt t l tx.box).displayPending = true) ∧
      (∀ y z, z = { x with
          faultCount := if counted then count else x.faultCount
          state := if counted then stateAfterFailure x.state count else x.state
          displayPending := if tx.kind = .display ∧ f = .echo then true else x.displayPending } →
        y = { (if tx.kind = .ident ∧ f = .noResponse then lineAt s l else countFailure f (lineAt s l)) with
          boxes := (lineAt s l).boxes.set tx.box z } →
        (tx.kind = .status ∧ tx.turnState = .active ∧ z.state = .active ∧ x.displayPending = true ∧
          (lineAt s l).sleepPending = false → displayBegun l tx.box tx.turnState s y (lineAt t l)) ∧
        (tx.kind ≠ .status ∨ tx.turnState ≠ .active ∨ z.state ≠ .active ∨ x.displayPending = false ∨
          (lineAt s l).sleepPending = true → turnEnds tx.box y (lineAt t l))) ∧
      t.manage = (if counted = true ∧ stateAfterFailure x.state count ≠ x.state then
        notify (.boxState l tx.box (stateAfterFailure x.state count) count) s else s).manage ∧
      otherLinesStay l s t ∧ t = { s with lines := t.lines, manage := t.manage }

/-- The judgement of an answer (R60, R64): a pair held low, a missing stop bit, a ninth bit of 1 or a wrong number of
characters is FRAMING; then a check that differs from the sum XOR 0xA5 over the data, and over the header byte before
it in FULL, is CHECK; otherwise the answer passes. A header holds the address in its low four bits, the kind above
them, a bit that makes the ones of the eight odd, and the ninth bit 1 (R59, R186). -/
def Obligations.AnswersAreJudgedInOrder : Prop :=
  (∀ (box : Nat) (kind : TxKind), box < 12 → (headerByte box kind).toNat % 16 = box ∧
    (headerByte box kind).toNat / 16 % 8 = (match kind with | .status => 0 | .display => 1 | .ident => 2) ∧
    ((List.range 8).countP fun i => (headerByte box kind).getLsbD i) % 2 = 1 ∧
    (headerChar box kind).toNat = 256 + (headerByte box kind).toNat) ∧
  (∀ c : LineChar, (charByte c).toNat = c.bits.toNat % 256) ∧
  ∀ (tx : Transaction) (data : Nat) (answer : List LineChar),
    (judgeAnswer tx data answer = none ↔ goodAnswer tx data answer) ∧
    (judgeAnswer tx data answer = some .framing ↔ (tx.low = true ∨ answer.length ≠ data + 1 ∨
      ∃ c ∈ answer, c.stopHigh = false ∨ c.bits.getLsbD 8 = true)) ∧
    (∀ f, judgeAnswer tx data answer = some f → f = .framing ∨ f = .check) ∧
    ∀ bytes : List Byte,
      (lineCheck .short tx.box tx.kind bytes).toNat = (bytes.map BitVec.toNat).sum % 256 ^^^ 0xA5 ∧
      (lineCheck .full tx.box tx.kind bytes).toNat =
        ((headerByte tx.box tx.kind).toNat + (bytes.map BitVec.toNat).sum) % 256 ^^^ 0xA5

/-- A successful STATUS (R25 to R29, R67, R70 to R72), read by the layout of section 11.6: the fault count falls by 1,
or is set to 16 from ISOLATED, with the state of the table; both sides are delivered to their seats, as a baseline
while that is pending; a jack PRESENT on a fitted side restarts the quiet timer; a stop delta makes one stop request,
which targets the lowest-index STOP-ARRIVAL cue that is left while the route is not STOPPED and no stop is requested
(R120), and one seat beep request, dropped while an announcement chime plays (R55); the box-fault is compared. One
BOX-STATE notice tells a change of state, and one BOX-FAULT notice a change of the box-fault (R69, R72). A seat that
takes another language or volume step marks the box display pending, and the DISPLAY that follows in the same turn,
with its characters by R63, clears the mark: at a box ACTIVE before and after, or SUSPECT at its turn, while no sleep
is pending (R31, R66, R74). With none, the turn ends: the rounds-since-poll is 0, and the round goes on, or the line
enters SLEEPING with a sleep pending (R65, R75). The mark of each change, a value passed through on the way included,
is the model's reading (notes/assumptions/14.md); that a beep which comes together with a stop of the announcement
sequence, and before it, is dropped by the table of R55, its choice (notes/assumptions/29.md). -/
def Obligations.StatusDeliversBothSides : Prop :=
  (∀ new last : BitVec 4, delta true new last = 0 ∧ delta false new last = (new.toNat + 16 - last.toNat) % 16) ∧
  (∀ (b : List Byte) (a : StatusAnswer), a = decodeStatus b →
    a.sideA.language.toNat = byteAt b 0 % 16 ∧ a.sideA.up.toNat = byteAt b 0 / 16 ∧
    a.sideA.down.toNat = byteAt b 1 % 16 ∧ a.sideB.language.toNat = byteAt b 1 / 16 ∧
    a.sideB.up.toNat = byteAt b 2 % 16 ∧ a.sideB.down.toNat = byteAt b 2 / 16 ∧ a.stop.toNat = byteAt b 3 % 16 ∧
    (a.sideA.jack = true ↔ byteAt b 3 / 16 % 2 = 1) ∧ (a.sideB.jack = true ↔ byteAt b 3 / 32 % 2 = 1) ∧
    (a.boxFault = true ↔ byteAt b 3 / 64 % 2 = 1)) ∧
  (∀ (s : State) (l b : Nat),
    (s.route.state = .stopped ∨ s.route.requested ≠ none → stopPress l b s = s) ∧
    ((∀ c ∈ s.route.cues, ¬ stopTargets c) → stopPress l b s = s) ∧
    (∀ i c, s.route.state ≠ .stopped → s.route.requested = none → s.route.cues[i]? = some c → stopTargets c →
      (∀ j d, j < i → s.route.cues[j]? = some d → ¬ stopTargets d) →
      stopPress l b s = notify (.stopRequested c.stop i l b)
        { s with route := { s.route with requested := some { stop := c.stop, cue := i } } }) ∧
    (∀ q ticket mask, s.mix.generator = some q → q.use = .announcement ticket mask → requestBeep l b s = s) ∧
    ((∀ q ticket mask, s.mix.generator = some q → q.use ≠ .announcement ticket mask) →
      requestBeep l b s = { s with mix := { s.mix with
        generator := some (sequenceOf (.beep l b) (chimeRecord s s.lighting.params.beepChime)) } })) ∧
  ∀ (s : State) (l : Fin 4) (tx : Transaction) (x : Box) (answer : List LineChar) (a : StatusAnswer)
    (now : BoxState) (count : Nat) (headset marked shown : Prop),
    lineTablesSized s → (lineAt s l).transaction = some tx → tx.kind = .status → tx.box < 12 →
    x = boxAt s l tx.box → x.state ≠ .absent → goodAnswer tx 4 answer → a = decodeStatus (answer.map charByte) →
    count = (if x.state = .isolated then 16 else x.faultCount - 1) →
    now = (match x.state with
      | .suspect => if x.faultCount - 1 < 8 then .active else .suspect
      | .isolated => .suspect
      | other => other) →
    (headset ↔ (a.sideA.jack = true ∧ (seatAt s (seatNumber l tx.box 0)).fitted = true) ∨
      (a.sideB.jack = true ∧ (seatAt s (seatNumber l tx.box 1)).fitted = true)) →
    (marked ↔ x.displayPending = true ∨
      sideMarks s.seats.map s.mix.params.defaultStep x.baselinePending a.sideA (seatAt s (seatNumber l tx.box 0)) ∨
      sideMarks s.seats.map s.mix.params.defaultStep x.baselinePending a.sideB (seatAt s (seatNumber l tx.box 1))) →
    (shown ↔ marked ∧ ((tx.turnState = .active ∧ now = .active) ∨ tx.turnState = .suspect) ∧
      ((lineAt s l).sleepPending = true → headset)) →
    ∃ t, exec (.statusTransactionEnd l answer) s = .next t ∧
      t.seats = { s.seats with
        seats := (s.seats.seats.modify (seatNumber l tx.box 0)
            (seatAfter s.seats.map s.mix.params.defaultStep x.baselinePending a.sideA)).modify
              (seatNumber l tx.box 1)
              (seatAfter s.seats.map s.mix.params.defaultStep x.baselinePending a.sideB) } ∧
      (boxAt t l tx.box).faultCount = count ∧ (boxAt t l tx.box).state = now ∧
      (boxAt t l tx.box).baselinePending = false ∧ (boxAt t l tx.box).lastStop = a.stop ∧
      (boxAt t l tx.box).boxFault = a.boxFault ∧ failureCounters (lineAt t l) = failureCounters (lineAt s l) ∧
      (headset → (lineAt t l).quiet = some (Config.ms 60000) ∧ (lineAt t l).sleepPending = false) ∧
      (x.baselinePending = true ∨ a.stop = x.lastStop → t.route = s.route ∧ t.mix = s.mix) ∧
      (x.baselinePending = false → a.stop ≠ x.lastStop →
        t.route = (stopPress l tx.box s).route ∧ t.mix = (requestBeep l tx.box s).mix) ∧
      (∀ y d, (d = true ↔ marked) →
        (headset → y.quiet = some (Config.ms 60000) ∧ y.sleepPending = false) →
        (¬ headset → y.quiet = (lineAt s l).quiet ∧ y.sleepPending = (lineAt s l).sleepPending) →
        y = { lineAt s l with
          quiet := y.quiet
          sleepPending := y.sleepPending
          boxes := (lineAt s l).boxes.set tx.box { x with
            state := now, faultCount := count, baselinePending := false, lastStop := a.stop, boxFault := a.boxFault
            displayPending := d } } →
        (shown → displayBegun l tx.box tx.turnState t y (lineAt t l)) ∧ (¬ shown → turnEnds tx.box y (lineAt t l))) ∧
      ((boxAt t l tx.box).displayPending = true ↔ marked ∧ ¬ shown) ∧
      (∀ u v, u = (if now = x.state then s else notify (.boxState l tx.box now count) s) →
        v = (if x.baselinePending = false ∧ a.stop ≠ x.lastStop then stopPress l tx.box u else u) →
        t.manage = (if a.boxFault = x.boxFault then v else notify (.boxFault l tx.box a.boxFault) v).manage) ∧
      otherLinesStay l s t ∧
      t = { s with seats := t.seats, lines := t.lines, route := t.route, mix := t.mix, manage := t.manage }

/-- The language delta (R28): each unit moves the seat to the next enabled entry in index order, from the highest to
the lowest, so that a multiple of their number leaves it; a seat on NONE stays. -/
def Obligations.LanguageDeltaStepsEnabled : Prop :=
  ∀ (map : List LangEntry) (d i : Nat), stepLanguage map d none = none ∧
    (languageEnabled map i = true →
      stepLanguage map 0 (some i) = some i ∧
      stepLanguage map (d + 1) (some i) = stepLanguage map 1 (stepLanguage map d (some i)) ∧
      (∃ j, stepLanguage map 1 (some i) = some j ∧ languageEnabled map j = true ∧
        ((i < j ∧ ∀ m, i < m → m < j → languageEnabled map m = false) ∨
          (j ≤ i ∧ ∀ m, i < m ∨ m < j → languageEnabled map m = false))) ∧
      stepLanguage map (d * (map.filter LangEntry.enabled).length) (some i) = some i)

/-- A valid IDENT answer of an ABSENT box (R30, R62, R68, R69): the box becomes ACTIVE with fault count 0 and the
answer's contents, display and baseline pending, one BOX-STATE notice, and the fitting of its two seats by the seat
count. Its turn then ends: its rounds-since-poll is 0, and the round goes on, or the line enters SLEEPING with a sleep
pending (R65, R66, R74, R75). -/
def Obligations.IdentActivatesBox : Prop :=
  ∀ (s : State) (l : Fin 4) (tx : Transaction) (answer : List LineChar) (data : List Byte), lineTablesSized s →
    (lineAt s l).transaction = some tx → tx.kind = .ident → tx.box < 12 → (boxAt s l tx.box).state = .absent →
    goodAnswer tx 6 answer → data = answer.map charByte → (byteAt data 2 = 1 ∨ byteAt data 2 = 2) →
    ∃ t, exec (.identTransactionEnd l answer) s = .next t ∧
      boxAt t l tx.box = { boxAt s l tx.box with
        state := .active, faultCount := 0, seatCount := some (byteAt data 2), displayPending := true,
        baselinePending := true, model := data.getD 0 0, firmware := data.getD 1 0,
        serial := [data.getD 3 0, data.getD 4 0, data.getD 5 0], rounds := (boxAt t l tx.box).rounds } ∧
      turnEnds tx.box { lineAt s l with boxes := (lineAt s l).boxes.set tx.box { boxAt s l tx.box with
        state := .active, faultCount := 0, seatCount := some (byteAt data 2), displayPending := true,
        baselinePending := true, model := data.getD 0 0, firmware := data.getD 1 0,
        serial := [data.getD 3 0, data.getD 4 0, data.getD 5 0] } } (lineAt t l) ∧
      t.seats = { s.seats with
        seats := (s.seats.seats.modify (seatNumber l tx.box 0) fun y => { y with fitted := true }).modify
          (seatNumber l tx.box 1) fun y => { y with fitted := decide (byteAt data 2 = 2) } } ∧
      t.manage = (notify (.boxState l tx.box .active 0) s).manage ∧
      failureCounters (lineAt t l) = failureCounters (lineAt s l) ∧ otherLinesStay l s t ∧
      t = { s with seats := t.seats, lines := t.lines, manage := t.manage }

/-- A completed DISPLAY changes no count and no state (R64, R67), and the turn ends with it (R65, R74, R75); a low of
the control pair wakes a SLEEPING line with a new round, and on an AWAKE line fails the transaction in flight, at once
as ECHO while the controller sends, and has no effect without one (R76, R78). After the wake the pair is still low,
and the first header waits. The mark, and the wake pulse on an AWAKE line, are the model's reading
(notes/assumptions/10.md), and so is what returns the pair high (notes/assumptions/26.md). -/
def Obligations.DisplayEndAndPairLow : Prop :=
  ∀ (s : State) (l : Fin 4) (x : Line), lineTablesSized s → s.lines.lines[l.val]? = some x →
    (∀ tx, x.transaction = some tx → tx.kind = .display → tx.low = false → tx.box < 12 →
      ∃ t, exec (.displayTransactionEnd l) s = .next t ∧
        (boxAt t l tx.box).state = (boxAt s l tx.box).state ∧
        (boxAt t l tx.box).faultCount = (boxAt s l tx.box).faultCount ∧
        (boxAt t l tx.box).displayPending = (boxAt s l tx.box).displayPending ∧
        turnEnds tx.box x (lineAt t l) ∧
        failureCounters (lineAt t l) = failureCounters x ∧ otherLinesStay l s t ∧ t = { s with lines := t.lines }) ∧
    (∀ sending, x.state = .sleeping → exec (.controlPairLow l sending) s = exec (.wakePulse l) s ∧
      exec (.wakePulse l) s = .next (putLine l
        { x with state := .awake, sleepPending := false, quiet := some (Config.ms 60000), roundNext := 0,
                 roundLeft := Config.ms 4, transaction := none, pairLow := true } s)) ∧
    (∀ sending, x.state = .awake → x.transaction = none →
      exec (.controlPairLow l sending) s = .next s ∧ exec (.wakePulse l) s = .next s) ∧
    (∀ tx, x.state = .awake → x.transaction = some tx →
      exec (.controlPairLow l true) s = exec (.echo l) s ∧
      exec (.controlPairLow l false) s = .next (putLine l { x with transaction := some { tx with low := true } } s) ∧
      exec (.wakePulse l) s = exec (.controlPairLow l false) s)

/-- The quiet timer's expiry (R74, R75, R80, R82): restarted while the route is RUNNING or sleep is not enabled;
otherwise the line sleeps at once with 0 in every slot, or has its sleep pending while a transaction is in flight. On
a SLEEPING line, and on a timer that is stopped or has time left, the event changes nothing, which is the model's
choice of an event that the state rules out (notes/assumptions/6.md). -/
def Obligations.QuietTimerSleepsLine : Prop :=
  ∀ (s : State) (l : Fin 4) (x : Line), s.lines.lines[l.val]? = some x →
    (x.state = .sleeping ∨ x.quiet ≠ some 0 → exec (.quietTimerExpiry l) s = .next s) ∧
    (x.state = .awake → x.quiet = some 0 →
      (s.route.state = .running ∨ x.sleepEnable = false → exec (.quietTimerExpiry l) s =
        .next (putLine l { x with quiet := some (Config.ms 60000) } s)) ∧
      (s.route.state ≠ .running → x.sleepEnable = true → x.transaction = none → exec (.quietTimerExpiry l) s =
        .next (putLine l
          { x with state := .sleeping, sleepPending := false, quiet := none, roundNext := 0, roundLeft := Config.ms 4,
                   pairLow := false,
                   slots := List.replicate 24 (List.replicate 32 0) } s)) ∧
      (s.route.state ≠ .running → x.sleepEnable = true → x.transaction ≠ none → exec (.quietTimerExpiry l) s =
        .next (putLine l { x with sleepPending := true, quiet := none } s)))

/-! ### The seat mix -/

/-- The gain table (R35): F(g) is 4096 * 10^(g/40) rounded half up, for every code in -96..24, here without roots: the
40th powers of (2F - 1) / 2 and (2F + 1) / 2 enclose that of 4096 * 10^(g/40). A code above 24 is taken as 24, and one
below -96 gives 0. -/
def Obligations.GainFactorsAreRounded : Prop :=
  (∀ n : Nat, n ≤ 120 → ∃ f : Nat, factor ((n : Int) - 96) = f ∧ 1 ≤ f ∧
    (2 * f - 1) ^ 40 * 10 ^ 96 ≤ 8192 ^ 40 * 10 ^ n ∧ 8192 ^ 40 * 10 ^ n < (2 * f + 1) ^ 40 * 10 ^ 96) ∧
  (∀ g : Int, 24 < g → factor g = factor 24) ∧ ∀ g : Int, g < -96 → factor g = 0

/-- A seat's samples (R45, R50): with a headset in, fitted and on an AWAKE line, the sum of the three terms rounded to
the nearest, halves upward, and limited to the sample range; a sample outside it saturates; any other seat gets 0 and
does not saturate. The commentary term (R46, R47) has the block of the seat's language, or of tag 30 for a language in
the live mask while live is ON, and the factor of volume code, noise offset and duck; the announcement term (R48) the
block of tag 31 while the entry PLAYING covers the zone, the chime term (R49) the generator's samples for the zones of
its mask or the box of its beep; step 0 mutes but for a class with mute override. A frame's samples stand in the line
slots, 0 on a SLEEPING line (R44, R79, R80), and a saturation sets the zone's clip flag, with ZONE-CLIP where it was
CLEAR and notices are enabled (R51). The class of an announcement chime is the path entry's (notes/assumptions/15.md).
-/
def Obligations.SeatSamplesAreRoundedSums : Prop :=
  (∀ (f : Factors) (c a t : Int),
    4096 * mixSample f c a t ≤ c * f.commentary + a * f.announcement + t * f.chime + 2048 ∧
    c * f.commentary + a * f.announcement + t * f.chime + 2048 < 4096 * (mixSample f c a t + 1)) ∧
  (∀ y : Int, limited y = (if 32767 < y then 32767 else if y < -32768 then -32768 else y) ∧
    (saturates y = true ↔ limited y ≠ y)) ∧
  (∀ (f : Factors) (cs as ts : List Int),
    (mixSamples f cs as ts).length = min cs.length (min as.length ts.length) ∧
    ∀ (i : Nat) (c a t : Int), cs[i]? = some c → as[i]? = some a → ts[i]? = some t →
      (mixSamples f cs as ts)[i]? = some (mixSample f c a t)) ∧
  (∀ (frame : List KeptBlock) (tag : Nat),
    (∀ before b after, frame = before ++ b :: after → b.tag = tag → (∀ c ∈ before, c.tag ≠ tag) →
      channelSamples tag frame = b.samples) ∧
    ((∀ b ∈ frame, b.tag ≠ tag) → channelSamples tag frame = List.replicate 32 0)) ∧
  (∀ (s : State) (frame : List KeptBlock), commentary s frame none = List.replicate 32 0 ∧
    ∀ i, (s.segment.live = .on → s.segment.liveMask.getLsbD i = true →
        commentary s frame (some i) = channelSamples 30 frame) ∧
      (s.segment.live ≠ .on ∨ s.segment.liveMask.getLsbD i = false → ∀ e, s.seats.map[i]? = some e →
        commentary s frame (some i) = channelSamples e.tag frame)) ∧
  (∀ (s : State) (n : Nat) (x : Seat) (z : Zone) (code : Int) (f : Factors), f = factorsOf s n x →
    s.mix.zones[x.zone]? = some z → s.mix.curve[x.volume]? = some code →
    f.commentary = (if x.volume = 0 then 0 else factor (code + z.offset + z.duck)) ∧
    ((∀ e, s.announce.path = some e → e.state ≠ .playing ∨ e.mask.getLsbD x.zone = false) → f.announcement = 0) ∧
    (∀ e r, s.announce.path = some e → e.state = .playing → e.mask.getLsbD x.zone = true →
      s.mix.classes[e.cls.code]? = some r → f.announcement = termFactor r x.volume code z.offset r.trim) ∧
    (s.mix.generator = none → f.chime = 0) ∧
    (∀ q line box, s.mix.generator = some q → q.use = .beep line box → f.chime =
      if n / 24 = line ∧ n % 24 / 2 = box ∧ x.volume ≠ 0 then factor (code + z.offset) else 0) ∧
    ∀ q ticket mask, s.mix.generator = some q → q.use = .announcement ticket mask →
      (mask.getLsbD x.zone = false → f.chime = 0) ∧
      ∀ e r, s.announce.path = some e → mask.getLsbD x.zone = true → s.mix.classes[e.cls.code]? = some r →
        f.chime = termFactor r x.volume code z.offset r.chimeTrim) ∧
  (∀ (s : State) (frame : List KeptBlock) (tone : List Int) (n : Nat) (x : Seat),
    (x.jack = false ∨ x.fitted = false ∨ (lineAt s (n / 24)).state = .sleeping →
      seatSamples s frame tone n x = (List.replicate 32 0, false)) ∧
    (∀ ys, x.jack = true → x.fitted = true → (lineAt s (n / 24)).state = .awake →
      ys = mixSamples (factorsOf s n x) (commentary s frame x.language) (channelSamples 31 frame) tone →
      seatSamples s frame tone n x = (ys.map limited, ys.any saturates)) ∧
    ∀ (i : Nat) (y : Int), (seatSamples s frame tone n x).1[i]? = some y → -32768 ≤ y ∧ y ≤ 32767) ∧
  ∀ (s t : State) (frame : List KeptBlock) (tone : List Int), t = mixFrame frame s → tone = (playChime s).1 →
    s.seats.seats.length = 96 →
    (∀ (l : Fin 4) (x : Line), s.lines.lines[l.val]? = some x → ∃ y, t.lines.lines[l.val]? = some y ∧
      y = { x with slots := y.slots } ∧
      (x.state = .sleeping → y.slots = List.replicate 24 (List.replicate 32 0)) ∧
      (x.state = .awake → y.slots.length = 24 ∧ ∀ k seat, k < 24 → s.seats.seats[24 * l.val + k]? = some seat →
        y.slots[k]? = some (seatSamples s frame tone (24 * l.val + k) seat).1)) ∧
    (∀ z zone, s.mix.zones[z]? = some zone → ∃ w, t.mix.zones[z]? = some w ∧ w = { zone with clip := w.clip } ∧
      (w.clip = true ↔ zone.clip = true ∨ ∃ n seat, s.seats.seats[n]? = some seat ∧ seat.zone = z ∧
        (seatSamples s frame tone n seat).2 = true)) ∧
    ∃ clipped : List Nat, clipped.Nodup ∧ t.manage = (notifyAll (clipped.map Notice.zoneClip) s).manage ∧
      ∀ z, z ∈ clipped ↔ ∃ zone w, s.mix.zones[z]? = some zone ∧ t.mix.zones[z]? = some w ∧ zone.clip = false ∧
        w.clip = true ∧ zone.clipNotice = true

/-- The zone steps of a frame start (R41, R42): the noise offset moves one code toward its target when the slew count
reaches the noise slew; the duck attenuation is clamped to the depth and moves toward its target by attack or release,
and does not pass it. The noise targets (R40): the offset of the highest band whose threshold the averaged value
reaches, taken, at the end of the held writes, by every zone when a NOISE-BANDS write is among them and by a zone
whose source a ZONE write among them changes, 0 without a source, and left while the value is unordered. The chime
generator (R53, R54): 32 samples of its present tone a frame, by the sine table and a phase that moves by the rounded
increment, 0 for a rest; the next tone begins with phase 0; the frame start after the last sample finds it IDLE, and
an announcement chime's end is to be reported; the controller's stop ends an announcement chime and no beep (R55). A
zone is covered by an entry on the path that is not chime-only, and by a chime-only clearance that the generator plays
(R42). -/
def Obligations.ZonesSlewAndDuck : Prop :=
  (∀ (v : Nat) (bands : List Band),
    (∀ (i : Nat) (b : Band), bands[i]? = some b → b.threshold ≤ v →
      (∀ (j : Nat) (c : Band), i < j → bands[j]? = some c → v < c.threshold) → bandOffset v bands = b.offset) ∧
    ((∀ b ∈ bands, v < b.threshold) → bandOffset v bands = 0)) ∧
  (∀ (s u : State) (z : Nat) (x : Zone), u = mixFrameWrites s → z < 4 → s.mix.zones[z]? = some x →
    ∃ y, u.mix.zones[z]? = some y ∧
      y = { x with source := y.source, clipNotice := y.clipNotice, target := y.target } ∧
      y.source = sourceAfter s.mix.held z x.source ∧
      (targetCalled s.mix.held z x.source → targetTaken u y.source x.target y.target) ∧
      (¬ targetCalled s.mix.held z x.source → y.target = x.target)) ∧
  ((List.range 17).map sine =
      [0, 803, 1598, 2378, 3135, 3862, 4551, 5197, 5793, 6333, 6811, 7225, 7568, 7839, 8035, 8153, 8192] ∧
    (∀ k, k ≤ 16 → sine (32 - k) = sine k) ∧ (∀ k, k < 32 → sine (k + 32) = -sine k) ∧
    ∀ f, f ≤ 4000 → 32000 * (increment f).toNat ≤ 131072 * f + 16000 ∧
      131072 * f + 16000 < 32000 * ((increment f).toNat + 1)) ∧
  (∀ (use : ChimeUse) (chime : Chime), sequenceOf use chime =
    { use := use, tones := chime.tones.take chime.count, phase := 0
      left := match chime.tones.take chime.count with
        | [] => 0
        | tone :: _ => tone.duration * 16 }) ∧
  (∀ (s : State) (n : Nat) (chime : Chime), s.mix.chimes[n]? = some chime → chimeRecord s n = chime) ∧
  (∀ s : State, ((∃ q ticket mask, s.mix.generator = some q ∧ q.use = .announcement ticket mask) →
      stopChime s = { s with mix := { s.mix with generator := none } }) ∧
    ((∀ q ticket mask, s.mix.generator = some q → q.use ≠ .announcement ticket mask) → stopChime s = s)) ∧
  (∀ (s : State) (z : Nat), pathCovers s z = true ↔ zoneShown s z) ∧
  (∀ s : State, endChime s = if (retireChime s).2 then chimeEnded (retireChime s).1 else (retireChime s).1) ∧
  (∀ s : State, (s.mix.generator = none → playChime s = (List.replicate 32 0, s) ∧ retireChime s = (s, false)) ∧
    ∀ q, s.mix.generator = some q →
      (q.tones = [] → playChime s = (List.replicate 32 0, s) ∧
        retireChime s = ({ s with mix := { s.mix with generator := none } },
          match q.use with
            | .announcement _ _ => true
            | .beep _ _ => false)) ∧
      ∀ tone rest, q.tones = tone :: rest → retireChime s = (s, false) ∧
        (playChime s).1.length = 32 ∧
        (∀ i, i < 32 → (playChime s).1[i]? = some (if tone.frequency = 0 then 0
          else sine ((q.phase + BitVec.ofNat 16 i * increment tone.frequency).toNat / 1024))) ∧
        ∀ after, after = (if 32 < q.left then
            { q with left := q.left - 32, phase := q.phase + 32 * increment tone.frequency }
          else { q with tones := rest, phase := 0
                        left := match rest with
                          | [] => 0
                          | next :: _ => next.duration * 16 }) →
          (playChime s).2 = { s with mix := { s.mix with generator := some after } }) ∧
  ∀ (s : State) (z : Nat) (x : Zone) (target clamped : Int), s.mix.zones[z]? = some x →
    target = (if pathCovers s z then -(s.mix.params.duckDepth : Int) else 0) →
    clamped = max x.duck (-(s.mix.params.duckDepth : Int)) →
    ∃ y, (zoneSteps s).mix.zones[z]? = some y ∧ y = { x with offset := y.offset, slew := y.slew, duck := y.duck } ∧
      (x.offset = x.target → y.offset = x.offset ∧ y.slew = 0) ∧
      (x.offset ≠ x.target → x.slew + 1 < s.mix.params.noiseSlew → y.offset = x.offset ∧ y.slew = x.slew + 1) ∧
      (x.offset ≠ x.target → s.mix.params.noiseSlew ≤ x.slew + 1 → y.slew = 0 ∧
        (x.offset < x.target → y.offset = x.offset + 1) ∧ (x.target < x.offset → y.offset + 1 = x.offset)) ∧
      (clamped = target → y.duck = target) ∧
      (target < clamped → y.duck = max target (clamped - s.mix.params.attack)) ∧
      (clamped < target → y.duck = min target (clamped + s.mix.params.release)) ∧
      zoneSteps s = { s with mix := { s.mix with zones := (zoneSteps s).mix.zones } }

/-! ### Encodings and properties every step keeps -/

/-- Every record that a TABLE-WRITE's decoder takes is encoded back to the bytes it was read from, for the tables
whose records are read back in the layout they are written in; a SEAT, a ZONE and a SEAT-LINE that hold the fields of
a record taken are read with its bytes in their places; a LIMIT and a CUE read back are the entries written (R182). -/
def Obligations.TableRecordsRoundTrip : Prop :=
  ∀ b : List Byte,
    (∀ x, b.length = 6 → decodeLang b = some x → encodeLang x = b) ∧
    (∀ x, b.length = 5 → decodeMix b = some x → encodeMix x = b) ∧
    (∀ x, b.length = 3 → decodeBand b = some x → encodeBand x = b) ∧
    (∀ x, b.length = 1 → decodeCurve b = some x → intByte x = b) ∧
    (∀ x, b.length = 6 → decodeClass b = some x → encodeClass x = b) ∧
    (∀ x, b.length = 17 → decodeChime b = some x → encodeChime x = b) ∧
    (∀ x, b.length = 12 → decodeSense 0 b = some x → encodeSense x = b) ∧
    (∀ x, b.length = 64 → decodeScene b = some x → encodeScene x = b) ∧
    (∀ x, b.length = 5 → decodeLighting b = some x → encodeLighting x = b) ∧
    (∀ (s : State) (n : Nat) (w : SeatWrite) (x : Seat), b.length = 3 → decodeSeat b = some w →
      s.seats.seats[n]? = some { x with zone := w.zone, language := w.language, volume := w.volume } →
      (recordsOf s 1 n 1).take 3 = b) ∧
    (∀ (s : State) (n : Nat) (w : ZoneWrite) (x : Zone), b.length = 2 → decodeZone b = some w →
      s.mix.zones[n]? = some { x with source := w.source, clipNotice := w.clipNotice } →
      (recordsOf s 2 n 1).take 1 ++ (recordsOf s 2 n 1).drop 6 = b) ∧
    (∀ (s : State) (n : Nat) (w : LineWrite) (x : Line), b.length = 2 → decodeSeatLine b = some w →
      s.lines.lines[n]? = some { x with mode := w.mode, sleepEnable := w.sleepEnable } → recordsOf s 8 n 1 = b) ∧
    (∀ x, b.length = 15 → decodeLimit b = some x → decodeLimit (encodeLimit x) = some x) ∧
    (∀ x, b.length = 20 → decodeCue b = some x → decodeCue (encodeCue x) = some x)

/-- Every step keeps the bounds of the lists (R5, R113, R137, R167, R168, R173), no two WAITING entries share both
clip and class (R137), and the WAITING entries stay in rank order, the better class first and the older arrival in one
class (R136). The open-cue list holds no cue twice, each PENDING or DEFERRED (R113), and a requested stop, which a
STOPPED route has none of, names an in-use STOP-ARRIVAL cue that is ARMED, PENDING or DEFERRED and has its stop number
(R107, R121). -/
def Obligations.StepKeepsBounds : Prop :=
  ∀ s t : State, step s = .next t →
    (bounded s → waitingDistinct s → bounded t ∧ waitingDistinct t) ∧ (waitingRanked s → waitingRanked t) ∧
      (openCuesSound s → openCuesSound t) ∧ (requestedSound s → requestedSound t)

/-- Every step keeps every lamp channel's level within 0..1000 (R161). -/
def Obligations.StepKeepsLampLevels : Prop :=
  ∀ s t : State, step s = .next t → lightingInRange s → lightingInRange t

/-- Every step keeps each zone's duck attenuation between minus the duck depth and 0 (R42), and every sample in a seat
slot within -32768..32767 (R50). -/
def Obligations.StepKeepsMixRanges : Prop :=
  ∀ s t : State, step s = .next t → ducksInRange s → samplesInRange s → ducksInRange t ∧ samplesInRange t

/-- Every step keeps each seat on a language on offer, or on NONE while none is, with a volume step in 0..15 (R22,
R24, R27, R28). -/
def Obligations.StepKeepsSeatsOnOffer : Prop :=
  ∀ s t : State, step s = .next t → seatsOnOffer s → seatsOnOffer t

/-- The state after power-on reset has every property that the steps keep. -/
def Obligations.ResetHasEveryProperty : Prop :=
  bounded State.reset ∧ waitingDistinct State.reset ∧ waitingRanked State.reset ∧ openCuesSound State.reset ∧
    requestedSound State.reset ∧
    lightingInRange State.reset ∧ ducksInRange State.reset ∧ samplesInRange State.reset ∧ seatsOnOffer State.reset
end

