-- ==== Sys2Proof/Laws/ClockFrame.lean ====
section
/-! SUPPORT. What a reference tick does to each block, and what it does to a lamp (notes/assumptions/3.md). -/

namespace Sys2Proof.Machine

variable (s : State)

/-! ### tickTimers -/

@[simp] theorem tickTimers_link : (tickTimers s).link =
    { s.link with supervision := countDown s.link.supervision } := rfl
@[simp] theorem tickTimers_playout : (tickTimers s).playout = s.playout := rfl
@[simp] theorem tickTimers_seats : (tickTimers s).seats = s.seats := rfl
@[simp] theorem tickTimers_mix : (tickTimers s).mix = s.mix := rfl
@[simp] theorem tickTimers_lines : (tickTimers s).lines =
    { s.lines with lines := s.lines.lines.map tickLine } := rfl
@[simp] theorem tickTimers_sense : (tickTimers s).sense =
    { s.sense with scan := tickScan s.sense.scan, results := s.sense.results.map tickAge } := rfl
@[simp] theorem tickTimers_route : (tickTimers s).route = s.route := rfl
@[simp] theorem tickTimers_segment : (tickTimers s).segment = s.segment := rfl
@[simp] theorem tickTimers_announce : (tickTimers s).announce =
    { s.announce with startTimer := countDown s.announce.startTimer
                      durationTimer := countDown s.announce.durationTimer } := rfl
@[simp] theorem tickTimers_lighting : (tickTimers s).lighting =
    { s.lighting with lamps := s.lighting.lamps.map tickLamp } := rfl
@[simp] theorem tickTimers_manage : (tickTimers s).manage = s.manage := rfl
@[simp] theorem tickTimers_report : (tickTimers s).report = s.report := rfl
@[simp] theorem tickTimers_clockPhase : (tickTimers s).clockPhase = s.clockPhase := rfl
@[simp] theorem tickTimers_pending : (tickTimers s).pending = s.pending := rfl

/-! ### tickFrameTimer -/

/-- The frame timer's tick touches the clock phase and the frame timer alone: the phase moves by 1000 of 32768 parts,
and where a millisecond is complete the frame timer falls by one. -/
theorem tickFrameTimer_spec :
    (s.clockPhase + 1000 < 32768 → tickFrameTimer s = { s with clockPhase := s.clockPhase + 1000 }) ∧
    (32768 ≤ s.clockPhase + 1000 → tickFrameTimer s =
      { s with clockPhase := s.clockPhase + 1000 - 32768
               playout := { s.playout with frameTimer := s.playout.frameTimer - 1 } }) := by
  constructor <;> intro h
  · have h' : s.clockPhase + Config.tickParts < Config.tickRate := h
    rw [tickFrameTimer, if_pos h']; rfl
  · have h' : ¬ s.clockPhase + Config.tickParts < Config.tickRate := Nat.not_lt.mpr h
    rw [tickFrameTimer, if_neg h']; rfl

/-! ### tickLamp -/

/-- What a tick does to a lamp (R161 to R163): a STEADY one moves nothing; any other moves its own time by 1000 of 32768
parts, and where that completes a millisecond its transition by one. The moment of the transition's beginning ends. -/
theorem tickLamp_spec (x : Lamp) :
    (x.transition = .steady → tickLamp x = { x with began := none }) ∧
    (x.transition ≠ .steady → x.phase + 1000 < 32768 →
      tickLamp x = { x with began := none, phase := x.phase + 1000 }) ∧
    (x.transition ≠ .steady → 32768 ≤ x.phase + 1000 →
      tickLamp x = { x with
        began := none, phase := x.phase + 1000 - 32768, transition := tickTransition x.transition }) := by
  refine ⟨fun steady => ?_, fun moving h => ?_, fun moving h => ?_⟩
  · unfold tickLamp
    split
    · rfl
    · exact absurd steady ‹_›
  · have h' : x.phase + Config.tickParts < Config.tickRate := h
    unfold tickLamp
    split
    · exact absurd ‹_› moving
    · simp only [if_pos h', passMoment]; rfl
  · have h' : ¬ x.phase + Config.tickParts < Config.tickRate := Nat.not_lt.mpr h
    unfold tickLamp
    split
    · exact absurd ‹_› moving
    · simp only [if_neg h', passMoment]; rfl

/-- A tick moves no level, and no setting. -/
theorem tickLamp_level (x : Lamp) : (tickLamp x).level = x.level ∧ (tickLamp x).setting = x.setting := by
  unfold tickLamp
  split
  · exact ⟨rfl, rfl⟩
  · dsimp only; split <;> exact ⟨rfl, rfl⟩

end Sys2Proof.Machine
end

