-- ==== Sys2Proof/Laws/LightingFrame.lean ====
section
/-! SUPPORT. What a resolution does to each lamp channel, and what a channel that takes a setting can become (R159,
R160, R166). -/

namespace Sys2Proof.Machine

/-- A channel that takes a setting keeps what it has, stands as before the moment, or begins a transition. -/
theorem takeSetting_cases (new : Setting) (x : Lamp) :
    (x.setting = new ∧ takeSetting new x = x) ∨
    (x.setting ≠ new ∧ (lampStart x).setting = new ∧ takeSetting new x = asBefore (lampStart x)) ∨
    (x.setting ≠ new ∧ (lampStart x).setting ≠ new ∧ takeSetting new x = beginTransition new (lampStart x)) := by
  unfold takeSetting
  split
  · exact .inl ⟨‹_›, rfl⟩
  · split
    · exact .inr (.inl ⟨‹_›, ‹_›, rfl⟩)
    · exact .inr (.inr ⟨‹_›, ‹_›, rfl⟩)

@[simp] theorem asBefore_setting (x : LampStart) : (asBefore x).setting = x.setting := rfl
@[simp] theorem lampStart_asBefore (x : LampStart) : lampStart (asBefore x) = x := rfl
@[simp] theorem beginTransition_setting (new : Setting) (x : LampStart) : (beginTransition new x).setting = new := by
  unfold beginTransition; split <;> rfl
@[simp] theorem lampStart_beginTransition (new : Setting) (x : LampStart) : lampStart (beginTransition new x) = x := by
  unfold beginTransition; split <;> rfl

/-- Resolution changes each channel by itself (R159). -/
theorem resolveLamps_getElem? (g : Lighting) (first : Nat) (lamps : List Lamp) (i : Nat) :
    (resolveLamps g first lamps)[i]? = lamps[i]?.map (takeSetting (governing g (first + i))) := by
  induction lamps generalizing first i with
  | nil => simp [resolveLamps]
  | cons x rest ih =>
    cases i with
    | zero => simp [resolveLamps]
    | succ i =>
      simp only [resolveLamps, List.getElem?_cons_succ, ih]
      rw [show first + 1 + i = first + (i + 1) by omega]

theorem resolve_getElem? (g : Lighting) (c : Nat) :
    (resolve g).lamps[c]? = g.lamps[c]?.map (takeSetting (governing g c)) := by
  simp [resolve, resolveLamps_getElem?]

end Sys2Proof.Machine
end

