-- ==== Sys2Proof/Laws/State.lean ====
section
/-! SUPPORT. One lemma per field for each update of State that Ops.lean names: a field that the update does not touch
reads as before, and the touched one is given. -/

namespace Sys2Proof.Machine

variable (s : State)

/-! ### setCue -/

@[simp] theorem setCue_link (i : Nat) (f : Cue → Cue) : (setCue i f s).link = s.link := rfl
@[simp] theorem setCue_playout (i : Nat) (f : Cue → Cue) : (setCue i f s).playout = s.playout := rfl
@[simp] theorem setCue_seats (i : Nat) (f : Cue → Cue) : (setCue i f s).seats = s.seats := rfl
@[simp] theorem setCue_mix (i : Nat) (f : Cue → Cue) : (setCue i f s).mix = s.mix := rfl
@[simp] theorem setCue_lines (i : Nat) (f : Cue → Cue) : (setCue i f s).lines = s.lines := rfl
@[simp] theorem setCue_sense (i : Nat) (f : Cue → Cue) : (setCue i f s).sense = s.sense := rfl
@[simp] theorem setCue_route (i : Nat) (f : Cue → Cue) : (setCue i f s).route = { s.route with cues := s.route.cues.modify i f } := rfl
@[simp] theorem setCue_segment (i : Nat) (f : Cue → Cue) : (setCue i f s).segment = s.segment := rfl
@[simp] theorem setCue_announce (i : Nat) (f : Cue → Cue) : (setCue i f s).announce = s.announce := rfl
@[simp] theorem setCue_lighting (i : Nat) (f : Cue → Cue) : (setCue i f s).lighting = s.lighting := rfl
@[simp] theorem setCue_manage (i : Nat) (f : Cue → Cue) : (setCue i f s).manage = s.manage := rfl
@[simp] theorem setCue_report (i : Nat) (f : Cue → Cue) : (setCue i f s).report = s.report := rfl
@[simp] theorem setCue_clockPhase (i : Nat) (f : Cue → Cue) : (setCue i f s).clockPhase = s.clockPhase := rfl
@[simp] theorem setCue_pending (i : Nat) (f : Cue → Cue) : (setCue i f s).pending = s.pending := rfl

/-! ### setLine -/

@[simp] theorem setLine_link (l : Nat) (f : Line → Line) : (setLine l f s).link = s.link := rfl
@[simp] theorem setLine_playout (l : Nat) (f : Line → Line) : (setLine l f s).playout = s.playout := rfl
@[simp] theorem setLine_seats (l : Nat) (f : Line → Line) : (setLine l f s).seats = s.seats := rfl
@[simp] theorem setLine_mix (l : Nat) (f : Line → Line) : (setLine l f s).mix = s.mix := rfl
@[simp] theorem setLine_lines (l : Nat) (f : Line → Line) : (setLine l f s).lines = { s.lines with lines := s.lines.lines.modify l f } := rfl
@[simp] theorem setLine_sense (l : Nat) (f : Line → Line) : (setLine l f s).sense = s.sense := rfl
@[simp] theorem setLine_route (l : Nat) (f : Line → Line) : (setLine l f s).route = s.route := rfl
@[simp] theorem setLine_segment (l : Nat) (f : Line → Line) : (setLine l f s).segment = s.segment := rfl
@[simp] theorem setLine_announce (l : Nat) (f : Line → Line) : (setLine l f s).announce = s.announce := rfl
@[simp] theorem setLine_lighting (l : Nat) (f : Line → Line) : (setLine l f s).lighting = s.lighting := rfl
@[simp] theorem setLine_manage (l : Nat) (f : Line → Line) : (setLine l f s).manage = s.manage := rfl
@[simp] theorem setLine_report (l : Nat) (f : Line → Line) : (setLine l f s).report = s.report := rfl
@[simp] theorem setLine_clockPhase (l : Nat) (f : Line → Line) : (setLine l f s).clockPhase = s.clockPhase := rfl
@[simp] theorem setLine_pending (l : Nat) (f : Line → Line) : (setLine l f s).pending = s.pending := rfl

/-! ### setBox -/

@[simp] theorem setBox_link (l b : Nat) (f : Box → Box) : (setBox l b f s).link = s.link := rfl
@[simp] theorem setBox_playout (l b : Nat) (f : Box → Box) : (setBox l b f s).playout = s.playout := rfl
@[simp] theorem setBox_seats (l b : Nat) (f : Box → Box) : (setBox l b f s).seats = s.seats := rfl
@[simp] theorem setBox_mix (l b : Nat) (f : Box → Box) : (setBox l b f s).mix = s.mix := rfl
@[simp] theorem setBox_sense (l b : Nat) (f : Box → Box) : (setBox l b f s).sense = s.sense := rfl
@[simp] theorem setBox_route (l b : Nat) (f : Box → Box) : (setBox l b f s).route = s.route := rfl
@[simp] theorem setBox_segment (l b : Nat) (f : Box → Box) : (setBox l b f s).segment = s.segment := rfl
@[simp] theorem setBox_announce (l b : Nat) (f : Box → Box) : (setBox l b f s).announce = s.announce := rfl
@[simp] theorem setBox_lighting (l b : Nat) (f : Box → Box) : (setBox l b f s).lighting = s.lighting := rfl
@[simp] theorem setBox_manage (l b : Nat) (f : Box → Box) : (setBox l b f s).manage = s.manage := rfl
@[simp] theorem setBox_report (l b : Nat) (f : Box → Box) : (setBox l b f s).report = s.report := rfl
@[simp] theorem setBox_clockPhase (l b : Nat) (f : Box → Box) : (setBox l b f s).clockPhase = s.clockPhase := rfl
@[simp] theorem setBox_pending (l b : Nat) (f : Box → Box) : (setBox l b f s).pending = s.pending := rfl

/-! ### setSeat -/

@[simp] theorem setSeat_link (n : Nat) (f : Seat → Seat) : (setSeat n f s).link = s.link := rfl
@[simp] theorem setSeat_playout (n : Nat) (f : Seat → Seat) : (setSeat n f s).playout = s.playout := rfl
@[simp] theorem setSeat_seats (n : Nat) (f : Seat → Seat) : (setSeat n f s).seats = { s.seats with seats := s.seats.seats.modify n f } := rfl
@[simp] theorem setSeat_mix (n : Nat) (f : Seat → Seat) : (setSeat n f s).mix = s.mix := rfl
@[simp] theorem setSeat_lines (n : Nat) (f : Seat → Seat) : (setSeat n f s).lines = s.lines := rfl
@[simp] theorem setSeat_sense (n : Nat) (f : Seat → Seat) : (setSeat n f s).sense = s.sense := rfl
@[simp] theorem setSeat_route (n : Nat) (f : Seat → Seat) : (setSeat n f s).route = s.route := rfl
@[simp] theorem setSeat_segment (n : Nat) (f : Seat → Seat) : (setSeat n f s).segment = s.segment := rfl
@[simp] theorem setSeat_announce (n : Nat) (f : Seat → Seat) : (setSeat n f s).announce = s.announce := rfl
@[simp] theorem setSeat_lighting (n : Nat) (f : Seat → Seat) : (setSeat n f s).lighting = s.lighting := rfl
@[simp] theorem setSeat_manage (n : Nat) (f : Seat → Seat) : (setSeat n f s).manage = s.manage := rfl
@[simp] theorem setSeat_report (n : Nat) (f : Seat → Seat) : (setSeat n f s).report = s.report := rfl
@[simp] theorem setSeat_clockPhase (n : Nat) (f : Seat → Seat) : (setSeat n f s).clockPhase = s.clockPhase := rfl
@[simp] theorem setSeat_pending (n : Nat) (f : Seat → Seat) : (setSeat n f s).pending = s.pending := rfl

/-! ### setZone -/

@[simp] theorem setZone_link (z : Nat) (f : Zone → Zone) : (setZone z f s).link = s.link := rfl
@[simp] theorem setZone_playout (z : Nat) (f : Zone → Zone) : (setZone z f s).playout = s.playout := rfl
@[simp] theorem setZone_seats (z : Nat) (f : Zone → Zone) : (setZone z f s).seats = s.seats := rfl
@[simp] theorem setZone_mix (z : Nat) (f : Zone → Zone) : (setZone z f s).mix = { s.mix with zones := s.mix.zones.modify z f } := rfl
@[simp] theorem setZone_lines (z : Nat) (f : Zone → Zone) : (setZone z f s).lines = s.lines := rfl
@[simp] theorem setZone_sense (z : Nat) (f : Zone → Zone) : (setZone z f s).sense = s.sense := rfl
@[simp] theorem setZone_route (z : Nat) (f : Zone → Zone) : (setZone z f s).route = s.route := rfl
@[simp] theorem setZone_segment (z : Nat) (f : Zone → Zone) : (setZone z f s).segment = s.segment := rfl
@[simp] theorem setZone_announce (z : Nat) (f : Zone → Zone) : (setZone z f s).announce = s.announce := rfl
@[simp] theorem setZone_lighting (z : Nat) (f : Zone → Zone) : (setZone z f s).lighting = s.lighting := rfl
@[simp] theorem setZone_manage (z : Nat) (f : Zone → Zone) : (setZone z f s).manage = s.manage := rfl
@[simp] theorem setZone_report (z : Nat) (f : Zone → Zone) : (setZone z f s).report = s.report := rfl
@[simp] theorem setZone_clockPhase (z : Nat) (f : Zone → Zone) : (setZone z f s).clockPhase = s.clockPhase := rfl
@[simp] theorem setZone_pending (z : Nat) (f : Zone → Zone) : (setZone z f s).pending = s.pending := rfl

/-! ### setResult -/

@[simp] theorem setResult_link (c : Nat) (f : ResultRec → ResultRec) : (setResult c f s).link = s.link := rfl
@[simp] theorem setResult_playout (c : Nat) (f : ResultRec → ResultRec) : (setResult c f s).playout = s.playout := rfl
@[simp] theorem setResult_seats (c : Nat) (f : ResultRec → ResultRec) : (setResult c f s).seats = s.seats := rfl
@[simp] theorem setResult_mix (c : Nat) (f : ResultRec → ResultRec) : (setResult c f s).mix = s.mix := rfl
@[simp] theorem setResult_lines (c : Nat) (f : ResultRec → ResultRec) : (setResult c f s).lines = s.lines := rfl
@[simp] theorem setResult_sense (c : Nat) (f : ResultRec → ResultRec) : (setResult c f s).sense = { s.sense with results := s.sense.results.modify c f } := rfl
@[simp] theorem setResult_route (c : Nat) (f : ResultRec → ResultRec) : (setResult c f s).route = s.route := rfl
@[simp] theorem setResult_segment (c : Nat) (f : ResultRec → ResultRec) : (setResult c f s).segment = s.segment := rfl
@[simp] theorem setResult_announce (c : Nat) (f : ResultRec → ResultRec) : (setResult c f s).announce = s.announce := rfl
@[simp] theorem setResult_lighting (c : Nat) (f : ResultRec → ResultRec) : (setResult c f s).lighting = s.lighting := rfl
@[simp] theorem setResult_manage (c : Nat) (f : ResultRec → ResultRec) : (setResult c f s).manage = s.manage := rfl
@[simp] theorem setResult_report (c : Nat) (f : ResultRec → ResultRec) : (setResult c f s).report = s.report := rfl
@[simp] theorem setResult_clockPhase (c : Nat) (f : ResultRec → ResultRec) : (setResult c f s).clockPhase = s.clockPhase := rfl
@[simp] theorem setResult_pending (c : Nat) (f : ResultRec → ResultRec) : (setResult c f s).pending = s.pending := rfl

/-! ### setLimit -/

@[simp] theorem setLimit_link (i : Nat) (f : Limit → Limit) : (setLimit i f s).link = s.link := rfl
@[simp] theorem setLimit_playout (i : Nat) (f : Limit → Limit) : (setLimit i f s).playout = s.playout := rfl
@[simp] theorem setLimit_seats (i : Nat) (f : Limit → Limit) : (setLimit i f s).seats = s.seats := rfl
@[simp] theorem setLimit_mix (i : Nat) (f : Limit → Limit) : (setLimit i f s).mix = s.mix := rfl
@[simp] theorem setLimit_lines (i : Nat) (f : Limit → Limit) : (setLimit i f s).lines = s.lines := rfl
@[simp] theorem setLimit_sense (i : Nat) (f : Limit → Limit) : (setLimit i f s).sense = { s.sense with limits := s.sense.limits.modify i f } := rfl
@[simp] theorem setLimit_route (i : Nat) (f : Limit → Limit) : (setLimit i f s).route = s.route := rfl
@[simp] theorem setLimit_segment (i : Nat) (f : Limit → Limit) : (setLimit i f s).segment = s.segment := rfl
@[simp] theorem setLimit_announce (i : Nat) (f : Limit → Limit) : (setLimit i f s).announce = s.announce := rfl
@[simp] theorem setLimit_lighting (i : Nat) (f : Limit → Limit) : (setLimit i f s).lighting = s.lighting := rfl
@[simp] theorem setLimit_manage (i : Nat) (f : Limit → Limit) : (setLimit i f s).manage = s.manage := rfl
@[simp] theorem setLimit_report (i : Nat) (f : Limit → Limit) : (setLimit i f s).report = s.report := rfl
@[simp] theorem setLimit_clockPhase (i : Nat) (f : Limit → Limit) : (setLimit i f s).clockPhase = s.clockPhase := rfl
@[simp] theorem setLimit_pending (i : Nat) (f : Limit → Limit) : (setLimit i f s).pending = s.pending := rfl

/-! ### setLamp -/

@[simp] theorem setLamp_link (c : Nat) (f : Lamp → Lamp) : (setLamp c f s).link = s.link := rfl
@[simp] theorem setLamp_playout (c : Nat) (f : Lamp → Lamp) : (setLamp c f s).playout = s.playout := rfl
@[simp] theorem setLamp_seats (c : Nat) (f : Lamp → Lamp) : (setLamp c f s).seats = s.seats := rfl
@[simp] theorem setLamp_mix (c : Nat) (f : Lamp → Lamp) : (setLamp c f s).mix = s.mix := rfl
@[simp] theorem setLamp_lines (c : Nat) (f : Lamp → Lamp) : (setLamp c f s).lines = s.lines := rfl
@[simp] theorem setLamp_sense (c : Nat) (f : Lamp → Lamp) : (setLamp c f s).sense = s.sense := rfl
@[simp] theorem setLamp_route (c : Nat) (f : Lamp → Lamp) : (setLamp c f s).route = s.route := rfl
@[simp] theorem setLamp_segment (c : Nat) (f : Lamp → Lamp) : (setLamp c f s).segment = s.segment := rfl
@[simp] theorem setLamp_announce (c : Nat) (f : Lamp → Lamp) : (setLamp c f s).announce = s.announce := rfl
@[simp] theorem setLamp_lighting (c : Nat) (f : Lamp → Lamp) : (setLamp c f s).lighting = { s.lighting with lamps := s.lighting.lamps.modify c f } := rfl
@[simp] theorem setLamp_manage (c : Nat) (f : Lamp → Lamp) : (setLamp c f s).manage = s.manage := rfl
@[simp] theorem setLamp_report (c : Nat) (f : Lamp → Lamp) : (setLamp c f s).report = s.report := rfl
@[simp] theorem setLamp_clockPhase (c : Nat) (f : Lamp → Lamp) : (setLamp c f s).clockPhase = s.clockPhase := rfl
@[simp] theorem setLamp_pending (c : Nat) (f : Lamp → Lamp) : (setLamp c f s).pending = s.pending := rfl

/-! ### markDisplay -/

@[simp] theorem markDisplay_link (l b : Nat) : (markDisplay l b s).link = s.link := rfl
@[simp] theorem markDisplay_playout (l b : Nat) : (markDisplay l b s).playout = s.playout := rfl
@[simp] theorem markDisplay_seats (l b : Nat) : (markDisplay l b s).seats = s.seats := rfl
@[simp] theorem markDisplay_mix (l b : Nat) : (markDisplay l b s).mix = s.mix := rfl
@[simp] theorem markDisplay_sense (l b : Nat) : (markDisplay l b s).sense = s.sense := rfl
@[simp] theorem markDisplay_route (l b : Nat) : (markDisplay l b s).route = s.route := rfl
@[simp] theorem markDisplay_segment (l b : Nat) : (markDisplay l b s).segment = s.segment := rfl
@[simp] theorem markDisplay_announce (l b : Nat) : (markDisplay l b s).announce = s.announce := rfl
@[simp] theorem markDisplay_lighting (l b : Nat) : (markDisplay l b s).lighting = s.lighting := rfl
@[simp] theorem markDisplay_manage (l b : Nat) : (markDisplay l b s).manage = s.manage := rfl
@[simp] theorem markDisplay_report (l b : Nat) : (markDisplay l b s).report = s.report := rfl
@[simp] theorem markDisplay_clockPhase (l b : Nat) : (markDisplay l b s).clockPhase = s.clockPhase := rfl
@[simp] theorem markDisplay_pending (l b : Nat) : (markDisplay l b s).pending = s.pending := rfl

/-! ### loseNotice -/

@[simp] theorem loseNotice_link  : (loseNotice s).link = s.link := rfl
@[simp] theorem loseNotice_playout  : (loseNotice s).playout = s.playout := rfl
@[simp] theorem loseNotice_seats  : (loseNotice s).seats = s.seats := rfl
@[simp] theorem loseNotice_mix  : (loseNotice s).mix = s.mix := rfl
@[simp] theorem loseNotice_lines  : (loseNotice s).lines = s.lines := rfl
@[simp] theorem loseNotice_sense  : (loseNotice s).sense = s.sense := rfl
@[simp] theorem loseNotice_route  : (loseNotice s).route = s.route := rfl
@[simp] theorem loseNotice_segment  : (loseNotice s).segment = s.segment := rfl
@[simp] theorem loseNotice_announce  : (loseNotice s).announce = s.announce := rfl
@[simp] theorem loseNotice_lighting  : (loseNotice s).lighting = s.lighting := rfl
@[simp] theorem loseNotice_manage  : (loseNotice s).manage = { s.manage with noticesLost := true } := rfl
@[simp] theorem loseNotice_report  : (loseNotice s).report = s.report := rfl
@[simp] theorem loseNotice_clockPhase  : (loseNotice s).clockPhase = s.clockPhase := rfl
@[simp] theorem loseNotice_pending  : (loseNotice s).pending = s.pending := rfl

/-! ### notify -/

@[simp] theorem notify_link (n : Notice) : (notify n s).link = s.link := by unfold notify; split <;> rfl
@[simp] theorem notify_playout (n : Notice) : (notify n s).playout = s.playout := by unfold notify; split <;> rfl
@[simp] theorem notify_seats (n : Notice) : (notify n s).seats = s.seats := by unfold notify; split <;> rfl
@[simp] theorem notify_mix (n : Notice) : (notify n s).mix = s.mix := by unfold notify; split <;> rfl
@[simp] theorem notify_lines (n : Notice) : (notify n s).lines = s.lines := by unfold notify; split <;> rfl
@[simp] theorem notify_sense (n : Notice) : (notify n s).sense = s.sense := by unfold notify; split <;> rfl
@[simp] theorem notify_route (n : Notice) : (notify n s).route = s.route := by unfold notify; split <;> rfl
@[simp] theorem notify_segment (n : Notice) : (notify n s).segment = s.segment := by unfold notify; split <;> rfl
@[simp] theorem notify_announce (n : Notice) : (notify n s).announce = s.announce := by unfold notify; split <;> rfl
@[simp] theorem notify_lighting (n : Notice) : (notify n s).lighting = s.lighting := by unfold notify; split <;> rfl
@[simp] theorem notify_report (n : Notice) : (notify n s).report = s.report := by unfold notify; split <;> rfl
@[simp] theorem notify_clockPhase (n : Notice) : (notify n s).clockPhase = s.clockPhase := by unfold notify; split <;> rfl
@[simp] theorem notify_pending (n : Notice) : (notify n s).pending = s.pending := by unfold notify; split <;> rfl

@[simp] theorem notify_requests (n : Notice) : (notify n s).manage.requests = s.manage.requests := by
  unfold notify; split <;> rfl

@[simp] theorem notify_replies (n : Notice) : (notify n s).manage.replies = s.manage.replies := by
  unfold notify; split <;> rfl

/-- What a notice does (R173): it joins a queue that holds fewer than 16, and otherwise sets the flag. -/
theorem notify_spec (n : Notice) :
    (s.manage.notices.length < 16 → (notify n s).manage = { s.manage with notices := s.manage.notices ++ [n] }) ∧
    (16 ≤ s.manage.notices.length → (notify n s).manage = { s.manage with noticesLost := true }) := by
  constructor <;> intro h
  · have h' : s.manage.notices.length < Config.noticeDepth := h
    unfold notify; rw [if_pos h']
  · have h' : ¬ s.manage.notices.length < Config.noticeDepth := Nat.not_lt.mpr h
    unfold notify; rw [if_neg h']

/-- A notice never takes the queue past 16. -/
theorem notify_notices_le (n : Notice) (h : s.manage.notices.length ≤ 16) :
    (notify n s).manage.notices.length ≤ 16 := by
  rcases Nat.lt_or_ge s.manage.notices.length 16 with hlt | hge
  · rw [((notify_spec s n).1 hlt)]; simpa using hlt
  · rw [((notify_spec s n).2 hge)]; exact h

end Sys2Proof.Machine
end

