-- ==== Sys2Proof/Laws/PathFrame.lean ====
section
/-! SUPPORT. What the announcement controller, live control's grant, the chime generator and the lighting layers can
change, said once: everything outside these blocks and the notice queue stays as it was. -/

namespace Sys2Proof.Machine

/-- `t` differs from `s` at most in the announcement controller, the chime generator, segment and live control, the
lighting controller and the notices. -/
structure PathFrame (s t : State) : Prop where
  link : t.link = s.link
  playout : t.playout = s.playout
  seats : t.seats = s.seats
  lines : t.lines = s.lines
  sense : t.sense = s.sense
  route : t.route = s.route
  report : t.report = s.report
  clockPhase : t.clockPhase = s.clockPhase
  pending : t.pending = s.pending
  requests : t.manage.requests = s.manage.requests
  replies : t.manage.replies = s.manage.replies
  mix : t.mix = { s.mix with generator := t.mix.generator }

namespace PathFrame

theorem refl (s : State) : PathFrame s s := ⟨rfl, rfl, rfl, rfl, rfl, rfl, rfl, rfl, rfl, rfl, rfl, rfl⟩

theorem trans {a b c : State} (h : PathFrame a b) (k : PathFrame b c) : PathFrame a c where
  link := k.link.trans h.link
  playout := k.playout.trans h.playout
  seats := k.seats.trans h.seats
  lines := k.lines.trans h.lines
  sense := k.sense.trans h.sense
  route := k.route.trans h.route
  report := k.report.trans h.report
  clockPhase := k.clockPhase.trans h.clockPhase
  pending := k.pending.trans h.pending
  requests := k.requests.trans h.requests
  replies := k.replies.trans h.replies
  mix := by rw [k.mix, h.mix]

end PathFrame

variable (s : State)

theorem notify_pathFrame (n : Notice) : PathFrame s (notify n s) := by
  unfold notify; split <;> exact ⟨rfl, rfl, rfl, rfl, rfl, rfl, rfl, rfl, rfl, rfl, rfl, rfl⟩

theorem setAlert_pathFrame (x : Option Nat) : PathFrame s (setAlert x s) := by
  unfold setAlert; split <;> exact ⟨rfl, rfl, rfl, rfl, rfl, rfl, rfl, rfl, rfl, rfl, rfl, rfl⟩

theorem setIndicator_pathFrame (x : Bool) : PathFrame s (setIndicator x s) := by
  unfold setIndicator; split <;> exact ⟨rfl, rfl, rfl, rfl, rfl, rfl, rfl, rfl, rfl, rfl, rfl, rfl⟩

theorem setForce_pathFrame (x : Option Nat) : PathFrame s (setForce x s) := by
  unfold setForce; split <;> exact ⟨rfl, rfl, rfl, rfl, rfl, rfl, rfl, rfl, rfl, rfl, rfl, rfl⟩

theorem setCueScene_pathFrame (x : Option Nat) : PathFrame s (setCueScene x s) := by
  unfold setCueScene; split <;> exact ⟨rfl, rfl, rfl, rfl, rfl, rfl, rfl, rfl, rfl, rfl, rfl, rfl⟩

theorem setBaseScene_pathFrame (x : Option Nat) : PathFrame s (setBaseScene x s) := by
  unfold setBaseScene; split <;> exact ⟨rfl, rfl, rfl, rfl, rfl, rfl, rfl, rfl, rfl, rfl, rfl, rfl⟩

theorem requestChime_pathFrame (n : Nat) (ticket : Option Nat) (mask : ZoneMask) :
    PathFrame s (requestChime n ticket mask s) := ⟨rfl, rfl, rfl, rfl, rfl, rfl, rfl, rfl, rfl, rfl, rfl, rfl⟩

theorem requestBeep_pathFrame (l b : Nat) : PathFrame s (requestBeep l b s) := by
  unfold requestBeep
  split
  · exact ⟨rfl, rfl, rfl, rfl, rfl, rfl, rfl, rfl, rfl, rfl, rfl, rfl⟩
  · split <;> exact ⟨rfl, rfl, rfl, rfl, rfl, rfl, rfl, rfl, rfl, rfl, rfl, rfl⟩

theorem stopChime_pathFrame : PathFrame s (stopChime s) := by
  unfold stopChime
  split
  · exact .refl s
  · split <;> exact ⟨rfl, rfl, rfl, rfl, rfl, rfl, rfl, rfl, rfl, rfl, rfl, rfl⟩

theorem grantLive_pathFrame (mask : LanguageMask) : PathFrame s (grantLive mask s) :=
  .trans (b := { s with segment := { s.segment with live := .on, liveMask := mask, heldMask := 0 } })
    ⟨rfl, rfl, rfl, rfl, rfl, rfl, rfl, rfl, rfl, rfl, rfl, rfl⟩ (notify_pathFrame _ _)

theorem pathFreeReport_pathFrame : PathFrame s (pathFreeReport s) := by
  unfold pathFreeReport
  split
  · exact grantLive_pathFrame _ _
  · exact .refl s

theorem setPath_pathFrame (p : Option Entry) : PathFrame s (setPath p s) :=
  ⟨rfl, rfl, rfl, rfl, rfl, rfl, rfl, rfl, rfl, rfl, rfl, rfl⟩

theorem setWaiting_pathFrame (w : List Entry) : PathFrame s (setWaiting w s) :=
  ⟨rfl, rfl, rfl, rfl, rfl, rfl, rfl, rfl, rfl, rfl, rfl, rfl⟩

theorem stopTimers_pathFrame : PathFrame s (stopTimers s) :=
  ⟨rfl, rfl, rfl, rfl, rfl, rfl, rfl, rfl, rfl, rfl, rfl, rfl⟩

theorem enterStartingClip_pathFrame (e : Entry) : PathFrame s (enterStartingClip e s) :=
  ⟨rfl, rfl, rfl, rfl, rfl, rfl, rfl, rfl, rfl, rfl, rfl, rfl⟩

theorem reportAlert_pathFrame : PathFrame s (reportAlert s) := setAlert_pathFrame _ _

theorem returnToWaiting_pathFrame (e : Entry) : PathFrame s (returnToWaiting e s) :=
  .trans (setWaiting_pathFrame _ _) (setPath_pathFrame _ _)

theorem startEntry_pathFrame (w : Entry) : PathFrame s (startEntry w s) := by
  unfold startEntry
  dsimp only
  split <;> exact ⟨rfl, rfl, rfl, rfl, rfl, rfl, rfl, rfl, rfl, rfl, rfl, rfl⟩

theorem beginChimeOnly_pathFrame (e : Entry) : PathFrame s (beginChimeOnly e s).1 := by
  unfold beginChimeOnly
  split <;> exact ⟨rfl, rfl, rfl, rfl, rfl, rfl, rfl, rfl, rfl, rfl, rfl, rfl⟩

theorem startDown_pathFrame (fuel : Nat) : PathFrame s (startDown fuel s).1 := by
  induction fuel generalizing s with
  | zero => exact .refl s
  | succ n ih =>
    rw [startDown]
    split
    · exact .refl s
    · split
      · have begun : ∀ w : Entry, ∀ u : State, PathFrame s u → PathFrame s (beginChimeOnly w u).1 :=
          fun w u h => h.trans (beginChimeOnly_pathFrame u w)
        dsimp only
        split
        · exact (begun _ _ ((setWaiting_pathFrame s _).trans (notify_pathFrame _ _))).trans (ih _)
        · exact begun _ _ ((setWaiting_pathFrame s _).trans (notify_pathFrame _ _))
      · exact .refl s

theorem startStep_pathFrame : PathFrame s (startStep s).1 := by
  unfold startStep
  split
  · exact .refl s
  · split
    · split
      · exact .refl s
      · exact (setWaiting_pathFrame _ _).trans (startEntry_pathFrame _ _)
    · exact startDown_pathFrame _ _

theorem reportIfFree_pathFrame : PathFrame s (reportIfFree s) := by
  unfold reportIfFree
  split
  · exact .refl s
  · exact pathFreeReport_pathFrame s

theorem afterEnding_pathFrame : PathFrame s (afterEnding s) :=
  ((startStep_pathFrame s).trans (reportAlert_pathFrame _)).trans (reportIfFree_pathFrame _)

theorem afterArrival_pathFrame : PathFrame s (afterArrival s) := by
  have h := (startStep_pathFrame s).trans (reportAlert_pathFrame _)
  unfold afterArrival
  split
  · exact .refl s
  · dsimp only
    split
    · exact h.trans (reportIfFree_pathFrame _)
    · exact h

theorem insertRequest_pathFrame (r : AnnRequest) : PathFrame s (insertRequest r s) :=
  ⟨rfl, rfl, rfl, rfl, rfl, rfl, rfl, rfl, rfl, rfl, rfl, rfl⟩

theorem preempt_pathFrame (e : Entry) : PathFrame s (preempt e s) := by
  have h : PathFrame s (if e.state = .startingChime then stopChime s else s) := by
    split
    · exact stopChime_pathFrame s
    · exact .refl s
  exact ((h.trans (stopTimers_pathFrame _)).trans (notify_pathFrame _ _)).trans (returnToWaiting_pathFrame _ _)

theorem afterInsertion_pathFrame (c : AnnClass) : PathFrame s (afterInsertion c s) := by
  unfold afterInsertion
  split
  · split
    · exact (preempt_pathFrame _ _).trans (afterArrival_pathFrame _)
    · exact .refl s
  · exact afterArrival_pathFrame s

theorem announceRequest_pathFrame (r : AnnRequest) : PathFrame s (announceRequest r s) := by
  unfold announceRequest
  split
  · exact setWaiting_pathFrame _ _
  · split
    · exact (insertRequest_pathFrame _ _).trans (afterInsertion_pathFrame _ _)
    · split
      · split
        · exact (((setWaiting_pathFrame _ _).trans (notify_pathFrame _ _)).trans
            (insertRequest_pathFrame _ _)).trans (afterInsertion_pathFrame _ _)
        · exact notify_pathFrame _ _
      · exact notify_pathFrame _ _

theorem announceAll_pathFrame (rs : List AnnRequest) : PathFrame s (announceAll rs s) := by
  induction rs generalizing s with
  | nil => exact .refl s
  | cons r rs ih => exact (announceRequest_pathFrame s r).trans (ih _)

theorem chimeEnded_pathFrame : PathFrame s (chimeEnded s) := by
  unfold chimeEnded
  split
  · exact .refl s
  · split
    · exact enterStartingClip_pathFrame _ _
    · exact (setPath_pathFrame _ _).trans (afterEnding_pathFrame _)
    · exact .refl s

theorem blockKept_pathFrame (ticket : Nat) : PathFrame s (blockKept ticket s) := by
  unfold blockKept
  split
  · exact .refl s
  · split
    · exact ⟨rfl, rfl, rfl, rfl, rfl, rfl, rfl, rfl, rfl, rfl, rfl, rfl⟩
    · exact .refl s

theorem removePath_pathFrame : PathFrame s (removePath s) :=
  (setPath_pathFrame _ _).trans (stopTimers_pathFrame _)

theorem endReported_pathFrame (ticket : Nat) : PathFrame s (endReported ticket s) := by
  unfold endReported
  split
  · exact .refl s
  · split
    · exact ((removePath_pathFrame s).trans (notify_pathFrame _ _)).trans (afterEnding_pathFrame _)
    · exact .refl s

theorem startTimedOut_pathFrame : PathFrame s (startTimedOut s) := by
  unfold startTimedOut
  split
  · exact .refl s
  · split
    · exact ((removePath_pathFrame s).trans (notify_pathFrame _ _)).trans (afterEnding_pathFrame _)
    · exact .refl s

theorem durationRanOut_pathFrame : PathFrame s (durationRanOut s) := by
  unfold durationRanOut
  split
  · exact .refl s
  · split
    · exact (((removePath_pathFrame s).trans (notify_pathFrame _ _)).trans (notify_pathFrame _ _)).trans
        (afterEnding_pathFrame _)
    · exact .refl s

theorem cancelPath_pathFrame (e : Entry) : PathFrame s (cancelPath e s) := by
  have h : PathFrame s (removePath (if e.state = .startingChime || e.state = .chimeOnly then stopChime s else s)) := by
    refine PathFrame.trans ?_ (removePath_pathFrame _)
    split
    · exact stopChime_pathFrame s
    · exact .refl s
  unfold cancelPath
  dsimp only
  split
  · exact h.trans (afterEnding_pathFrame _)
  · exact (h.trans (notify_pathFrame _ _)).trans (afterEnding_pathFrame _)

theorem cancelTicket_pathFrame (ticket : Nat) : PathFrame s (cancelTicket ticket s).1 := by
  unfold cancelTicket
  split
  · split
    · exact cancelPath_pathFrame _ _
    · exact .refl s
  · exact .refl s

theorem cancelClass_pathFrame (c : AnnClass) : PathFrame s (cancelClass c s).1 := by
  unfold cancelClass
  dsimp only
  split
  · split
    · exact (setWaiting_pathFrame _ _).trans (cancelPath_pathFrame _ _)
    · exact setWaiting_pathFrame _ _
  · exact setWaiting_pathFrame _ _

theorem announceLinkLoss_pathFrame : PathFrame s (announceLinkLoss s).1 := by
  unfold announceLinkLoss
  split
  · exact .refl s
  · rename_i e _
    have h : PathFrame s (stopTimers (if e.state = .startingChime then stopChime s else s)) := by
      refine PathFrame.trans ?_ (stopTimers_pathFrame _)
      split
      · exact stopChime_pathFrame s
      · exact .refl s
    split
    · exact .refl s
    · exact .refl s
    · dsimp only
      generalize stopTimers (if e.state = .startingChime then stopChime s else s) = u at h ⊢
      split
      · have k := (h.trans (notify_pathFrame _ (.clipFailed (e.ticket.getD 0) e.clip e.cls .link))).trans
          (beginChimeOnly_pathFrame _ e)
        generalize beginChimeOnly e (notify (.clipFailed (e.ticket.getD 0) e.clip e.cls .link) u) = v at k ⊢
        refine PathFrame.trans ?_ (reportAlert_pathFrame _)
        split
        · exact k.trans (startStep_pathFrame _)
        · exact k
      · split
        · exact ((h.trans (returnToWaiting_pathFrame _ _)).trans (startStep_pathFrame _)).trans
            (reportAlert_pathFrame _)
        · exact (((h.trans (setPath_pathFrame _ _)).trans (notify_pathFrame _ _)).trans
            (startStep_pathFrame _)).trans (reportAlert_pathFrame _)

/-- Requests sent together are sent one after the other, in their order (R96). -/
theorem announceAll_eq_foldl (requests : List AnnRequest) :
    announceAll requests s = requests.foldl (fun x r => announceRequest r x) s := by
  induction requests generalizing s with
  | nil => rfl
  | cons r rest ih => exact ih _

end Sys2Proof.Machine
end

