-- ==== Sys2Proof/Laws/RouteFrame.lean ====
section
/-! SUPPORT. What the route engine can change beyond itself, said once: what the announcement layer changes, and the
segment record. -/

namespace Sys2Proof.Machine

/-- `t` differs from `s` at most in the route engine and in what `PathFrame` allows. -/
structure RouteFrame (s t : State) : Prop where
  link : t.link = s.link
  playout : t.playout = s.playout
  seats : t.seats = s.seats
  lines : t.lines = s.lines
  sense : t.sense = s.sense
  report : t.report = s.report
  clockPhase : t.clockPhase = s.clockPhase
  pending : t.pending = s.pending
  requests : t.manage.requests = s.manage.requests
  replies : t.manage.replies = s.manage.replies
  mix : t.mix = { s.mix with generator := t.mix.generator }

theorem PathFrame.routeFrame {s t : State} (h : PathFrame s t) : RouteFrame s t :=
  ⟨h.link, h.playout, h.seats, h.lines, h.sense, h.report, h.clockPhase, h.pending, h.requests, h.replies, h.mix⟩

namespace RouteFrame

theorem refl (s : State) : RouteFrame s s := (PathFrame.refl s).routeFrame

theorem trans {a b c : State} (h : RouteFrame a b) (k : RouteFrame b c) : RouteFrame a c where
  link := k.link.trans h.link
  playout := k.playout.trans h.playout
  seats := k.seats.trans h.seats
  lines := k.lines.trans h.lines
  sense := k.sense.trans h.sense
  report := k.report.trans h.report
  clockPhase := k.clockPhase.trans h.clockPhase
  pending := k.pending.trans h.pending
  requests := k.requests.trans h.requests
  replies := k.replies.trans h.replies
  mix := by rw [k.mix, h.mix]

/-- An update of the route engine alone. -/
theorem setRoute (s : State) (r : Route) : RouteFrame s { s with route := r } :=
  ⟨rfl, rfl, rfl, rfl, rfl, rfl, rfl, rfl, rfl, rfl, rfl⟩

/-- An update of segment and live control alone. -/
theorem setSegment (s : State) (x : Segment) : RouteFrame s { s with segment := x } :=
  ⟨rfl, rfl, rfl, rfl, rfl, rfl, rfl, rfl, rfl, rfl, rfl⟩

end RouteFrame

variable (s : State)

theorem notify_routeFrame (n : Notice) : RouteFrame s (notify n s) := (notify_pathFrame s n).routeFrame

theorem announceRequest_routeFrame (r : AnnRequest) : RouteFrame s (announceRequest r s) :=
  (announceRequest_pathFrame s r).routeFrame

theorem recordSegment_routeFrame (n : Nat) : RouteFrame s (recordSegment n s) :=
  ⟨rfl, rfl, rfl, rfl, rfl, rfl, rfl, rfl, rfl, rfl, rfl⟩

theorem setCueState_routeFrame (i : Nat) (x : CueState) : RouteFrame s (setCueState i x s) := .setRoute s _

theorem leaveList_routeFrame (i : Nat) : RouteFrame s (leaveList i s) := .setRoute s _

theorem clearStop_routeFrame : RouteFrame s (clearStop s) := .setRoute s _

theorem setCursor_routeFrame (n : Nat) : RouteFrame s (setCursor n s) := .setRoute s _

theorem setDistance_routeFrame (d : BitVec 40) : RouteFrame s (setDistance d s) := .setRoute s _

theorem cueAction_routeFrame (i : Nat) (c : Cue) : RouteFrame s (cueAction i c s) := by
  unfold cueAction
  split
  · exact recordSegment_routeFrame _ _
  · exact announceRequest_routeFrame _ _
  · have h : RouteFrame s
        (if stopIs c.stop s then notify (.stopReached c.stop) (clearStop s) else s) := by
      split
      · exact (clearStop_routeFrame s).trans (notify_routeFrame _ _)
      · exact .refl s
    dsimp only
    generalize (if stopIs c.stop s then notify (.stopReached c.stop) (clearStop s) else s) = u at h ⊢
    split
    · exact h
    · exact h.trans (announceRequest_routeFrame _ _)
  · exact announceRequest_routeFrame _ _
  · exact (setCueScene_pathFrame _ _).routeFrame
  · exact .refl s
  · exact .refl s

theorem fireCue_routeFrame (i : Nat) : RouteFrame s (fireCue i s) :=
  (((setCueState_routeFrame s i .fired).trans (leaveList_routeFrame _ i)).trans (notify_routeFrame _ _)).trans
    (cueAction_routeFrame _ _ _)

theorem skipCue_routeFrame (i : Nat) (r : SkipReason) : RouteFrame s (skipCue i r s) := by
  have h : RouteFrame s (notify (.cueSkipped i r (position s)) (leaveList i (setCueState i .skipped s))) :=
    ((setCueState_routeFrame s i .skipped).trans (leaveList_routeFrame _ i)).trans (notify_routeFrame _ _)
  unfold skipCue
  dsimp only
  split
  · split
    · exact (h.trans (clearStop_routeFrame _)).trans (notify_routeFrame _ _)
    · exact h
  · exact h

theorem joinList_routeFrame (i : Nat) : RouteFrame s (joinList i s) := by
  unfold joinList
  refine RouteFrame.trans ?_ (RouteFrame.setRoute _ _)
  split
  · exact .refl s
  · split
    · exact skipCue_routeFrame _ _ _
    · exact .refl s

theorem evaluatePending_routeFrame (i : Nat) (used : Bool) : RouteFrame s (evaluatePending i s used).1 := by
  unfold evaluatePending
  dsimp only
  split
  · split
    · split
      · exact fireCue_routeFrame _ _
      · exact setCueState_routeFrame _ _ _
    · exact fireCue_routeFrame _ _
  · exact .refl s

theorem openPass_routeFrame (l : List Nat) (used : Bool) : RouteFrame s (openPass l s used).1 := by
  induction l generalizing s used with
  | nil => exact .refl s
  | cons i rest ih =>
    rw [openPass]
    dsimp only
    split
    · exact (skipCue_routeFrame s i .window).trans (ih _ _)
    · split
      · exact (evaluatePending_routeFrame s i used).trans (ih _ _)
      · exact ih _ _

theorem crossArmed_routeFrame (i : Nat) (used : Bool) : RouteFrame s (crossArmed i s used).1 := by
  unfold crossArmed
  dsimp only
  split
  · split
    · split
      · exact fireCue_routeFrame _ _
      · split
        · exact skipCue_routeFrame _ _ _
        · exact (setCueState_routeFrame _ _ _).trans (joinList_routeFrame _ _)
    · exact fireCue_routeFrame _ _
  · split
    · exact skipCue_routeFrame _ _ _
    · exact (setCueState_routeFrame _ _ _).trans (joinList_routeFrame _ _)

theorem crossing_routeFrame (fuel : Nat) (used : Bool) : RouteFrame s (crossing fuel s used) := by
  induction fuel generalizing s used with
  | zero => exact .refl s
  | succ n ih =>
    rw [crossing]
    dsimp only
    split
    · exact .refl s
    · split
      · exact (setCursor_routeFrame s _).trans (ih _ _)
      · split
        · exact .refl s
        · split
          · exact ((setCursor_routeFrame s _).trans (crossArmed_routeFrame _ _ _)).trans (ih _ _)
          · exact (setCursor_routeFrame s _).trans (ih _ _)

theorem positionStep_routeFrame : RouteFrame s (positionStep s) :=
  (openPass_routeFrame s _ _).trans (crossing_routeFrame _ _ _)

theorem resultPass_routeFrame (c : Nat) (l : List Nat) (used : Bool) : RouteFrame s (resultPass c l s used) := by
  induction l generalizing s used with
  | nil => exact .refl s
  | cons i rest ih =>
    rw [resultPass]
    dsimp only
    split
    · exact (evaluatePending_routeFrame s i used).trans (ih _ _)
    · exact ih _ _

theorem resultReport_routeFrame (c : Nat) : RouteFrame s (resultReport c s) := by
  unfold resultReport
  split
  · exact resultPass_routeFrame _ _ _ _
  · exact .refl s

theorem retryPass_routeFrame (l : List Nat) : RouteFrame s (retryPass l s) := by
  induction l generalizing s with
  | nil => exact .refl s
  | cons i rest ih =>
    rw [retryPass]
    split
    · exact fireCue_routeFrame _ _
    · exact ih s

theorem retry_routeFrame : RouteFrame s (retry s) := by
  unfold retry
  split
  · exact retryPass_routeFrame _ _
  · exact .refl s

theorem backward_routeFrame (m : Nat) : RouteFrame s (backward m s) := .setRoute s _

theorem fixPosition_routeFrame (m : Nat) : RouteFrame s (fixPosition m s) := by
  have h := setDistance_routeFrame s (metres m)
  unfold fixPosition
  dsimp only
  split
  · exact h.trans (backward_routeFrame _ _)
  · split
    · exact h
    · split
      · exact h.trans (positionStep_routeFrame _)
      · exact h

theorem routeEdge_routeFrame : RouteFrame s (routeEdge s) := by
  unfold routeEdge
  split
  · exact .refl s
  · dsimp only
    have h := setDistance_routeFrame s (BitVec.ofNat 40 (s.route.distance.toNat + pulseLength s))
    split
    · exact (h.trans (notify_routeFrame _ _)).trans (backward_routeFrame _ _)
    · split
      · exact h.trans (positionStep_routeFrame _)
      · exact h

theorem routeClearsStop_routeFrame : RouteFrame s (routeClearsStop s) := by
  unfold routeClearsStop
  split
  · exact (clearStop_routeFrame s).trans (notify_routeFrame _ _)
  · exact .refl s

theorem stopRoute_routeFrame : RouteFrame s (stopRoute s) :=
  (RouteFrame.setRoute s _).trans (routeClearsStop_routeFrame _)

theorem stopPress_routeFrame (l b : Nat) : RouteFrame s (stopPress l b s) := by
  unfold stopPress
  split
  · exact .refl s
  · split
    · exact .refl s
    · exact (RouteFrame.setRoute s _).trans (notify_routeFrame _ _)

theorem dropLive_routeFrame (s : State) : RouteFrame s (dropLive s) :=
  (RouteFrame.setSegment s _).trans (notify_routeFrame _ _)

theorem endLive_routeFrame : RouteFrame s (endLive s) := by
  unfold endLive endLiveAround
  split
  · exact .refl s
  · exact (dropLive_routeFrame s).trans (retry_routeFrame _)

theorem askLive_routeFrame (mask : LanguageMask) : RouteFrame s (askLive mask s).1 := by
  unfold askLive
  dsimp only
  split
  · exact .setSegment s _
  · split
    · exact .setSegment s _
    · exact (grantLive_pathFrame _ _).routeFrame

theorem setSegmentCopy_routeFrame (n : Nat) :
    RouteFrame { s with playout := { s.playout with segmentCopy := n } } (setSegmentCopy n s) := by
  unfold setSegmentCopy
  dsimp only
  split
  · exact retry_routeFrame _
  · exact .refl _

/-- The handover changes the buffer, and by its retry what the route engine can change (R11, R14, R127). -/
theorem handOver_routeFrame : RouteFrame { s with playout := (handOver s).2.playout } (handOver s).2 := by
  unfold handOver
  split
  · exact .refl s
  · split
    · exact .refl _
    · rename_i f rest _
      have h := setSegmentCopy_routeFrame { s with playout := { s.playout with queue := rest } } f.segment
      rw [h.playout]
      exact h

end Sys2Proof.Machine
end

