-- ==== Sys2Proof/Laws/LinesFrame.lean ====
section
/-! SUPPORT. What the seat line controllers and the seat record store can change, said once: the lines, the seats, a
requested stop, the chime generator and the notices. -/

namespace Sys2Proof.Machine

/-- `t` differs from `s` at most in the lines, the seat record store, the route's requested stop, the chime generator
and the notices. -/
structure LinesFrame (s t : State) : Prop where
  link : t.link = s.link
  playout : t.playout = s.playout
  sense : t.sense = s.sense
  segment : t.segment = s.segment
  announce : t.announce = s.announce
  lighting : t.lighting = s.lighting
  report : t.report = s.report
  clockPhase : t.clockPhase = s.clockPhase
  pending : t.pending = s.pending
  requests : t.manage.requests = s.manage.requests
  replies : t.manage.replies = s.manage.replies
  mix : t.mix = { s.mix with generator := t.mix.generator }
  route : t.route = { s.route with requested := t.route.requested }

namespace LinesFrame

theorem refl (s : State) : LinesFrame s s := ⟨rfl, rfl, rfl, rfl, rfl, rfl, rfl, rfl, rfl, rfl, rfl, rfl, rfl⟩

theorem trans {a b c : State} (h : LinesFrame a b) (k : LinesFrame b c) : LinesFrame a c where
  link := k.link.trans h.link
  playout := k.playout.trans h.playout
  sense := k.sense.trans h.sense
  segment := k.segment.trans h.segment
  announce := k.announce.trans h.announce
  lighting := k.lighting.trans h.lighting
  report := k.report.trans h.report
  clockPhase := k.clockPhase.trans h.clockPhase
  pending := k.pending.trans h.pending
  requests := k.requests.trans h.requests
  replies := k.replies.trans h.replies
  mix := by rw [k.mix, h.mix]
  route := by rw [k.route, h.route]

/-- An update of the lines alone. -/
theorem setLines (s : State) (x : SeatLines) : LinesFrame s { s with lines := x } :=
  ⟨rfl, rfl, rfl, rfl, rfl, rfl, rfl, rfl, rfl, rfl, rfl, rfl, rfl⟩

/-- An update of the seat record store alone. -/
theorem setSeats (s : State) (x : SeatStore) : LinesFrame s { s with seats := x } :=
  ⟨rfl, rfl, rfl, rfl, rfl, rfl, rfl, rfl, rfl, rfl, rfl, rfl, rfl⟩

end LinesFrame

variable (s : State)

theorem setLine_linesFrame (l : Nat) (f : Line → Line) : LinesFrame s (setLine l f s) := .setLines s _

theorem setBox_linesFrame (l b : Nat) (f : Box → Box) : LinesFrame s (setBox l b f s) := .setLines s _

theorem setSeat_linesFrame (n : Nat) (f : Seat → Seat) : LinesFrame s (setSeat n f s) := .setSeats s _

theorem notify_linesFrame (n : Notice) : LinesFrame s (notify n s) := by
  unfold notify; split <;> exact ⟨rfl, rfl, rfl, rfl, rfl, rfl, rfl, rfl, rfl, rfl, rfl, rfl, rfl⟩

theorem setLanguage_linesFrame (n : Nat) (x : Option Nat) : LinesFrame s (setLanguage n x s) := by
  unfold setLanguage
  split
  · exact .refl s
  · exact (setSeat_linesFrame s n _).trans (setBox_linesFrame _ _ _ _)

theorem setVolume_linesFrame (n v : Nat) : LinesFrame s (setVolume n v s) := by
  unfold setVolume
  split
  · exact .refl s
  · exact (setSeat_linesFrame s n _).trans (setBox_linesFrame _ _ _ _)

theorem applySeatWrites_linesFrame (n : Nat) (ws : List SeatWrite) : LinesFrame s (applySeatWrites n ws s) := by
  induction ws generalizing s n with
  | nil => exact .refl s
  | cons w ws ih =>
    exact (((setSeat_linesFrame s n _).trans (setLanguage_linesFrame _ _ _)).trans
      (setVolume_linesFrame _ _ _)).trans (ih _ _)

theorem applySeatHeld_linesFrame (held : List HeldSeatWrite) : LinesFrame s (applySeatHeld held s) := by
  induction held generalizing s with
  | nil => exact .refl s
  | cons w ws ih =>
    cases w with
    | language first records => exact (LinesFrame.setSeats s _).trans (ih _)
    | seat first records => exact (applySeatWrites_linesFrame s first records).trans (ih _)

theorem moveSeats_linesFrame (l : List Nat) : LinesFrame s (moveSeats l s) := by
  induction l generalizing s with
  | nil => exact .refl s
  | cons n rest ih => exact (setLanguage_linesFrame s n _).trans (ih _)

theorem takeJack_linesFrame (n : Nat) (j : Bool) : LinesFrame s (takeJack n j s) := by
  unfold takeJack
  dsimp only
  split
  · exact (setSeat_linesFrame s n _).trans (setVolume_linesFrame _ _ _)
  · exact setSeat_linesFrame s n _

theorem deliverSide_linesFrame (b : Bool) (n : Nat) (x : SideStatus) : LinesFrame s (deliverSide b n x s) := by
  unfold deliverSide
  dsimp only
  split
  · exact ((((setSeat_linesFrame s n _).trans (takeJack_linesFrame _ _ _)).trans (setVolume_linesFrame _ _ _)).trans
      (setVolume_linesFrame _ _ _)).trans (setLanguage_linesFrame _ _ _)
  · exact .refl s

theorem deliverStatus_linesFrame (l b : Nat) (base : Bool) (a : StatusAnswer) :
    LinesFrame s (deliverStatus l b base a s) :=
  (deliverSide_linesFrame s _ _ _).trans (deliverSide_linesFrame _ _ _ _)

theorem fitSeats_linesFrame (l b n : Nat) : LinesFrame s (fitSeats l b n s) :=
  (setSeat_linesFrame s _ _).trans (setSeat_linesFrame _ _ _)

theorem beginTransaction_linesFrame (l b : Nat) (k : TxKind) (x : BoxState) :
    LinesFrame s (beginTransaction l b k x s) := by
  unfold beginTransaction
  dsimp only
  split
  · exact (setLine_linesFrame s l _).trans (setBox_linesFrame _ _ _ _)
  · exact setLine_linesFrame s l _

theorem servePoll_linesFrame (l b n : Nat) : LinesFrame s (servePoll l b n s) := by
  induction n generalizing s b with
  | zero => exact setLine_linesFrame s l _
  | succ n ih =>
    rw [servePoll]
    split
    · exact (setLine_linesFrame s l _).trans (beginTransaction_linesFrame _ _ _ _ _)
    · exact (setBox_linesFrame s l b _).trans (ih _ _)

theorem endTurn_linesFrame (l b : Nat) : LinesFrame s (endTurn l b s) := by
  unfold endTurn
  dsimp only
  split
  · exact (setBox_linesFrame s l b _).trans (setLine_linesFrame _ _ _)
  · exact ((setBox_linesFrame s l b _).trans (setLine_linesFrame _ _ _)).trans (servePoll_linesFrame _ _ _ _)

theorem setBoxState_linesFrame (l b : Nat) (x : BoxState) (n : Nat) : LinesFrame s (setBoxState l b x n s) := by
  unfold setBoxState
  dsimp only
  split
  · exact setBox_linesFrame s l b _
  · exact (setBox_linesFrame s l b _).trans (notify_linesFrame _ _)

theorem boxFailure_linesFrame (l b : Nat) : LinesFrame s (boxFailure l b s) := by
  unfold boxFailure
  dsimp only
  split
  · exact .refl s
  · exact setBoxState_linesFrame _ _ _ _ _

theorem boxSuccess_linesFrame (l b : Nat) : LinesFrame s (boxSuccess l b s) := by
  unfold boxSuccess
  dsimp only
  split
  · exact .refl s
  all_goals exact setBoxState_linesFrame _ _ _ _ _

theorem failTransaction_linesFrame (l : Nat) (tx : Transaction) (f : LineFailure) :
    LinesFrame s (failTransaction l tx f s) := by
  have h : LinesFrame s (if isCounted tx.kind f then setLine l (countFailure f) s else s) := by
    split
    · exact setLine_linesFrame _ _ _
    · exact .refl s
  unfold failTransaction
  dsimp only
  generalize (if isCounted tx.kind f then setLine l (countFailure f) s else s) = u at h ⊢
  split
  · exact h
  · exact h.trans (boxFailure_linesFrame _ _ _)
  · split
    · exact (h.trans (setBox_linesFrame u l tx.box _)).trans (boxFailure_linesFrame _ _ _)
    · exact h.trans (boxFailure_linesFrame _ _ _)

theorem stopPress_linesFrame (l b : Nat) : LinesFrame s (stopPress l b s) := by
  unfold stopPress
  split
  · exact .refl s
  · split
    · exact .refl s
    · refine LinesFrame.trans ?_ (notify_linesFrame _ _)
      exact ⟨rfl, rfl, rfl, rfl, rfl, rfl, rfl, rfl, rfl, rfl, rfl, rfl, rfl⟩

theorem requestBeep_linesFrame (l b : Nat) : LinesFrame s (requestBeep l b s) := by
  unfold requestBeep
  split
  · exact ⟨rfl, rfl, rfl, rfl, rfl, rfl, rfl, rfl, rfl, rfl, rfl, rfl, rfl⟩
  · split <;> exact ⟨rfl, rfl, rfl, rfl, rfl, rfl, rfl, rfl, rfl, rfl, rfl, rfl, rfl⟩

theorem takeStop_linesFrame (l b : Nat) (base : Bool) (n : BitVec 4) : LinesFrame s (takeStop l b base n s) := by
  unfold takeStop
  dsimp only
  split
  · exact setBox_linesFrame s l b _
  · exact ((setBox_linesFrame s l b _).trans (stopPress_linesFrame _ _ _)).trans (requestBeep_linesFrame _ _ _)

theorem takeBoxFault_linesFrame (l b : Nat) (v : Bool) : LinesFrame s (takeBoxFault l b v s) := by
  unfold takeBoxFault
  split
  · exact .refl s
  · exact (setBox_linesFrame s l b _).trans (notify_linesFrame _ _)

theorem actOnStatus_linesFrame (l b : Nat) (a : StatusAnswer) : LinesFrame s (actOnStatus l b a s) := by
  unfold actOnStatus
  dsimp only
  refine LinesFrame.trans ?_ (takeBoxFault_linesFrame _ _ _ _)
  refine LinesFrame.trans ?_ (takeStop_linesFrame _ _ _ _ _)
  have h := ((boxSuccess_linesFrame s l b).trans (deliverStatus_linesFrame _ l b
    (boxAt (boxSuccess l b s) l b).baselinePending a)).trans
    (setBox_linesFrame _ l b (fun x => { x with baselinePending := false }))
  split
  · exact h.trans (setLine_linesFrame _ _ _)
  · exact h

theorem afterStatus_linesFrame (l : Nat) (tx : Transaction) (ok : Bool) : LinesFrame s (afterStatus l tx ok s) := by
  unfold afterStatus
  split
  · exact beginTransaction_linesFrame _ _ _ _ _
  · exact endTurn_linesFrame _ _ _

theorem failStatus_linesFrame (l : Nat) (tx : Transaction) (f : LineFailure) :
    LinesFrame s (failStatus l tx f s) :=
  (failTransaction_linesFrame s l tx f).trans (afterStatus_linesFrame _ _ _ _)

theorem failAndGoOn_linesFrame (l : Nat) (tx : Transaction) (f : LineFailure) :
    LinesFrame s (failAndGoOn l tx f s) := by
  unfold failAndGoOn
  split
  · exact failStatus_linesFrame _ _ _ _
  · exact (failTransaction_linesFrame s l tx f).trans (endTurn_linesFrame _ _ _)

theorem activateBox_linesFrame (l b : Nat) (d : List Byte) : LinesFrame s (activateBox l b d s) :=
  ((setBox_linesFrame s l b _).trans (setBoxState_linesFrame _ _ _ _ _)).trans (fitSeats_linesFrame _ _ _ _)

theorem echoFailure_linesFrame (l : Nat) : LinesFrame s (echoFailure l s) := by
  unfold echoFailure
  split
  · exact .refl s
  · exact failAndGoOn_linesFrame _ _ _ _

theorem pairLow_linesFrame (l : Nat) (x : Bool) : LinesFrame s (pairLow l x s) := by
  unfold pairLow
  split
  · exact setLine_linesFrame _ _ _
  · split
    · exact echoFailure_linesFrame _ _
    · exact setLine_linesFrame _ _ _

theorem updateDisplays_linesFrame : LinesFrame s (updateDisplays s) := .setLines s _

theorem applyLineRecords_linesFrame (l : Nat) (ws : List LineWrite) :
    LinesFrame s (applyLineRecords l ws s) := by
  induction ws generalizing s l with
  | nil => exact .refl s
  | cons w ws ih => exact (setLine_linesFrame s l _).trans (ih _ _)

theorem applyLineHeld_linesFrame (held : List (Nat × List LineWrite)) : LinesFrame s (applyLineHeld held s) := by
  induction held generalizing s with
  | nil => exact .refl s
  | cons w ws ih => exact (applyLineRecords_linesFrame s w.1 w.2).trans (ih _)

theorem lineFrameWork_linesFrame : LinesFrame s (lineFrameWork s) :=
  (LinesFrame.setLines s _).trans (applyLineHeld_linesFrame _ _)

/-- The seat record store's work at a frame start, and live control's filter (R24, R132). -/
theorem seatFrameWork_frame : ∃ u, LinesFrame s u ∧
    (seatFrameWork s = u ∨ seatFrameWork s = filterLiveMasks u) := by
  refine ⟨moveSeats (List.range 96) (applySeatHeld s.seats.held { s with seats := { s.seats with held := [] } }),
    ((LinesFrame.setSeats s _).trans (applySeatHeld_linesFrame _ _)).trans (moveSeats_linesFrame _ _), ?_⟩
  unfold seatFrameWork
  dsimp only
  split
  · exact .inr rfl
  · exact .inl rfl

end Sys2Proof.Machine
end

