-- ==== Sys2Proof/Laws/LinkFrame.lean ====
section
/-! SUPPORT. What the frame checker's operations can do: the bytes that a gap leaves, and the state that holds them
(R179). -/

namespace Sys2Proof.Machine

/-! ### storeBytes -/

section
variable (ended : List (List Byte)) (bytes : List Byte) (s : State)

@[simp] theorem storeBytes_link : (storeBytes ended bytes s).link =
    { s.link with ended := (settleBursts [] ended bytes).1, received := (settleBursts [] ended bytes).2 } := rfl
@[simp] theorem storeBytes_playout : (storeBytes ended bytes s).playout = s.playout := rfl
@[simp] theorem storeBytes_seats : (storeBytes ended bytes s).seats = s.seats := rfl
@[simp] theorem storeBytes_mix : (storeBytes ended bytes s).mix = s.mix := rfl
@[simp] theorem storeBytes_lines : (storeBytes ended bytes s).lines = s.lines := rfl
@[simp] theorem storeBytes_sense : (storeBytes ended bytes s).sense = s.sense := rfl
@[simp] theorem storeBytes_route : (storeBytes ended bytes s).route = s.route := rfl
@[simp] theorem storeBytes_segment : (storeBytes ended bytes s).segment = s.segment := rfl
@[simp] theorem storeBytes_announce : (storeBytes ended bytes s).announce = s.announce := rfl
@[simp] theorem storeBytes_lighting : (storeBytes ended bytes s).lighting = s.lighting := rfl
@[simp] theorem storeBytes_manage : (storeBytes ended bytes s).manage = s.manage := rfl
@[simp] theorem storeBytes_report : (storeBytes ended bytes s).report = s.report := rfl
@[simp] theorem storeBytes_clockPhase : (storeBytes ended bytes s).clockPhase = s.clockPhase := rfl
@[simp] theorem storeBytes_pending : (storeBytes ended bytes s).pending = s.pending := rfl

end

/-- With no gap among the bytes, they are all held. -/
@[simp] theorem settleBursts_nil (carry bytes : List Byte) : settleBursts carry [] bytes = ([], carry ++ bytes) := rfl

/-! ### What a gap leaves -/

/-- Once the unfinished frames of a burst have ended, what is left of it holds a due frame first, or is a last byte 0xB7
or nothing. -/
theorem dropUnfinished_cases (bytes : List Byte) :
    (checkFrames (dropUnfinished bytes)).1 ≠ .unfinished ∨ dropUnfinished bytes = [] ∨
      dropUnfinished bytes = [0xB7#8] := by
  induction bytes with
  | nil => exact .inr (.inl rfl)
  | cons b rest ih =>
    cases rest with
    | nil => by_cases h : b = 0xB7#8 <;> simp [dropUnfinished, h]
    | cons c rest =>
      rw [dropUnfinished]
      split
      · exact ih
      · rename_i other
        exact .inl fun h => other (checkFrames (b :: c :: rest)).2 (Prod.ext h rfl)

/-- What settled bursts are: a first burst with a due frame, or none; and of the bytes before the last gap no more than
one byte 0xB7 joins those behind it. -/
theorem settleBursts_cases (carry : List Byte) (ended : List (List Byte)) (bytes : List Byte)
    (h : carry = [] ∨ carry = [0xB7#8]) :
    (∀ burst rest, (settleBursts carry ended bytes).1 = burst :: rest → (checkFrames burst).1 ≠ .unfinished) ∧
      ((settleBursts carry ended bytes).2 = bytes ∨ (settleBursts carry ended bytes).2 = 0xB7#8 :: bytes) := by
  induction ended generalizing carry with
  | nil =>
    rw [settleBursts_nil]
    exact ⟨fun _ _ e => (nomatch e), by rcases h with rfl | rfl <;> simp⟩
  | cons burst rest ih =>
    unfold settleBursts
    dsimp only
    split
    · rename_i frame
      rcases dropUnfinished_cases (carry ++ burst) with due | left
      · exact absurd (congrArg Prod.fst frame) due
      · exact ih _ left
    · rename_i other
      refine ⟨fun first after e => ?_, .inl rfl⟩
      obtain rfl := (List.cons.inj e).1
      exact fun unfinished => other (checkFrames (dropUnfinished (carry ++ burst))).2 (Prod.ext unfinished rfl)

/-- A burst with a due frame first is kept as it stands. -/
theorem settleBursts_due (burst : List Byte) (rest : List (List Byte)) (bytes : List Byte)
    (h : (checkFrames burst).1 ≠ .unfinished) : settleBursts [] (burst :: rest) bytes = (burst :: rest, bytes) := by
  have keep : dropUnfinished burst = burst := by
    match burst, h with
    | [], _ => rfl
    | [b], h => exact absurd rfl h
    | b :: c :: tail, h =>
      rw [dropUnfinished]
      split
      · rename_i frame; exact absurd (congrArg Prod.fst frame) h
      · rfl
  unfold settleBursts
  dsimp only
  rw [List.nil_append, keep]
  split
  · rename_i frame; exact absurd (congrArg Prod.fst frame) h
  · rfl

/-- A valid frame makes the link UP with its timer restarted; the rest is what the retry and the start step can change
(R127, R151, R181). -/
theorem validFrame_routeFrame (s : State) :
    RouteFrame { s with link := { s.link with state := .up, supervision := some Config.supervisionTime } }
      (validFrame s) := by
  unfold validFrame
  dsimp only
  split
  · exact .refl _
  · exact (retry_routeFrame _).trans (afterArrival_pathFrame _).routeFrame
  · exact ((notify_routeFrame _ _).trans (retry_routeFrame _)).trans (afterArrival_pathFrame _).routeFrame

end Sys2Proof.Machine
end

