-- ==== Sys2Proof/Laws/Requests.lean ====
section
/-! SUPPORT. What the execution of the head request can do: with a free reply place and a request of the row's kind it
is the row's own execution and its reply; otherwise nothing. -/

namespace Sys2Proof.Machine

theorem executeHead_head {accepts : Request → Bool} {run : Request → State → Executed} {r : Request}
    {rest : List Request} {s : State} (h : headIs r rest s) (ha : accepts r = true) :
    executeHead accepts run s =
      addReply { tag := r.tag, kind := r.kind, code := (run r (setRequests rest s)).code
                 data := (run r (setRequests rest s)).data } (run r (setRequests rest s)).state := by
  obtain ⟨h1, h2⟩ := h
  simp [executeHead, headRequest, Config.replyDepth, h1, h2, ha]

theorem executeHead_other {accepts : Request → Bool} {run : Request → State → Executed} {r : Request}
    {rest : List Request} {s : State} (h : headIs r rest s) (ha : accepts r = false) :
    executeHead accepts run s = s := by
  obtain ⟨h1, h2⟩ := h
  simp [executeHead, headRequest, Config.replyDepth, h1, h2, ha]

theorem executeHead_waits {accepts : Request → Bool} {run : Request → State → Executed} {s : State}
    (h : s.manage.requests = [] ∨ 8 ≤ s.manage.replies.length) : executeHead accepts run s = s := by
  rcases h with h | h
  · simp [executeHead, headRequest, h]
  · simp [executeHead, headRequest, Config.replyDepth, Nat.not_lt.mpr h]

/-- A refusal is the reply and nothing else (R169). -/
theorem addReply_refuse (r : Request) (rest : List Request) (code : ReplyCode) (s : State) :
    addReply { tag := r.tag, kind := r.kind, code := (refuse code (setRequests rest s)).code
               data := (refuse code (setRequests rest s)).data } (refuse code (setRequests rest s)).state =
      answered r rest code [] s := rfl

/-- What a TABLE-WRITE's owner does with a write whose length and range fit (R170). -/
theorem tableWrite_fits {α : Type} {form : TableForm α} {table size entries first count : Nat} {r : Request}
    {s : State} (h : isWrite table size entries first count r) (hsize : form.size = size)
    (hentries : form.entries = entries) (hgate : form.gate s = none) :
    tableWrite form r s =
      match form.decode first (writtenRecords size count r) with
      | none => refuse .badField s
      | some records =>
        match form.check first records s with
        | some code => refuse code s
        | none => done (form.apply first records s) := by
  obtain ⟨_, hlen, _, h1, h2, h3, h4, h5⟩ := h
  subst hsize hentries
  have hc : ¬ (count = 0 ∨ 16 < count) := by omega
  have hr : ¬ (form.entries < first + count) := by omega
  simp [tableWrite, ownWrite, paramAt, h1, h2, hc, hlen, hgate, hr, writtenRecords] <;> rfl

theorem writesTable_of_isWrite {table size entries first count : Nat} {r : Request}
    (h : isWrite table size entries first count r) : writesTable table r = true := by
  obtain ⟨hk, hlen, ht, _⟩ := h
  simp [writesTable, kindOf, paramAt, hk, ht, hlen]

/-- What an event's row does: the event alone, or the LIVE OFF at the head around it (R133). -/
theorem takeEvent_cases (first : Bool) (event : State → State) (s : State) :
    takeEvent first event s = event s ∨
      (first = true ∧ liveOffDue s = true ∧ takeEvent first event s = liveOffAround event s) := by
  cases first with
  | false => exact .inl rfl
  | true =>
    cases h : liveOffDue s with
    | false => exact .inl (by simp [takeEvent, h])
    | true => exact .inr ⟨rfl, rfl, by simp [takeEvent, h]⟩

@[simp] theorem takeEvent_false (event : State → State) (s : State) : takeEvent false event s = event s := rfl

end Sys2Proof.Machine
end

