-- ==== Sys2Proof/Laws/SenseFrame.lean ====
section
/-! SUPPORT. What the sense unit can change beyond itself, said once: what the route engine can, and the zones of the
mix engine; and that nothing but storing a result changes a result record. -/

namespace Sys2Proof.Machine

/-- `t` differs from `s` at most in the sense unit, the zones, and in what `RouteFrame` allows. -/
structure SenseFrame (s t : State) : Prop where
  link : t.link = s.link
  playout : t.playout = s.playout
  seats : t.seats = s.seats
  lines : t.lines = s.lines
  report : t.report = s.report
  clockPhase : t.clockPhase = s.clockPhase
  pending : t.pending = s.pending
  requests : t.manage.requests = s.manage.requests
  replies : t.manage.replies = s.manage.replies
  mix : t.mix = { s.mix with generator := t.mix.generator, zones := t.mix.zones }

theorem RouteFrame.senseFrame {s t : State} (h : RouteFrame s t) : SenseFrame s t :=
  ⟨h.link, h.playout, h.seats, h.lines, h.report, h.clockPhase, h.pending, h.requests, h.replies, by
    rw [h.mix]⟩

namespace SenseFrame

theorem refl (s : State) : SenseFrame s s := (RouteFrame.refl s).senseFrame

theorem trans {a b c : State} (h : SenseFrame a b) (k : SenseFrame b c) : SenseFrame a c where
  link := k.link.trans h.link
  playout := k.playout.trans h.playout
  seats := k.seats.trans h.seats
  lines := k.lines.trans h.lines
  report := k.report.trans h.report
  clockPhase := k.clockPhase.trans h.clockPhase
  pending := k.pending.trans h.pending
  requests := k.requests.trans h.requests
  replies := k.replies.trans h.replies
  mix := by rw [k.mix, h.mix]

/-- An update of the sense unit alone. -/
theorem setSense (s : State) (x : Sense) : SenseFrame s { s with sense := x } :=
  ⟨rfl, rfl, rfl, rfl, rfl, rfl, rfl, rfl, rfl, rfl⟩

end SenseFrame

variable (s : State)

theorem notify_senseFrame (n : Notice) : SenseFrame s (notify n s) := (notify_routeFrame s n).senseFrame

theorem notifyAll_pathFrame (ns : List Notice) : PathFrame s (notifyAll ns s) := by
  induction ns generalizing s with
  | nil => exact .refl s
  | cons n ns ih => exact (notify_pathFrame s n).trans (ih _)

theorem setScan_senseFrame (x : Scan) : SenseFrame s (setScan x s) := .setSense s _

theorem beginConversion_senseFrame (c : SenseChan) : SenseFrame s (beginConversion c s) := by
  unfold beginConversion
  split
  · exact setScan_senseFrame _ _
  · exact .refl s

theorem beginLowest_senseFrame : SenseFrame s (beginLowest s) := by
  unfold beginLowest
  split
  · exact beginConversion_senseFrame _ _
  · exact setScan_senseFrame _ _

theorem chooseNext_senseFrame (c : SenseChan) : SenseFrame s (chooseNext c s) := by
  unfold chooseNext
  split
  · exact beginConversion_senseFrame _ _
  · split
    · exact setScan_senseFrame _ _
    · exact beginLowest_senseFrame _

theorem startSense_senseFrame (m : ScanMode) (d : Nat) : SenseFrame s (startSense m d s) := by
  unfold startSense
  dsimp only
  split
  · exact (SenseFrame.setSense s _).trans (beginLowest_senseFrame _)
  · exact (SenseFrame.setSense s _).trans (setScan_senseFrame _ _)

theorem reformSelection_senseFrame : SenseFrame s (reformSelection s) := by
  unfold reformSelection
  dsimp only
  split
  · exact .refl s
  · exact (SenseFrame.setSense s _).trans (setBaseScene_pathFrame _ _).routeFrame.senseFrame

theorem clearLimit_senseFrame (i : Nat) : SenseFrame s (clearLimit i s) := by
  unfold clearLimit
  split
  · exact .refl s
  · split
    · exact ((SenseFrame.setSense s _).trans (notify_senseFrame _ _)).trans (reformSelection_senseFrame _)
    · exact .refl s

theorem tripLimit_senseFrame (i v : Nat) : SenseFrame s (tripLimit i v s) :=
  ((SenseFrame.setSense s _).trans (notify_senseFrame _ _)).trans (reformSelection_senseFrame _)

theorem announceAll_senseFrame (rs : List AnnRequest) : SenseFrame s (announceAll rs s) :=
  (announceAll_pathFrame s rs).routeFrame.senseFrame

theorem evaluateLimit_senseFrame (d : Bool) (i v : Nat) : SenseFrame s (evaluateLimit d i v s).1 := by
  unfold evaluateLimit
  split
  · exact .refl s
  · split
    · dsimp only
      split
      · exact tripLimit_senseFrame _ _ _
      · exact (tripLimit_senseFrame _ _ _).trans (announceAll_senseFrame _ _)
    · split
      · exact clearLimit_senseFrame _ _
      · exact .refl s

theorem evaluateLimits_senseFrame (d : Bool) (c : Nat) (done : Bool) (r : ResultRec) (l : List Nat)
    (kept : List AnnRequest) : SenseFrame s (evaluateLimits d c done r l s kept).1 := by
  induction l generalizing s kept with
  | nil => exact .refl s
  | cons i rest ih =>
    rw [evaluateLimits]
    split
    · exact ih _ _
    · exact (evaluateLimit_senseFrame s d i _).trans (ih _ _)

theorem noiseReport_senseFrame (c : Nat) (valid : Bool) (v : Nat) : SenseFrame s (noiseReport c valid v s) := by
  unfold noiseReport
  split
  · exact ⟨rfl, rfl, rfl, rfl, rfl, rfl, rfl, rfl, rfl, rfl⟩
  · exact .refl s

theorem noteReference_senseFrame (k : Conversion) (r : RefRecord) : SenseFrame s (noteReference k r s) := by
  unfold noteReference
  split
  · unfold setReference
    split <;> exact .setSense s _
  · exact .refl s

theorem takeResult_senseFrame (c : SenseChan) (o : Outcome) (f : Bool) : SenseFrame s (takeResult c o f s) := by
  unfold takeResult
  dsimp only
  have h := (SenseFrame.setSense s _).trans (evaluateLimits_senseFrame
    (setResult (chanNumber c) (fun _ => (storeResult (((channelRecord s (chanNumber c)).map SenseRec.averaging).getD 1)
      o (resultRecord s (chanNumber c))).1) s) f (chanNumber c)
    (storeResult (((channelRecord s (chanNumber c)).map SenseRec.averaging).getD 1) o
      (resultRecord s (chanNumber c))).2
    (storeResult (((channelRecord s (chanNumber c)).map SenseRec.averaging).getD 1) o
      (resultRecord s (chanNumber c))).1 (List.range 8) [])
  have k := (h.trans (resultReport_routeFrame _ (chanNumber c)).senseFrame).trans (announceAll_senseFrame _
    (evaluateLimits f (chanNumber c)
      (storeResult (((channelRecord s (chanNumber c)).map SenseRec.averaging).getD 1) o
        (resultRecord s (chanNumber c))).2
      (storeResult (((channelRecord s (chanNumber c)).map SenseRec.averaging).getD 1) o
        (resultRecord s (chanNumber c))).1 (List.range 8)
      (setResult (chanNumber c) (fun _ => (storeResult
        (((channelRecord s (chanNumber c)).map SenseRec.averaging).getD 1) o (resultRecord s (chanNumber c))).1) s)
      []).2)
  split
  · exact k.trans (noiseReport_senseFrame _ _ _ _)
  · exact k

theorem endConversion_senseFrame (c : SenseChan) (o : Outcome) (f : Bool) : SenseFrame s (endConversion c o f s) :=
  (takeResult_senseFrame s c o f).trans (chooseNext_senseFrame _ _)

theorem timeOut_senseFrame (k : Conversion) (f : Bool) : SenseFrame s (timeOut k f s) :=
  (noteReference_senseFrame s k .zero).trans (endConversion_senseFrame _ _ _ _)

theorem channelWritten_senseFrame (n : Nat) (old new : SenseRec) : SenseFrame s (channelWritten n old new s) := by
  unfold channelWritten
  split
  · split
    · split
      · exact chooseNext_senseFrame _ _
      · exact .refl s
    · exact .refl s
  · split
    · unfold clearResult
      dsimp only
      split <;> exact .setSense s _
    · split
      · exact .setSense s _
      · exact .refl s

theorem channelsWritten_senseFrame (n : Nat) (old new : List SenseRec) :
    SenseFrame s (channelsWritten n old new s) := by
  induction old generalizing s n new with
  | nil => exact .refl s
  | cons o os ih =>
    cases new with
    | nil => exact .refl s
    | cons x xs => exact (channelWritten_senseFrame s n o x).trans (ih _ _ _)

theorem wakeScan_senseFrame : SenseFrame s (wakeScan s) := by
  unfold wakeScan
  split
  · split
    · exact beginConversion_senseFrame _ _
    · exact .refl s
  · exact .refl s

theorem writeChannels_senseFrame (first : Nat) (rs : List SenseRec) : SenseFrame s (writeChannels first rs s) :=
  ((SenseFrame.setSense s _).trans (channelsWritten_senseFrame _ _ _ _)).trans (wakeScan_senseFrame _)

theorem writeLimits_senseFrame (first : Nat) (rs : List Limit) : SenseFrame s (writeLimits first rs s) :=
  ((SenseFrame.setSense s _).trans (notifyAll_pathFrame _ _).routeFrame.senseFrame).trans
    (reformSelection_senseFrame _)

theorem clearLimits_senseFrame (l : List Nat) : SenseFrame s (clearLimits l s) := by
  induction l generalizing s with
  | nil => exact .refl s
  | cons i rest ih => exact (clearLimit_senseFrame s i).trans (ih _)

theorem senseEdge_senseFrame (c : SenseChan) : SenseFrame s (senseEdge c s) := by
  unfold senseEdge
  split
  · split
    · exact setScan_senseFrame _ _
    · exact .refl s
  · exact .refl s

/-! ### The result records -/

theorem PathFrame.results {s t : State} (h : PathFrame s t) : t.sense.results = s.sense.results := by rw [h.sense]

theorem RouteFrame.results {s t : State} (h : RouteFrame s t) : t.sense.results = s.sense.results := by rw [h.sense]

theorem reformSelection_results : (reformSelection s).sense.results = s.sense.results := by
  unfold reformSelection
  dsimp only
  split
  · rfl
  · exact (setBaseScene_pathFrame _ _).results

theorem clearLimit_results (i : Nat) : (clearLimit i s).sense.results = s.sense.results := by
  unfold clearLimit
  split
  · rfl
  · split
    · rw [reformSelection_results]; simp
    · rfl

theorem tripLimit_results (i v : Nat) : (tripLimit i v s).sense.results = s.sense.results := by
  unfold tripLimit
  rw [reformSelection_results]; simp

theorem evaluateLimit_results (d : Bool) (i v : Nat) :
    (evaluateLimit d i v s).1.sense.results = s.sense.results := by
  unfold evaluateLimit
  split
  · rfl
  · split
    · dsimp only
      split
      · exact tripLimit_results _ _ _
      · exact (announceAll_pathFrame _ _).results.trans (tripLimit_results _ _ _)
    · split
      · exact clearLimit_results _ _
      · rfl

theorem evaluateLimits_results (d : Bool) (c : Nat) (done : Bool) (r : ResultRec) (l : List Nat)
    (kept : List AnnRequest) : (evaluateLimits d c done r l s kept).1.sense.results = s.sense.results := by
  induction l generalizing s kept with
  | nil => rfl
  | cons i rest ih =>
    rw [evaluateLimits]
    split
    · exact ih _ _
    · exact (ih _ _).trans (evaluateLimit_results _ _ _ _)

theorem beginConversion_results (c : SenseChan) : (beginConversion c s).sense.results = s.sense.results := by
  unfold beginConversion; split <;> rfl

theorem beginLowest_results : (beginLowest s).sense.results = s.sense.results := by
  unfold beginLowest
  split
  · exact beginConversion_results _ _
  · rfl

theorem chooseNext_results (c : SenseChan) : (chooseNext c s).sense.results = s.sense.results := by
  unfold chooseNext
  split
  · exact beginConversion_results _ _
  · split
    · rfl
    · exact beginLowest_results _

/-- A result changes the result records only by storing itself (R93, R94, R96). -/
theorem takeResult_results (c : SenseChan) (o : Outcome) (f : Bool) :
    (takeResult c o f s).sense.results = s.sense.results.modify (chanNumber c) (fun _ =>
      (storeResult (((channelRecord s (chanNumber c)).map SenseRec.averaging).getD 1) o
        (resultRecord s (chanNumber c))).1) := by
  unfold takeResult
  dsimp only
  split
  · unfold noiseReport
    split <;>
    · refine ((announceAll_pathFrame _ _).results.trans ((resultReport_routeFrame _ _).results.trans
        (evaluateLimits_results _ _ _ _ _ _ _))).trans ?_
      rfl
  · refine ((announceAll_pathFrame _ _).results.trans ((resultReport_routeFrame _ _).results.trans
      (evaluateLimits_results _ _ _ _ _ _ _))).trans ?_
    rfl

theorem endConversion_results (c : SenseChan) (o : Outcome) (f : Bool) :
    (endConversion c o f s).sense.results = s.sense.results.modify (chanNumber c) (fun _ =>
      (storeResult (((channelRecord s (chanNumber c)).map SenseRec.averaging).getD 1) o
        (resultRecord s (chanNumber c))).1) :=
  (chooseNext_results _ _).trans (takeResult_results _ _ _ _)

end Sys2Proof.Machine
end

