-- ==== Sys2Proof/Tests/Slice0.lean ====
section
/-! SUPPORT. The model's own tests. Expected results come from spec/: the worked cases and sequences of its chapters,
its tables, or a calculation by hand from its rules; each test's comment names its source. -/

namespace Sys2Proof.Tests

open Sys2Proof Sys2Proof.Machine

set_option Elab.async false

/-! ### Small states -/

/-- The state a command leaves; the state itself where the command stops. -/
def run (c : Instr) (s : State) : State :=
  match exec c s with
  | .next t => t
  | _ => s

/-- The request of kind `kind` with `params`, under tag 7. -/
def req (kind : Byte) (params : List Byte) : Request := { tag := 7, kind := kind, params := params }

/-- `s` with that request alone in its queue. -/
def asks (kind : Byte) (params : List Byte) (s : State) : State :=
  { s with manage := { s.manage with requests := [req kind params] } }

/-- The codes of the replies that wait. -/
def codes (s : State) : List ReplyCode := s.manage.replies.map Reply.code

/-- Reset, with the link UP. -/
def up : State :=
  { State.reset with link := { State.reset.link with state := .up, supervision := some (Config.ms 60) } }

/-- `s` with the languages 0, 2 and 5 enabled, of which 2 is the default (section 2.7). -/
def threeLanguages (s : State) : State :=
  { s with seats := { s.seats with map := (List.range 12).map fun i =>
      { langEntryReset i with enabled := decide (i = 0 ∨ i = 2 ∨ i = 5), isDefault := decide (i = 2) } } }

/-- A path entry with ticket 42 and mask {0, 1, 2}. -/
def entry (cls : AnnClass) (state : EntryState) : Entry :=
  { cls := cls, clip := 41, mask := 7, origin := .headUnit, scene := none, state := state, ticket := some 42,
    arrival := 1, chime := none, maxSeconds := 60 }

/-- `s` with `e` on the path, 42 the last ticket issued. -/
def onPath (e : Entry) (s : State) : State :=
  { s with announce := { s.announce with path := some e, tickets := 42, nextArrival := 2 } }

/-- `s` with the channel `c` enabled in `mode` and nothing else enabled. -/
def measuring (c : Nat) (mode : GateMode) (s : State) : State :=
  { s with sense := { s.sense with
      channels := s.sense.channels.modify c fun x => { x with enabled := true, gateMode := mode } } }

/-- The record of channel `c` after reset. -/
def channel (c : Nat) : SenseRec := channelsReset.getD c
  { enabled := false, gateMode := .refGate, gateLength := 1024, edgeCount := 1, waitLimit := 1, averaging := 1,
    staleness := 100, pulse := 0 }

/-- A conversion of `c` by `settings`, its gate open after `edges` edges and `ticks` ticks. -/
def conversion (c : SenseChan) (settings : SenseRec) (edges ticks : Nat) : Conversion :=
  { channel := c, settings := settings, gateOpen := true, edges := edges, ticks := ticks, waited := ticks }

/-- `s` with that conversion in flight. -/
def converting (k : Conversion) (s : State) : State := { s with sense := { s.sense with scan := .converting k } }

/-- `s` with `tx` in flight on line 0, its box's turn the present one. -/
def flying (tx : Transaction) (s : State) : State :=
  setLine 0 (fun x => { x with transaction := some tx, roundNext := tx.box + 1 }) s

/-- A transaction with box 3. -/
def withBox3 (kind : TxKind) (state : BoxState) : Transaction :=
  { box := 3, kind := kind, mode := .full, turnState := state, sent := [headerChar 3 kind], low := false }

/-- Characters as a box sends them. -/
def characters (bytes : List Byte) : List LineChar := bytes.map fun b => { bits := dataChar b, stopHigh := true }

/-- Reset with box 3 of line 0 in `state`. -/
def boxIn (state : BoxState) (count : Nat) : State :=
  setBox 0 3 (fun x => { x with state := state, faultCount := count }) State.reset

/-- A cue in use of kind `kind` at `trigger`. -/
def cue (kind trigger : Nat) : Cue := { cueReset with inUse := true, kind := kind, trigger := trigger }

/-- `s` with its route RUNNING at `metre` over `cues`, the cursor at `cursor`. -/
def routeAt (metre cursor : Nat) (cues : List Cue) (s : State) : State :=
  { s with route := { s.route with
      state := .running, distance := metres metre, cursor := cursor,
      cues := cues ++ List.replicate (256 - cues.length) cueReset } }

/-! ### Well-formedness -/

/-- A frame event of 1085 bytes is longer than any inbound frame (R179). -/
theorem test_wf_long_frame : (Instr.audioFrame (List.replicate 1085 0)).wellFormed = false := by decide +kernel
theorem test_wf_long_gap : (Instr.byteGapTimeout (List.replicate 1085 0)).wellFormed = false := by decide +kernel
/-- An answer that ends has a character (R61). -/
theorem test_wf_empty_answer : (Instr.statusTransactionEnd 0 []).wellFormed = false := by decide
theorem test_wf_empty_ident : (Instr.identTransactionEnd 0 []).wellFormed = false := by decide
/-- The counters are 24 bits wide (R89). -/
theorem test_wf_ticks : (Instr.inputGateClose 16777216 ⟨false, false⟩).wellFormed = false := by decide
theorem test_wf_accepts : (Instr.inputGateClose 16777215 ⟨false, false⟩).wellFormed = true := by decide

/-! ### Words -/

/-- No row of the table gives bits, so no word spells a command and no state changes by one. -/
theorem test_no_word (nbits w : Nat) : decodeTableWord nbits w = none := rfl
theorem test_withFetchWord (nbits w : Nat) : State.reset.withFetchWord nbits w = State.reset := rfl

/-! ### Arithmetic and layouts -/

/-- The check value of CRC-16 with polynomial 0x1021 and start 0xFFFF over the characters 1 to 9 (R179). -/
theorem test_crc : crc [0x31, 0x32, 0x33, 0x34, 0x35, 0x36, 0x37, 0x38, 0x39] = 0x29B1#16 := by decide +kernel
/-- Section 4.2, check values: 0xB1 in SHORT and 0x32 in FULL with header 0x83. -/
theorem test_check_short : lineCheck .short 3 .status [0x12, 0x34, 0x56, 0x78] = 0xB1#8 := by decide +kernel
theorem test_check_full : lineCheck .full 3 .status [0x12, 0x34, 0x56, 0x78] = 0x32#8 := by decide +kernel
/-- Section 11.6: a STATUS header to box 3 is 0x83, with the header mark set. -/
theorem test_header : headerChar 3 .status = 0x183#9 := by decide +kernel
/-- Section 3.1: F(-38) is 460 and F(+2) is 4596. -/
theorem test_factors : factor (-38) = 460 ∧ factor 2 = 4596 ∧ factor 30 = 16306 ∧ factor (-97) = 0 := by decide
/-- Section 3.7: 12000 and -12000 at code +2, and the saturating third case. -/
theorem test_mix_plain : mixSample ⟨4596, 0, 0⟩ 12000 0 0 = 13465 ∧ mixSample ⟨4596, 0, 0⟩ (-12000) 0 0 = -13465 := by
  decide
theorem test_mix_saturates : mixSample ⟨460, 8173, 0⟩ 12000 30000 0 = 61208 ∧ limited 61208 = 32767 := by decide
/-- Section 3.9: the increment of 1200 Hz, and the beep's first four samples. -/
theorem test_beep_samples : increment 1200 = 4915#16 ∧ (toneRun 1200 4 0).1 = [0, 3135, 6333, 8035] := by
  decide +kernel
/-- Section 1.6: the sequence test at the wrap, for a duplicate and for a late frame. -/
theorem test_sequence : isNewer (some 65535) 0 = true ∧ isNewer (some 0) 0 = false ∧ isNewer (some 0) 65533 = false ∧
    isNewer (some 0) 3 = true ∧ isNewer none 7 = true := by decide
/-- Section 5.7: speed by REF-GATE and by INPUT-GATE, and the light ratio in both gate modes. -/
theorem test_speed_refGate :
    (refGateResult (conversion .odo { channel 0 with gateMode := .refGate, gateLength := 16384, pulse := 3200 } 18 0)
      State.reset).value = 1152 := by decide +kernel
theorem test_speed_inputGate :
    (inputGateResult (conversion .odo { channel 0 with pulse := 3200 } 4 9000) 9000 State.reset).value = 466 := by
  decide +kernel
theorem test_light_refGate :
    (refGateResult (conversion .lux (channel 1) 4200 0)
      { State.reset with sense := { State.reset.sense with refGateRecord := .counts 5000 16384 } }).value = 420 := by
  decide +kernel
theorem test_light_inputGate :
    (inputGateResult (conversion .lux { channel 1 with gateMode := .inputGate } 16 12483) 12483
      { State.reset with sense := { State.reset.sense with inputGateRecord := .counts 16 5243 } }).value = 420 := by
  decide +kernel
/-- Section 5.7: without a reference, or with a count of 0 in it, LUX is INVALID with MATH set. -/
theorem test_light_math : refGateResult (conversion .lux (channel 1) 4200 0)
    { State.reset with sense := { State.reset.sense with refGateRecord := .counts 0 16384 } } = unpaired := by
  decide +kernel
/-- Section 5.7: the noise average of 2835 Hz has target offset 6 under the reset bands. -/
theorem test_noise_band : bandOffset 2835 bandsReset = 6 := by decide
/-- Section 9.6: a fade from 1000 to 600 in 300 steps, at the steps 1, 2, 3 and 150. -/
theorem test_fade_levels : [1, 2, 3, 150].map (fun i => fadeLevel 1000 600 i 300) = [999, 998, 996, 800] := by decide

/-! ### The link and the playout buffer -/

/-- R177: from any state, the reset state; here from a route under way. -/
theorem test_powerOnReset : run .powerOnReset (routeAt 700 3 [] up) = State.reset := by decide +kernel
/-- Section 11.7: the header of the worked frame is sequence 300 and segment 17; here it carries no block. -/
theorem test_audioFrame :
    (run (.audioFrame (frameBytes 1 [0x01, 0x2C, 0x00, 0x00, 0x11])) up).playout.queue =
      [{ sequence := 300, segment := 17, kept := [] }] := by decide +kernel
/-- Section 1.7: seven blocks, of which the first tag 3, the live block and the block of ticket 42 are kept. -/
theorem test_kept_blocks :
    (keepBlocks (onPath (entry .safety .startingClip)
        { up with seats := { up.seats with map := (List.range 12).map fun i =>
          { langEntryReset i with enabled := decide (i = 0 ∨ i = 4), tag := [3, 1, 2, 8, 12, 5, 9].getD i i } } })
      (([3, 3, 30, 31, 31, 9, 40].zip [0, 0, 0, 41, 42, 0, 0]).map fun x =>
        { tag := x.1, ticket := x.2, endMark := false, samples := [] }) []).map KeptBlock.tag = [3, 30, 31] := by
  decide +kernel
/-- R167: a fifth request is refused with QUEUE-FULL. -/
theorem test_requestFrame :
    codes (run (.requestFrame (frameBytes 2 [9, 10, 1])) { up with manage := { up.manage with
      requests := List.replicate 4 (req 10 [1]) } }) = [.queueFull] := by decide +kernel
/-- R179: a REPORT kind ends at once as a bad frame, and hunting goes on behind its first sync byte. -/
theorem test_badFrame : (run (.badFrame [0xB7, 0x4E, 0x81]) up).link.received = [0x4E, 0x81] := by decide +kernel
/-- R179: a gap ends a partial frame, and nothing of it is kept. -/
theorem test_byteGapTimeout : (run (.byteGapTimeout [0xB7, 0x4E, 0x01, 0x00]) up).link.received = [] := by
  decide +kernel
/-- `up` with the supervision timer run out. -/
def silent : State := { up with link := { up.link with supervision := some 0 } }
/-- R15, R181: the loss flushes the playout queue and forgets the last sequence. R16: an arrival taken first has
restarted the timer, and the link stays UP. -/
theorem test_supervisionTimerExpiry :
    (run (.supervisionTimerExpiry false) silent).link.state = .lost ∧
    (run (.supervisionTimerExpiry true) { silent with playout := { up.playout with lastSequence := some 5 } }
      ).playout.lastSequence = none ∧
    (run (.supervisionTimerExpiry false) (validFrame silent)).link.state = .up := by decide +kernel
/-- Section 3.8, f21 to f23: fully ducked zones, UPPER-AFT outside the new mask, and a depth lowered to 20. -/
theorem test_frameStart_duck :
    (zoneSteps (onPath { entry .clearance .playing with mask := 1 } { up with mix := { up.mix with
      params := { mixParamsReset with duckDepth := 20 }
      zones := [-40, -38, 0].map fun d => { zoneReset none with duck := d } } })).mix.zones.map Zone.duck =
      [-20, -19, 0] := by decide +kernel
/-- Section 1.6, step 15: an underflow keeps the segment indicator copy and returns to FILLING. -/
theorem test_frameStart_underflow :
    (run (.frameStart false ⟨false, false⟩) { up with playout := { up.playout with state := .playing, segmentCopy := 17 } }
      ).playout = { up.playout with segmentCopy := 17 } := by decide +kernel

/-- A CHIME-ONLY clearance over the zones 0 and 1 whose chime has ended, behind it a STOP for the zones 1 and 2; the
first three zones are fully ducked, and the release is 1. -/
def chimeEnding : State :=
  let path := onPath { entry .clearance .chimeOnly with mask := 3 } up
  { path with
    announce := { path.announce with waiting := [{ entry .stop .waiting with mask := 6, ticket := none }] }
    mix := { path.mix with
      generator := some ⟨.announcement none 3, [], 0, 0⟩
      zones := [-40, -40, -40, 0].map fun d => { zoneReset none with duck := d } } }
/-- R43, section 8.10 step 4: where the frame start reads the old path, the ending chime-only run still covers its
zones; where it reads the new one, the STOP alone covers its own. -/
theorem test_frameStart_chime_end :
    (run (.frameStart false ⟨false, false⟩) chimeEnding).mix.zones.map Zone.duck = [-40, -40, -39, 0] ∧
    (run (.frameStart false ⟨true, false⟩) chimeEnding).mix.zones.map Zone.duck = [-39, -40, -40, 0] ∧
    (run (.frameStart false ⟨false, false⟩) chimeEnding).announce.path.map Entry.cls = some .stop := by decide +kernel

/-! ### Requests -/

/-- R169: kind 12 is none of section 11.4. -/
theorem test_unknownKind : codes (run .unknownKind (asks 12 [] up)) = [.unknownKind] := by decide +kernel
/-- R169: a view's name, and fewer than 3 bytes. -/
theorem test_tableWriteUnknownTable :
    codes (run .tableWriteUnknownTable (asks 0 [14, 0, 1] up)) = [.badTable] ∧
    codes (run .tableWriteUnknownTable (asks 0 [14, 0] up)) = [.badField] := by decide +kernel
/-- R19: two enabled entries may not claim one tag. -/
theorem test_tableWriteLanguage :
    codes (run .tableWriteLanguage (asks 0 [0, 1, 1, 0, 2, 65, 66, 1, 1] (threeLanguages up))) = [.badField] ∧
    codes (run .tableWriteLanguage (asks 0 [0, 1, 1, 0, 1, 65, 66, 1, 1] (threeLanguages up))) = [.done] := by
  decide +kernel
/-- R22: a seat takes no language that is not on offer. -/
theorem test_tableWriteSeat :
    codes (run .tableWriteSeat (asks 0 [1, 95, 1, 0, 1, 8] (threeLanguages up))) = [.badField] ∧
    (run .tableWriteSeat (asks 0 [1, 95, 1, 0, 5, 8] (threeLanguages up))).seats.held =
      [.seat 95 [{ zone := 0, language := some 5, volume := 8 }]] := by decide +kernel
/-- R170: four entries, so index 4 is outside. -/
theorem test_tableWriteZone : codes (run .tableWriteZone (asks 0 [2, 3, 2, 255, 0, 255, 0] up)) = [.badIndex] := by
  decide +kernel
/-- R36: a code is -96 to +24 in two's complement. -/
theorem test_tableWriteVolumeCurve :
    (run .tableWriteVolumeCurve (asks 0 [3, 15, 1, 0xA0] up)).mix.held = [.volumeCurve 15 [-96]] ∧
    codes (run .tableWriteVolumeCurve (asks 0 [3, 15, 1, 0x9F] up)) = [.badField] := by decide +kernel
/-- R37: attack 0 is outside 1..96. -/
theorem test_tableWriteMix : codes (run .tableWriteMix (asks 0 [4, 0, 1, 40, 0, 1, 8, 25] up)) = [.badField] := by
  decide +kernel
/-- R40: thresholds rise strictly: band 0 may not take 1000 Hz before band 1's 1000 Hz. -/
theorem test_tableWriteNoiseBands :
    codes (run .tableWriteNoiseBands (asks 0 [5, 0, 1, 0x03, 0xE8, 0] up)) = [.badOrder] ∧
    codes (run .tableWriteNoiseBands (asks 0 [5, 0, 1, 0x03, 0xE7, 0] up)) = [.done] := by decide +kernel
/-- R38: a maximum of 121 s is outside 1..120. -/
theorem test_tableWriteClass : codes (run .tableWriteClass (asks 0 [6, 3, 1, 0, 0, 255, 0, 121, 1] up)) = [.badField] := by
  decide +kernel
/-- R52: one tone of 440 Hz for 100 ms and three rests. -/
theorem test_tableWriteChime :
    (run .tableWriteChime (asks 0 [7, 0, 1, 1, 1, 0xB8, 0, 100, 0, 0, 0, 10, 0, 0, 0, 10, 0, 0, 0, 10] up)).mix.held =
      [.chime 0 [{ count := 1, tones := [⟨440, 100⟩, ⟨0, 10⟩, ⟨0, 10⟩, ⟨0, 10⟩] }]] := by decide +kernel
/-- R57: the write is held for the next frame start. -/
theorem test_tableWriteSeatLine :
    (run .tableWriteSeatLine (asks 0 [8, 2, 1, 0, 1] up)).lines.held = [(2, [{ mode := .short, sleepEnable := false }])] ∧
    (run .tableWriteSeatLine (asks 0 [8, 2, 1, 0, 1] up)).lines.lines = up.lines.lines := by decide +kernel
/-- R84, R93: enabling a channel clears its result record. -/
theorem test_tableWriteSenseChannel :
    ((run .tableWriteSenseChannel (asks 0 [9, 3, 1, 0, 0, 4, 0, 1, 0, 1, 1, 0, 100, 0, 0] { up with
      sense := { up.sense with results := List.replicate 5 { resultCleared with present := true } } })
        ).sense.results.map ResultRec.present) = [true, true, true, false, true] := by decide +kernel
/-- R97: an entry written takes CLEAR. -/
theorem test_tableWriteLimit :
    (run .tableWriteLimit (asks 0 [10, 0, 1, 0, 1, 1, 1, 1, 44, 0, 60, 1, 0, 2, 0, 0, 0, 0] { up with
      sense := { up.sense with limits := up.sense.limits.set 0 { limitReset with tripped := true } } })
        ).manage.notices = [.limitCleared 0] := by decide +kernel
/-- R109: while the route is not STOPPED, the CUE table refuses writes, before the index range. -/
theorem test_tableWriteCue :
    codes (run .tableWriteCue (asks 0 ([11, 255, 2] ++ List.replicate 40 0) (routeAt 0 0 [] up))) = [.routeActive] := by
  decide +kernel
/-- R155, R159: scene 0 is the base scene, so a part that claims channel 0 with fade 0 is at once on the lamp. -/
theorem test_tableWriteScene :
    ((run .tableWriteScene (asks 0 ([12, 0, 1] ++ [0, 3, 0xE8, 0, 0, 100, 0, 0] ++
      (List.replicate 7 [1, 0, 0, 0, 0, 100, 0, 0]).flatten) up)).lighting.lamps.map Lamp.level) =
      [1000, 0, 0, 0, 0, 0, 0, 0] := by decide +kernel
/-- R156: channel 8 does not exist. -/
theorem test_tableWriteLighting : codes (run .tableWriteLighting (asks 0 [13, 0, 1, 0, 8, 3, 0xE8, 3] up)) = [.badField] := by
  decide +kernel
/-- R171: a read of band 0 after reset: 500 Hz, offset 0. -/
theorem test_tableRead :
    (run .tableRead (asks 1 [5, 0, 1] up)).manage.replies =
      [{ tag := 7, kind := 1, code := .done, data := [5, 0, 1, 0x01, 0xF4, 0] }] := by decide +kernel
/-- R172: clear YES clears the notices-lost flag. -/
theorem test_statusRead :
    (run .statusRead (asks 10 [0] { up with manage := { up.manage with noticesLost := true } })).manage.noticesLost =
      false := by decide +kernel
/-- R176: a RESET leaves the link as it was and its own reply. -/
theorem test_reset :
    (run .reset (asks 11 [] (routeAt 9 0 [] up))).link = up.link ∧ codes (run .reset (asks 11 [] up)) = [.done] := by
  decide +kernel

/-! ### The route -/

/-- R105: a NOTICE cue at trigger 0 is crossed at the start. -/
theorem test_routeStart :
    (run .routeStart (asks 2 [0] { up with route := { up.route with cues := up.route.cues.set 0 (cue 5 0) } })
      ).manage.notices = [.cueFired 0 5 0] := by decide +kernel
theorem test_routeHold : (run .routeHold (asks 2 [1] (routeAt 9 0 [] up))).route.state = .held ∧
    codes (run .routeHold (asks 2 [1] up)) = [.routeState] := by decide +kernel
/-- `s` with its route in `state`. -/
def inState (state : RouteState) (s : State) : State := { s with route := { s.route with state := state } }
/-- A NOTICE cue at 1100 with window 50 and the condition LUX LT 300. -/
def darkCue : Cue := { cue 5 1100 with window := 50, conditionChannel := 1, predicate := 1, threshold := 300 }
/-- R106, section 6.11: a cue passed while HELD is crossed at RESUME; here its window has gone by in daylight. -/
theorem test_routeResume :
    (run .routeResume (asks 2 [2] (inState .held (routeAt 1300 0 [darkCue] up)))).manage.notices =
      [.cueSkipped 0 .window 1300] := by decide +kernel
/-- R107: the requested stop is cleared for cause ROUTE. -/
theorem test_routeStop :
    (run .routeStop (asks 2 [3] { routeAt 9 0 [] up with route := { (routeAt 9 0 [] up).route with
      requested := some { stop := 5, cue := 4 } } })).manage.notices = [.stopCleared 5 .route] := by decide +kernel
/-- The cues 10 to 14 of section 6.10, at the indices 0 to 4, with cues 13 and 14 open. -/
def backRun : State :=
  let s := routeAt 700 5 [{ cue 5 500 with state := .fired }, { cue 0 520 with repeatable := 0, state := .fired },
    { cue 5 540 with state := .fired }, { cue 2 600 with stop := 8, state := .pending },
    { cue 4 650 with repeatable := 0, state := .pending }] up
  { s with route := { s.route with openCues := [3, 4], requested := some { stop := 8, cue := 3 } } }
/-- Section 6.10: the fix to 510 re-arms cues 11, 13 and 14, empties the open list and moves the cursor to cue 11. -/
theorem test_positionFix :
    let t := run .positionFix (asks 3 [0, 1, 0xFE] backRun)
    t.route.cursor = 1 ∧ t.route.openCues = [] ∧ (t.route.cues.take 5).map Cue.state =
      [.fired, .armed, .fired, .armed, .armed] ∧ t.manage.notices = [] := by decide +kernel
/-- Section 6.9, step 9: the edge that brings position 240 fires the CLEARANCE cue. -/
theorem test_odometerEdge :
    (run (.odometerEdge ⟨false, false⟩) (setDistance 2399500 (routeAt 0 0 [{ cue 3 240 with clip := 7, mask := 3 }] up))
      ).manage.notices = [.cueFired 0 3 240] := by decide +kernel

/-! ### Announcements, live, scenes -/

/-- Section 8.9, step 1: a CLEARANCE preempts the STOP on the path and retires its ticket. -/
theorem test_announce :
    let t := run .announce (asks 4 [0, 0, 7, 3, 4] (onPath (entry .stop .playing) up))
    t.announce.path.map (fun e => (e.cls, e.clip, e.ticket, e.state)) =
      some (.clearance, 7, some 43, .startingChime) ∧
    t.announce.waiting.map Entry.clip = [41] ∧ t.manage.notices = [.clipCancel 42] ∧ t.lighting.alert = some 4 := by
  decide +kernel
/-- R146: the entry ends with one CLIP-CANCEL; a ticket not on the path is NOT-FOUND. -/
theorem test_cancelByTicket :
    (run .cancelByTicket (asks 5 [0, 42] (onPath (entry .safety .playing) up))).manage.notices = [.clipCancel 42] ∧
    codes (run .cancelByTicket (asks 5 [0, 41] (onPath (entry .safety .playing) up))) = [.notFound] := by decide +kernel
theorem test_cancelByClass :
    codes (run .cancelByClass (asks 5 [1, 2] (onPath (entry .safety .playing) up))) = [.notFound] ∧
    codes (run .cancelByClass (asks 5 [1, 1] (onPath (entry .safety .playing) up))) = [.done] := by decide +kernel
/-- R128: granted on an IDLE path, for the languages enabled and live-eligible alone; here none is eligible. -/
theorem test_liveOn :
    (run .liveOn (asks 6 [0, 0, 5] (threeLanguages up))).manage.notices = [.liveGranted 0] ∧
    codes (run .liveOn (asks 6 [0, 0, 5] (onPath (entry .safety .playing) up))) = [.deferred] := by decide +kernel
theorem test_liveOff :
    (run .liveOff (asks 6 [1, 0, 0] { up with segment := { up.segment with live := .on } })).manage.notices =
      [.liveEnded] := by decide +kernel
/-- R133, with live ON, the SEGMENT cue 0 deferred and the SEGMENT cue 1 due at the next edge: LIVE OFF first, the
question fires cue 1 and the retry that follows fires cue 0; the edge first, cue 1 is deferred, and the retry fires
cue 0 alone. -/
theorem test_liveOff_before_question :
    let s0 := setDistance 10999500 (routeAt 0 1 [{ cue 0 900 with window := 500, state := .deferred },
      { cue 0 1100 with window := 500 }] up)
    let s := { s0 with route := { s0.route with openCues := [0] }, segment := { s0.segment with live := .on } }
    (run (.odometerEdge ⟨false, true⟩) (asks 6 [1, 0, 0] s)).manage.notices =
      [.liveEnded, .cueFired 1 0 1100, .cueFired 0 0 1100] ∧
    (run .liveOff (asks 6 [1, 0, 0] (run (.odometerEdge ⟨false, false⟩) s))).manage.notices =
      [.liveEnded, .cueFired 0 0 1100] := by decide +kernel
/-- The route RUNNING with live ON and the SEGMENT cues 0 and 1 deferred, and a handover due that ends segment 17. -/
def segmentEnding : State :=
  let s := routeAt 1100 2 [{ cue 0 900 with window := 500, state := .deferred },
    { cue 0 1000 with window := 500, state := .deferred }] up
  { s with
    route := { s.route with openCues := [0, 1] }
    segment := { s.segment with live := .on }
    playout := { s.playout with state := .playing, queue := [⟨0, 0, []⟩], segmentCopy := 17 } }
/-- R133 at a frame start, whose handover asks the question as the segment copy becomes 0 (R127): LIVE OFF first, the
handover fires cue 0 and the retry that follows fires cue 1; the handover first, the retry of LIVE OFF fires cue 0. -/
theorem test_liveOff_before_handover :
    (run (.frameStart true ⟨false, true⟩) (asks 6 [1, 0, 0] segmentEnding)).manage.notices =
      [.liveEnded, .cueFired 0 0 1100, .cueFired 1 0 1100] ∧
    (run .liveOff (asks 6 [1, 0, 0] (run (.frameStart true ⟨false, false⟩) segmentEnding))).manage.notices =
      [.liveEnded, .cueFired 0 0 1100] := by decide +kernel
/-- R158: RELEASE is 255, and 16 is no scene. -/
theorem test_sceneForce : (run .sceneForce (asks 7 [15] up)).lighting.force = some 15 ∧
    codes (run .sceneForce (asks 7 [16] up)) = [.badField] := by decide +kernel
/-- `s` with the timers of its announcement path at `start` and `duration`. -/
def timed (start duration : Option Nat) (s : State) : State :=
  { s with announce := { s.announce with startTimer := start, durationTimer := duration } }
/-- R145, R146: no block came within 250 ms; a start timer that another entry has restarted has not run out. -/
theorem test_startTimerExpiry :
    (run .startTimerExpiry (timed (some 0) none (onPath (entry .safety .startingClip) up))).manage.notices =
      [.clipFailed 42 41 .safety .noStart] ∧
    (run .startTimerExpiry (timed (some (Config.ms 250)) none (onPath (entry .safety .startingClip) up))).manage.notices =
      [] := by
  decide +kernel
theorem test_maximumDurationExpiry :
    (run .maximumDurationExpiry (timed none (some 0) (onPath (entry .safety .playing) up))).manage.notices =
      [.clipEnded 42 41 .safety .timeout, .clipCancel 42] := by decide +kernel
/-- Lamp channel `c` with `level`, a setting of `target` and a `transition`. -/
def lampAt (c level target : Nat) (transition : Transition) (s : State) : State :=
  setLamp c (fun _ =>
    { level := level, setting := { unclaimedSetting with target := target, period := 400 }, transition := transition
      phase := 0, began := none }) s
/-- The level and transition of lamp channel `c`. -/
def shownBy (c : Nat) (s : State) : Option (Nat × Transition) :=
  (s.lighting.lamps[c]?).map fun x => (x.level, x.transition)
/-- Section 9.6, steps 2 and 3: a lit half of a 400 ms flash ends, and the dark half lasts 200 ms. -/
theorem test_flashHalfExpiry :
    shownBy 6 (run (.flashHalfExpiry 6) (lampAt 6 1000 1000 (.flashOn 0) up)) = some (0, .flashOff 200) := by
  decide +kernel
/-- Section 9.6, step 1: step 100 of the fade from 0 to 600 gives 200. -/
theorem test_fadeStep :
    shownBy 4 (run (.fadeStep 4) (lampAt 4 198 600 (.fading 0 300 99 0) up)) = some (200, .fading 0 300 100 10) := by
  decide +kernel
/-- R163: of two lamps in the last millisecond of a flash half, the tick ends the half of the one whose own time
completes that millisecond, and not of the other. -/
theorem test_lamps_keep_their_own_time :
    let lamp (left phase : Nat) : Lamp :=
      { level := 0, setting := unclaimedSetting, transition := .flashOn left, phase := phase, began := none }
    tickLamp (lamp 1 31768) = lamp 0 0 ∧ tickLamp (lamp 1 31767) = lamp 1 32767 := by decide +kernel
/-- `up` with scene 1 that claims channel 0 with `target` and `fade`, and scene 2 with 500 and a fade of 100 ms. -/
def twoScenes (target fade : Nat) : State :=
  let scene (t f : Nat) : List ScenePart :=
    { scenePartReset with claim := true, target := t, fade := f } :: List.replicate 7 scenePartReset
  { up with lighting := { up.lighting with
      scenes := (up.lighting.scenes.set 1 (scene target fade)).set 2 (scene 500 100) } }
/-- R166: a change with fade 0 and then a fade at one moment: the fade starts from the level before both. A tick later
it starts from the level that the first has set. -/
theorem test_changes_of_one_moment :
    shownBy 0 (setForce (some 2) (setForce (some 1) (twoScenes 1000 0))) = some (0, .fading 0 10 0 10) ∧
    shownBy 0 (setForce (some 2) (passTick (setForce (some 1) (twoScenes 1000 0)))) = some (1000, .fading 1000 10 0 10) := by
  decide +kernel
/-- R166, row 5: a cue that sets scene 1, and a SCENE write by which scene 1 claims nothing, at one moment while scene 2
fades: in either order the fade goes on. -/
theorem test_changes_in_either_order :
    let s := passTick (setBaseScene (some 2) (twoScenes 1000 0))
    let write (x : State) : State :=
      run .tableWriteScene (asks 0 ([12, 1, 1] ++ encodeScene (List.replicate 8 scenePartReset)) x)
    (write (setCueScene (some 1) s)).lighting = (setCueScene (some 1) (write s)).lighting ∧
    ((write (setCueScene (some 1) s)).lighting.lamps[0]?).map (fun x => (x.transition, x.phase)) =
      some (.fading 0 10 0 10, 1000) ∧
    shownBy 0 (setCueScene (some 1) s) = some (1000, .steady) := by decide +kernel

/-! ### The sense unit -/

/-- R86, R87: without a delay the lowest enabled channel is converted at once. -/
theorem test_senseStart :
    (run .senseStart (asks 8 [0, 1, 0] (measuring 3 .refGate up))).sense.scan =
      .converting { conversion .nfwd { channel 3 with enabled := true } 0 0 with gateOpen := false } := by decide +kernel
theorem test_senseStop :
    (run .senseStop (asks 8 [1, 0, 0] (converting (conversion .odo (channel 0) 1 1) up))).sense.scan = .idle := by
  decide +kernel
/-- R100: a LATCHED limit that is TRIPPED is cleared by its name. -/
theorem test_limitClear :
    (run .limitClear (asks 9 [3] { up with sense := { up.sense with
      limits := up.sense.limits.set 3 { limitReset with tripped := true, mode := .latched } } })).manage.notices =
      [.limitCleared 3] ∧ codes (run .limitClear (asks 9 [8] up)) = [.badIndex] := by decide +kernel
theorem test_startDelayExpiry :
    (run .startDelayExpiry { up with sense := { up.sense with scan := .delay 0 } }).sense.scan = .scanWait := by
  decide +kernel
theorem test_inputGateOpen :
    (run .inputGateOpen (converting { conversion .odo (channel 0) 3 9 with gateOpen := false } up)).sense.scan =
      .converting (conversion .odo (channel 0) 0 0 |> fun k => { k with waited := 9 }) := by decide +kernel
/-- Section 5.7, the fourth noise conversion: 755 edges complete the block with the average 2835, offset target 6. -/
theorem test_refGateClose :
    let r : ResultRec := { resultCleared with present := true, blockCount := 3, blockSum := 8320 }
    let s := measuring 3 .refGate up
    let s := { s with sense := { s.sense with
      channels := s.sense.channels.modify 3 fun x => { x with averaging := 4 }, results := s.sense.results.set 3 r } }
    let t := run (.refGateClose ⟨false, false⟩) (converting (conversion .nfwd (channel 3) 755 8192) s)
    (t.sense.results[3]?).map (fun x => (x.value, x.avgValue, x.blockCount, x.blockSum)) = some (3020, 2835, 0, 0) ∧
      t.mix.zones.map Zone.target = [6, 0, 0, 0] := by decide +kernel
/-- Section 5.7: 9000 ticks give 466 cm/s. -/
theorem test_inputGateClose :
    ((run (.inputGateClose 9000 ⟨false, false⟩) (converting (conversion .odo { channel 0 with pulse := 3200 } 4 0) up)
      ).sense.results[0]?).map (fun x => (x.value, x.valid)) = some (466, true) := by decide +kernel
/-- R90: 30000 ticks of waiting for the gate count for the wait limit of 32768 as the open gate's do. -/
theorem test_inputGateClose_late :
    let k (waited : Nat) : Conversion := { conversion .odo (channel 0) 4 0 with waited := waited }
    let timed (n : Nat) : Option Bool :=
      ((run (.inputGateClose n ⟨false, false⟩) (converting (k 30000) up)).sense.results[0]?).map ResultRec.timedOut
    timed 2768 = some false ∧ timed 2769 = some true := by decide +kernel
/-- Section 5.7: a coach that stands still gives a valid timed-out 0. -/
theorem test_waitLimitTimeout :
    ((run (.waitLimitTimeout ⟨false, false⟩) (converting (conversion .odo (channel 0) 0 32768) up)
      ).sense.results[0]?).map (fun x => (x.value, x.valid, x.timedOut)) = some (0, true, true) := by decide +kernel
/-- `up` with a present ODO result of `age` parts of 1/32768 ms, its average 7; the staleness limit after reset is 2000
ms. -/
def aged (age : Nat) : State :=
  { up with sense := { up.sense with
      results := up.sense.results.set 0
        { resultCleared with present := true, avgPresent := true, avgValue := 7, age := age } } }
/-- R95: stale at the limit, ordered before it; a result taken first is fresh. -/
theorem test_resultStale :
    orderedAverage 0 (run (.resultStale .odo) (aged (Config.ms 2000))) = none ∧
    orderedAverage 0 (run (.resultStale .odo) (aged (Config.ms 2000 - 1))) = some 7 ∧
    orderedAverage 0 (run (.resultStale .odo) (aged 0)) = some 7 := by decide +kernel
theorem test_senseInputEdge :
    (run (.senseInputEdge .nfwd) (converting (conversion .nfwd (channel 3) 700 9) up)).sense.scan =
      .converting (conversion .nfwd (channel 3) 701 9) := by decide +kernel
/-- R85, R89: before the next reference tick has opened a REF-GATE, no edge is counted. -/
theorem test_edge_before_gate :
    let k := { conversion .nfwd (channel 3) 0 0 with gateOpen := false }
    (run (.senseInputEdge .nfwd) (converting k up)).sense.scan = .converting k ∧
    (tickConversion k).gateOpen = true ∧ (tickConversion k).ticks = 0 := by decide +kernel
/-- Section 5.8, steps 2, 4 and 8: UNDER 300 with hysteresis 60 trips at 290, holds at 340 and clears at 365. -/
theorem test_limit_hysteresis :
    let x : Limit := { limitReset with direction := .under, threshold := 300, hysteresis := 60 }
    trips x 290 = true ∧ trips x 420 = false ∧ clears { x with tripped := true } 340 = false ∧
      clears { x with tripped := true } 365 = true := by decide

/-! ### The seat lines -/

/-- R65, R66, R68: after reset every box is ABSENT and due, so address 0 is asked for its IDENT. -/
theorem test_pollRoundBegin :
    ((run (.pollRoundBegin 2) up).lines.lines[2]?).bind (fun x => x.transaction.map fun y => (y.box, y.kind)) =
      some (0, .ident) := by decide +kernel
theorem test_roundTimerExpiry :
    ((run (.roundTimerExpiry 1) (setLine 1 (fun x => { x with roundNext := 12, roundLeft := 0 }) up)).lines.lines[1]?).map
      (fun x => (x.roundNext, x.roundLeft)) = some (0, Config.ms 4) := by decide +kernel
/-- R65: a round whose addresses have all been served and whose 4 ms are not over is not followed by the next; with the
4 ms over it is. -/
theorem test_round_lasts_4_ms :
    let served (left : Nat) : State := setLine 2 (fun x => { x with roundNext := 12, roundLeft := left }) up
    run (.pollRoundBegin 2) (served 1) = served 1 ∧
    ((lineAt (run (.pollRoundBegin 2) (served 0)) 2).transaction.map Transaction.box) = some 0 := by decide +kernel
/-- R64, R67: no answer of an ACTIVE box with fault count 8 makes it SUSPECT at 12. -/
theorem test_answerWindowExpiry :
    (run (.answerWindowExpiry 0) (flying (withBox3 .status .active) (boxIn .active 8))).manage.notices =
      [.boxState 0 3 .suspect 12] := by decide +kernel
/-- Section 2.7, on line 0 box 3 (seats 6 and 7): the counts 14, 3, 0 and 6, 6, 6 take 1, 5, 15 and 6, 7, 6. -/
def buttons : State :=
  let a : Seat := { seatReset 6 with language := some 0, jack := true, lastLanguage := 14, lastUp := 3 }
  let b : Seat := { seatReset 7 with language := some 2, lastLanguage := 6, lastUp := 6, lastDown := 6 }
  setSeat 6 (fun _ => a) (setSeat 7 (fun _ => b) (threeLanguages (boxIn .active 0)))
/-- The answer of that STATUS: the four characters of section 11.6 and the check in FULL. -/
def buttonAnswer : List LineChar :=
  characters ([0x51, 0x6F, 0x67, 0x30] ++ [lineCheck .full 3 .status [0x51, 0x6F, 0x67, 0x30]])
theorem test_statusTransactionEnd :
    let t := run (.statusTransactionEnd 0 buttonAnswer) (flying (withBox3 .status .active) buttons)
    [6, 7].map (fun n => ((seatAt t n).language, (seatAt t n).volume, (seatAt t n).jack)) =
      [(some 0, 0, true), (some 2, 9, true)] := by decide +kernel
/-- R62: seat count 3 is a CHECK failure, whatever its check. -/
theorem test_identTransactionEnd :
    let answer (n : Byte) := characters ([1, 2, n, 4, 5, 6] ++ [lineCheck .full 3 .ident [1, 2, n, 4, 5, 6]])
    (lineAt (run (.identTransactionEnd 0 (answer 3)) (flying (withBox3 .ident .absent) up)) 0).checkFailures = 1 ∧
    (boxAt (run (.identTransactionEnd 0 (answer 2)) (flying (withBox3 .ident .absent) up)) 0 3).state = .active := by
  decide +kernel
theorem test_displayTransactionEnd :
    (boxAt (run (.displayTransactionEnd 0) (flying (withBox3 .display .active) (boxIn .active 5))) 0 3).faultCount = 5 := by
  decide +kernel
/-- R63, R64: an ECHO counts on the line, and a DISPLAY that failed so is pending again. -/
theorem test_echo :
    let t := run (.echo 0) (flying (withBox3 .display .active) (boxIn .active 0))
    (lineAt t 0).echoFailures = 1 ∧ (boxAt t 0 3).displayPending = true := by decide +kernel
theorem test_controlPairLow :
    ((lineAt (run (.controlPairLow 0 false) (flying (withBox3 .status .active) (boxIn .active 0))) 0).transaction.map
      Transaction.low) = some true := by decide +kernel
theorem test_wakePulse :
    (lineAt (run (.wakePulse 0) (setLine 0 (fun x => { x with state := .sleeping, quiet := none }) up)) 0).state =
      .awake := by decide +kernel
/-- R76: after the pulse the pair is still low, and the line does not begin its round by itself. -/
theorem test_round_waits_for_pair :
    let t := run (.wakePulse 0) (setLine 0 (fun x => { x with state := .sleeping, quiet := none }) up)
    roundBegins (lineAt t 0) = false ∧ roundBegins (lineAt t 1) = true ∧
    ((lineAt (run (.pollRoundBegin 0) t) 0).transaction.map Transaction.box) = some 0 := by decide +kernel
/-- `s` with the quiet timer of line 0 at `left`, in parts of 1/32768 ms. -/
def quietAt (left : Nat) (s : State) : State := setLine 0 (fun x => { x with quiet := some left }) s
/-- R74, R82: the line sleeps; on a RUNNING route the timer restarts; a timer that a STATUS restarted has not run out.
-/
theorem test_quietTimerExpiry :
    (lineAt (run (.quietTimerExpiry 0) (quietAt 0 up)) 0).state = .sleeping ∧
    (lineAt (run (.quietTimerExpiry 0) (quietAt 0 (routeAt 5 0 [] up))) 0).quiet = some (Config.ms 60000) ∧
    (lineAt (run (.quietTimerExpiry 0) (quietAt (Config.ms 60000) up)) 0).state = .awake := by decide +kernel

/-! ### The step -/

/-- With nothing due, an idle step is one reference tick of 1000/32768 ms. -/
theorem test_idle_tick :
    (idle { up with lines := { up.lines with lines := up.lines.lines.map fun x => { x with roundNext := 12 } } }
      ).clockPhase = 1000 := by decide +kernel
/-- The first thing that is due after reset is a poll round on each line (R65). -/
theorem test_idle_rounds : (idle State.reset).pending = [.pollRoundBegin 0, .pollRoundBegin 1, .pollRoundBegin 2,
    .pollRoundBegin 3] := by decide +kernel

end Sys2Proof.Tests
end

