-- ==== Sys2Proof/Tests/Witnesses.lean ====
section
/-! SUPPORT. For every statement that has hypotheses, a concrete state and operands that meet them together; for a
statement of several clauses, one for each clause, at a boundary of its range where it has one. -/

namespace Sys2Proof.Tests

open Sys2Proof Sys2Proof.Machine

set_option Elab.async false

/-! ### Step, clock, resets -/

theorem witness_StepTakesFrontCommand :
    ({ State.reset with pending := [.powerOnReset, .unknownKind] } : State).pending = .powerOnReset :: [.unknownKind] := rfl

/-- Reset with every line waiting for its next round, so that nothing is due. -/
def quietLines : State :=
  { up with lines := { up.lines with lines := up.lines.lines.map fun x => { x with roundNext := 12 } } }

/-- The same one tick from the end of each timer, the frame timer and the lamps' own milliseconds among them: the lamps
0 and 7 in a fade and a flash, the ODO result a tick from its staleness limit. -/
def lastTick : State :=
  let s := lampAt 0 5 600 (.fading 0 300 2 1) (lampAt 7 0 600 (.flashOff 1) (aged (Config.ms 2000 - 1000)))
  { s with
    clockPhase := 31768
    link := { s.link with supervision := some 1000 }
    playout := { s.playout with frameTimer := 1 }
    announce := { s.announce with startTimer := some 1000, durationTimer := some 1000 }
    sense := { s.sense with scan := .delay 1000 }
    lighting := { s.lighting with lamps := s.lighting.lamps.map fun x => { x with phase := 31768 } }
    lines := { s.lines with
      lines := s.lines.lines.map fun x => { x with quiet := some 1000, roundNext := 12, roundLeft := 1000 } } }

theorem witness_IdleStepPassesTime :
    (quietLines.pending = [] ∧ dueNow quietLines = [] ∧ quietLines.clockPhase + 1000 < 32768 ∧
      quietLines.sense.scan = .idle) ∧
    (lastTick.pending = [] ∧ dueNow lastTick = [] ∧ lastTick.clockPhase + 1000 = 32768) ∧
    (lastTick.playout.frameTimer ≤ 1 ∧ lastTick.link.supervision = some 1000 ∧
      lastTick.announce.startTimer = some 1000 ∧ lastTick.announce.durationTimer = some 1000 ∧
      lastTick.sense.scan = .delay 1000) ∧
    ((lineAt lastTick 3).quiet = some 1000 ∧ 3 < lastTick.lines.lines.length ∧ (lineAt lastTick 3).state = .awake ∧
      (lineAt lastTick 3).transaction = none ∧ 12 ≤ (lineAt lastTick 3).roundNext ∧
      (lineAt lastTick 3).roundLeft = 1000) ∧
    ((lastTick.lighting.lamps[0]?).map (fun x => (x.transition, x.phase + 1000)) =
        some (.fading 0 300 2 1, 32768) ∧
      (lastTick.lighting.lamps[7]?).map (fun x => (x.transition, x.phase + 1000)) = some (.flashOff 1, 32768)) ∧
    (lastTick.sense.channels[chanNumber .odo]? = some (channel 0) ∧ (channel 0).staleness ≤ 65535 ∧
      (lastTick.sense.results[chanNumber .odo]?).map ResultRec.present = some true ∧
      (lastTick.sense.results[chanNumber .odo]?).map (fun r => r.age + 1000) =
        some (Config.ms (channel 0).staleness)) := by
  decide +kernel

/-- The last tick of an open REF-GATE, and the last of a wait. -/
theorem witness_IdleStepPassesTime_conversion :
    let gate := conversion .nfwd (channel 3) 5 8191
    let wait := conversion .odo (channel 0) 3 32767
    (dueNow (converting gate quietLines) = [] ∧ gate.settings.gateMode = .refGate ∧ gate.gateOpen = true ∧
      gate.settings.gateLength = gate.ticks + 1) ∧
    dueNow (converting wait quietLines) = [] ∧ wait.settings.gateMode = .inputGate ∧
      wait.settings.waitLimit = wait.waited + 1 := by decide +kernel

/-- What is due at once: the head request, an INPUT-GATE at its last edge, and a round at address 0. -/
theorem witness_IdleStepPassesTime_due :
    let gate := converting (conversion .odo (channel 0) 4 5) quietLines
    (up.pending = [] ∧ dueNow up ≠ [] ∧ up.link.received = [] ∧ up.link.ended = []) ∧
    dueAtOnce (asks 11 [] quietLines) (rowOf (req 11 [])) ∧ dueAtOnce gate (.inputGateClose 0 ⟨false, false⟩) ∧
    dueAtOnce up (.pollRoundBegin 3) ∧ gate.link.received = [] :=
  ⟨by decide +kernel, .inl ⟨_, [], ⟨rfl, by decide⟩, rfl⟩,
    .inr (.inl ⟨_, rfl, by decide +kernel, rfl, by decide +kernel, rfl⟩),
    .inr (.inr ⟨3, by decide +kernel, by decide +kernel, by decide +kernel, by decide +kernel, rfl⟩), rfl⟩

theorem witness_ResetRequestKeepsLinkOnly : headIs (req 11 []) [] (asks 11 [] up) ∧ (req 11 []).kind = 11#8 :=
  ⟨⟨rfl, by decide⟩, rfl⟩

/-! ### The coach link and the playout buffer -/

theorem witness_FormedAudioFrameIsTaken :
    (up.link.received = [] ∧ up.link.ended = []) ∧
    (byteAt [0, 0, 0, 0, 0] 2 ≤ 16 ∧ [0#8, 0, 0, 0, 0].length = 5 + 67 * byteAt [0, 0, 0, 0, 0] 2) ∧
    (byteAt ([0, 0, 16, 0, 0] ++ List.replicate 1072 0) 2 ≤ 16 ∧
      ([0, 0, 16, 0, 0] ++ List.replicate 1072 0#8).length =
        5 + 67 * byteAt ([0, 0, 16, 0, 0] ++ List.replicate 1072 0) 2) := by decide +kernel

/-- The last of 16 blocks, with the END mark and the samples of the largest and the smallest value. -/
theorem witness_FormedAudioFrameIsTaken_block :
    let body : List Byte := [0, 0, 16, 0, 0] ++ List.replicate 1005 0 ++ [31, 42, 1, 0x7F, 0xFF, 0x80, 0] ++
      List.replicate 60 0
    ((decodeAudio body).blocks[15]?).map (fun b => (b.tag, b.ticket, b.endMark)) = some (31, 42, true) ∧
      wordAt body (8 + 67 * 15) = 32767 ∧ wordAt body (8 + 67 * 15 + 2) = 32768 ∧
      ((decodeAudio body).blocks[15]?).map (fun b => b.samples.take 2) = some [32767, -32768] := by decide +kernel

theorem witness_FormedRequestFrameIsQueued :
    (up.link.received = [] ∧ up.link.ended = [] ∧ up.link.state = .up) ∧
    (State.reset.link.received = [] ∧ State.reset.link.ended = [] ∧ State.reset.link.state = .wait) ∧
    (let lost := run (.supervisionTimerExpiry false) silent
     lost.link.received = [] ∧ lost.link.ended = [] ∧ lost.link.state = .lost) ∧
    ([] : List Byte).length ≤ 1075 ∧ (List.replicate 1075 0#8).length ≤ 1075 := by decide +kernel

theorem witness_BadFramesChangeOnlyHunting :
    (up.link.received = [] ∧ up.link.ended = []) ∧ ([] : List Byte).length ≤ 1077 ∧
      (List.replicate 1077 0#8).length ≤ 1077 ∧
      (∀ covered, crc covered + 1 ≠ crc covered) ∧ 0x03#8 ≠ 0x01#8 ∧ 0x03#8 ≠ 0x02#8 ∧
      (0xB7#8 ∉ [0x00#8] ∧ [0x00#8].length < 2) ∧
      (0xB7#8 ∉ [0x04#8, 0x35] ∧ wordAt [0x04, 0x35] 0 = 1077 ∧ [0x04#8, 0x35].length < wordAt [0x04, 0x35] 0 + 4) ∧
      1077 < (0x04#8).toNat * 256 + (0x36#8).toNat ∧
      (16 < byteAt [0, 0, 17] 2 ∧ [0#8, 0, 0, 0].length ≠ 5 + 67 * byteAt [0, 0, 0, 0] 2 ∧ [0#8].length < 2) :=
  ⟨⟨rfl, rfl⟩, by decide, Nat.le_of_eq List.length_replicate, fun _ => by bv_omega, by decide, by decide,
    by decide, by decide,
    by decide, by decide⟩

/-- A gap behind a bad frame and a partial one: the bad frame is due, and then nothing of the bytes before the gap is
left. -/
def gapped : State := run (.byteGapTimeout [0xB7, 0x4E, 0x81, 0xB7, 0x4E, 0x01]) up

theorem witness_BadFramesChangeOnlyHunting_gap :
    gapped.link.ended = [[0xB7, 0x4E, 0x81, 0xB7, 0x4E, 0x01]] ∧ gapped.link.received = [] ∧
      0x81#8 ≠ 0x01#8 ∧ 0x81#8 ≠ 0x02#8 ∧ (run (.badFrame [0x00]) gapped).link.ended = [] ∧
      (run (.badFrame [0x00]) gapped).link.received = [0x00] ∧
      (run (.byteGapTimeout [0xB7]) up).link.received = [0xB7] := by decide +kernel

theorem witness_SupervisionExpiryLosesLink :
    (silent.link.state = .up ∧ silent.link.supervision = some 0 ∧ silent.segment.live = .off) ∧
    ({ silent with segment := { up.segment with live := .on } } : State).segment.live ≠ .off ∧
    (State.reset.link.state = .wait ∧ up.link.supervision ≠ some 0 ∧
      (run (.supervisionTimerExpiry false) silent).link.state = .lost) ∧
    (onPath (entry .stop .playing) up).announce.path = some (entry .stop .playing) ∧
    (up.announce.path = none ∧ up.announce.waiting = []) ∧
    (setWaiting [entry .stop .waiting, entry .service .waiting] up).announce.path = none ∧
    (setWaiting [entry .stop .waiting, entry .service .waiting] up).announce.waiting =
      entry .stop .waiting :: [entry .service .waiting] := by decide +kernel

/-- A loss with live ON, and one with live REQUESTED and a path that it frees. -/
theorem witness_SupervisionExpiryLosesLink_live :
    let s := onPath (entry .stop .playing)
      { silent with segment := { silent.segment with live := .requested, heldMask := 5 } }
    s.link.state = .up ∧ s.link.supervision = some 0 ∧ s.segment.live = .requested ∧
      (announceLinkLoss { s with link := { s.link with state := .lost, supervision := none } }).1.announce.path = none ∧
      s.announce.path = some (entry .stop .playing) ∧ (entry .stop .playing).state = .playing ∧
      (run (.supervisionTimerExpiry false) s).manage.notices.length = 3 ∧
      (run (.supervisionTimerExpiry true) s).manage.notices.length = 2 := by decide +kernel

theorem witness_LinkLossFailsRunningClip :
    let s := onPath (entry .stop .playing) State.reset
    s.announce.path = some (entry .stop .playing) ∧ (entry .stop .playing).state = .playing ∧
      (entry .stop .startingClip).state = .startingClip ∧ (entry .stop .playing).cls ≠ .clearance ∧
      (∀ w ∈ s.announce.waiting, w.cls ≠ .clearance) ∧ s.link.state ≠ .up ∧ s.manage.notices.length < 16 ∧
      (onPath (entry .clearance .chimeOnly) s).announce.path = some (entry .clearance .chimeOnly) ∧
      State.reset.announce.path = none := by
  decide +kernel

/-- A STOP in STARTING-CHIME, with nothing alike behind it and with one alike. -/
theorem witness_LinkLossFailsRunningClip_chime :
    let s := onPath (entry .stop .startingChime) State.reset
    s.announce.path = some (entry .stop .startingChime) ∧ (entry .stop .startingChime).state = .startingChime ∧
      s.link.state ≠ .up ∧ waitingDistinct s ∧
      (∀ w ∈ s.announce.waiting, ¬ (w.clip = 41 ∧ w.cls = .stop)) ∧
      waitingDistinct (setWaiting [entry .stop .waiting] s) ∧
      (∃ w ∈ (setWaiting [entry .stop .waiting] s).announce.waiting, w.clip = (entry .stop .startingChime).clip ∧
        w.cls = (entry .stop .startingChime).cls) ∧
      ∀ w ∈ (setWaiting [entry .stop .waiting] s).announce.waiting, w.cls ≠ .clearance := by
  unfold waitingDistinct; decide +kernel

/-- `s` with no chime in its CLEARANCE class. -/
def noClearanceChime (s : State) : State :=
  { s with mix := { s.mix with classes := s.mix.classes.modify 0 fun r => { r with chime := none } } }

/-- A CLEARANCE that plays, and a CLEARANCE and a STOP that wait, while the link is down, with a class chime and
without. -/
theorem witness_LinkLossFailsRunningClip_clearance :
    let s := onPath (entry .clearance .playing) State.reset
    s.announce.path = some (entry .clearance .playing) ∧ (entry .clearance .playing).state ≠ .chimeOnly ∧
      (entry .clearance .playing).state ≠ .waiting ∧ s.link.state ≠ .up ∧
      (s.mix.classes[AnnClass.clearance.code]?).map ClassRec.chime = some (some 0) ∧
      ((noClearanceChime s).mix.classes[AnnClass.clearance.code]?).map ClassRec.chime = some none ∧
      (∀ w ∈ (noClearanceChime s).announce.waiting, w.cls ≠ .clearance) ∧
      (∀ cls, (setWaiting [entry cls .waiting] State.reset).announce.waiting = entry cls .waiting :: []) ∧
      (setWaiting [entry .stop .waiting] State.reset).announce.path = none ∧ State.reset.link.state ≠ .up := by
  refine ⟨?_, ?_, ?_, ?_, ?_, ?_, ?_, fun _ => rfl, ?_, ?_⟩ <;> decide +kernel

/-- `up` with `n` as the last accepted sequence. -/
def lastWas (n : BitVec 16) : State := { up with playout := { up.playout with lastSequence := some n } }

/-- `up` with one entry queued. -/
def oneQueued : State := { up with playout := { up.playout with queue := [⟨0, 17, []⟩] } }

theorem witness_SequenceTestAcceptsNewerOnly :
    up.playout.lastSequence = none ∧ (lastWas 65535).playout.lastSequence = some 65535 ∧
      ((0#16 - 65535#16).toNat = 1 ∧ (32766#16 - 65535#16).toNat = 32767 ∧ (32767#16 - 65535#16).toNat = 32768 ∧
        (65535#16 - 65535#16).toNat = 0) ∧
      up.playout.state = .filling ∧ oneQueued.playout.state = .filling ∧
      (takeAudio ⟨1, 17, []⟩ oneQueued).playout.queue.length = 2 ∧ (takeAudio ⟨1, 17, []⟩ up).playout.queue.length ≠ 2 ∧
      ({ up with playout := { up.playout with state := .playing } } : State).playout.state = .playing := by
  decide +kernel

theorem witness_KeptBlocksPassTagTests :
    keepBlocks up [{ tag := 30, ticket := 0, endMark := false, samples := [] }] [] =
      [{ tag := 30, samples := [], mark := none }] := by decide +kernel

/-- A block of tag 31 with `ticket`. -/
def clipBlock (ticket : Nat) : ChannelBlock := { tag := 31, ticket := ticket, endMark := true, samples := [] }

/-- The second block of tag 31 is the first that passes: it alone carries the path entry's ticket 42. -/
theorem witness_KeptBlocksPassTagTests_first :
    let s := onPath (entry .safety .startingClip) up
    [clipBlock 41, clipBlock 42][1]? = some (clipBlock 42) ∧ passesTagTest s (clipBlock 42) ∧
      ¬ passesTagTest s (clipBlock 41) ∧ passesTagTest s { clipBlock 0 with tag := 30 } := by
  refine ⟨rfl, .inr (.inr ⟨rfl, entry .safety .startingClip, rfl, .inl rfl, rfl⟩), ?_, .inr (.inl rfl)⟩
  rintro (⟨h, -⟩ | h | ⟨-, e, h, -, t⟩)
  · exact absurd h (by decide)
  · exact absurd h (by decide)
  · obtain rfl : entry .safety .startingClip = e := Option.some.inj h
    exact absurd t (by decide)

theorem witness_KeptBlocksPassTagTests_start :
    let s := onPath (entry .safety .startingClip) up
    s.playout.lastSequence = none ∧ s.announce.path = some (entry .safety .startingClip) ∧
      (∃ k ∈ keepBlocks s [clipBlock 41, clipBlock 42] [], k.tag = 31) ∧
      (∀ k ∈ keepBlocks s [clipBlock 41] [], k.tag ≠ 31) := by decide +kernel

/-- A STOP that plays with ticket 42 and its chime, a SLEEPING line 0, and held writes: language 0 enabled, a seat,
and a SEAT-LINE write that wakes the line. -/
def heldWork : State :=
  let s := requestChime 2 (some 42) 7 (onPath (entry .stop .playing) (setLine 0 sleepLine up))
  { s with
    seats := { s.seats with held := [.language 0 [{ langEntryReset 0 with enabled := true }], .seat 95 [⟨3, some 0, 15⟩]] }
    lines := { s.lines with held := [(0, [{ mode := .short, sleepEnable := false }])] }
    mix := { s.mix with held := [.mix { mixParamsReset with duckDepth := 96 }, .zone 3 [⟨some .naft, false⟩]] } }

theorem witness_FrameStartHandsOverAndAppliesWrites :
    up.playout.state = .filling ∧
      ({ up with playout := { up.playout with state := .playing } } : State).playout.queue = [] ∧
      ({ up with playout := { up.playout with state := .playing, queue := [⟨0, 17, []⟩, ⟨1, 17, []⟩] } } : State
        ).playout.queue = ⟨0, 17, []⟩ :: [⟨1, 17, []⟩] := ⟨rfl, rfl, rfl⟩

/-- The write of line 0 is in `lineRecords`, and the generator still has tones after the handover. -/
theorem witness_FrameStartHandsOverAndAppliesWrites_held :
    heldWork.seats.seats.length = 96 ∧ heldWork.lines.lines[0]? = some (sleepLine lineReset) ∧
      (lineRecords heldWork.lines.held 0).getLast? = some { mode := .short, sleepEnable := false } ∧
      lineRecords heldWork.lines.held 3 = [] ∧ (handOver heldWork).2.mix.generator.isSome = true ∧
      (∀ q ∈ (handOver heldWork).2.mix.generator, q.tones ≠ []) ∧
      (lineAt (run (.frameStart false ⟨false, false⟩) heldWork) 0).state = .awake ∧
      (lineAt heldWork 0).boxes[11]? = some boxReset := by decide +kernel

/-- A handover that ends segment 17, and one that keeps it. -/
theorem witness_FrameStartHandsOverAndAppliesWrites_segment :
    segmentEnding.playout.state = .playing ∧ segmentEnding.playout.queue = ⟨0, 0, []⟩ :: [] ∧
      segmentEnding.playout.segmentCopy ≠ 0 ∧ ({ State.reset.playout with queue := [⟨0, 17, []⟩] } : Playout).queue =
        ⟨0, 17, []⟩ :: [] := by decide +kernel

/-- A chime-only run that covers the zones 0 and 1, which the frame start reads before its end and not after; a write
that takes a language out of the map while live is ON; a frame start at which no chime ends. -/
theorem witness_FrameStartHandsOverAndAppliesWrites_layers :
    let off : State := { up with
      seats := { up.seats with held := [.language 11 [langEntryReset 11]] }
      segment := { up.segment with live := .on, liveMask := 0x800 } }
    (pathCovers (handOver chimeEnding).2 0 = true ∧
      pathCovers (endChime (mixFrameWrites (handOver chimeEnding).2)) 0 = false ∧
      pathCovers (endChime (mixFrameWrites (handOver chimeEnding).2)) 2 = true) ∧
    chimeEnding.mix.zones[0]? = some { zoneReset none with duck := -40 } ∧
    (.language 11 [langEntryReset 11] ∈ off.seats.held ∧
      (run (.frameStart false ⟨false, false⟩) off).segment.live = off.segment.live ∧
      (run (.frameStart false ⟨false, false⟩) off).segment.liveMask = 0) ∧
    up.seats.held = [] ∧ (∀ q ∈ (handOver backRun).2.mix.generator, q.tones ≠ []) ∧
    endTicket (handOver backRun).1 = none ∧ (run (.frameStart false ⟨false, false⟩) backRun).lighting.indicator = true := by
  decide +kernel

/-- The last chime-only run ends with live REQUESTED: the path left IDLE grants it. -/
theorem witness_FrameStartHandsOverAndAppliesWrites_grant :
    let s : State := { setWaiting [] chimeEnding with segment := { up.segment with live := .requested, heldMask := 3 } }
    s.segment.live = .requested ∧ (run (.frameStart false ⟨true, false⟩) s).segment.live = .on ∧
      (run (.frameStart false ⟨false, false⟩) s).segment.live ≠ s.segment.live := by decide +kernel

theorem witness_ReportTakesRepliesThenNotices :
    State.reset.link.state = .wait ∧ up.link.state = .up ∧
      (run (.supervisionTimerExpiry false) silent).link.state = .lost := by
  decide +kernel

/-- An unordered averaged value, and an ordered one at its last moment. -/
theorem witness_ReportTakesRepliesThenNotices_average :
    (∀ v, ¬ orderedValue State.reset 0 v) ∧ orderedValue (aged (Config.ms 2000 - 1)) 0 7 := by
  refine ⟨?_, channel 0,
    { resultCleared with present := true, avgPresent := true, avgValue := 7, age := Config.ms 2000 - 1 }, rfl, rfl, rfl, rfl,
    fun _ => by decide, rfl⟩
  rintro v ⟨record, r, -, hr, present, -⟩
  obtain rfl : resultCleared = r := Option.some.inj hr
  exact absurd present (by decide)

/-! ### Requests -/

theorem witness_RequestsAreCheckedInOrder :
    headIs (req 12 []) [] (asks 12 [] up) ∧ 11 < (req 12 []).kind.toNat ∧
    ((req 11 [0]).params.length ≠ paramLength 11 ∧ (req 1 [0, 0]).params.length ≠ paramLength 1) ∧
    ((req 0 [0, 0]).params.length < 3) ∧ (13 < byteAt (req 0 [14, 0, 1]).params 0) ∧
    (byteAt (req 0 [13, 0, 0]).params 2 = 0 ∧ 16 < byteAt (req 0 [13, 0, 17]).params 2) ∧
    ((req 0 [3, 0, 16]).params.length ≠ 3 + 16 * recordSize 3) ∧
    ((req 0 ([11, 255, 2] ++ List.replicate 40 0)).params.length = 3 + 2 * recordSize 11 ∧
      tableEntries 11 = some 256 ∧ 256 < 255 + 2 ∧ up.route.state = .stopped ∧ (routeAt 0 0 [] up).route.state ≠ .stopped) ∧
    ((req 0 [4, 1, 1, 0, 0, 0, 0, 0]).params.length = 3 + 1 * recordSize 4 ∧ tableEntries 4 = some 1 ∧ 1 < 1 + 1) ∧
    ((req 2 [4]).params.length = paramLength 2 ∧ 3 < (4#8).toNat ∧ (req 8 [2, 0, 0]).params.length = paramLength 8 ∧
      1 < (2#8).toNat) := by
  unfold headIs; decide +kernel

theorem witness_RequestRowsWaitForReplyPlace :
    Instr.reset ∈ requestRows ∧ requestRows.length = 33 ∧ up.manage.requests = [] ∧
    8 ≤ ({ asks 11 [] up with manage := { (asks 11 [] up).manage with
      replies := List.replicate 8 { tag := 0, kind := 10, code := .done, data := [] } } } : State).manage.replies.length := by
  decide +kernel

/-- A request whose row is its kind's, a RESET with no parameters, and one with a parameter. -/
theorem witness_RequestRowsWaitForReplyPlace_head :
    (headIs (req 10 [0]) [] (asks 10 [0] up) ∧ rowOf (req 10 [0]) = .statusRead ∧ (req 10 [0]).kind ≠ 11#8) ∧
    (headIs (req 11 []) [] (asks 11 [] up) ∧ rowOf (req 11 []) = .reset ∧ (req 11 []).params = []) ∧
    (req 11 [0]).params ≠ [] ∧ rowOf (req 6 [1, 0, 0]) = .liveOff := by
  unfold headIs; decide +kernel

/-- Records at the ends of a list, and one record of each table at the ends of its sets and beyond them. -/
theorem witness_WrittenRecords :
    (11 + [(0 : Nat)].length ≤ (List.replicate 12 (0 : Nat)).length ∧ (11 ≤ 11 ∧ 11 < 11 + [(0 : Nat)].length)) ∧
    decodeAll decodeSeat [[3, 255, 15], [0, 0, 0]] = some [⟨3, none, 15⟩, ⟨0, some 0, 0⟩] ∧
    (decodeLang [1, 29, 0x20, 0x5A, 0, 1]).isSome ∧ decodeLang [1, 30, 0x20, 0x5A, 0, 1] = none ∧
    decodeLang [1, 29, 0x40, 0x5A, 0, 1] = none ∧ decodeLang [1, 29, 0x5B, 0x5A, 0, 1] = none ∧
    (decodeMix [0, 1, 1, 0, 1]).isSome ∧ decodeMix [0, 0, 1, 0, 1] = none ∧ decodeMix [97, 1, 1, 0, 1] = none ∧
    decodeClass [0x18, 0x18, 4, 0, 1, 0] = none ∧ decodeZone [2, 0] = none ∧ decodeSeatLine [1, 2] = none ∧
    decodeLighting [15, 8, 0, 0, 0] = none ∧ decodeLighting [15, 255, 0, 0, 4] = none := by decide +kernel

theorem witness_LanguageAndSeatWritesAreHeld :
    let s := threeLanguages up
    let lang := req 0 [0, 11, 1, 0, 29, 65, 90, 0, 1]
    let seat := req 0 [1, 95, 1, 3, 5, 15]
    (headIs lang [] (asks 0 lang.params s) ∧ isWrite 0 6 12 11 1 lang ∧
      decodeAll decodeLang (writtenRecords 6 1 lang) ≠ none ∧
      decodeAll decodeLang (writtenRecords 6 1 (req 0 [0, 11, 1, 0, 30, 65, 90, 0, 1])) = none) ∧
    (headIs seat [] (asks 0 seat.params s) ∧ isWrite 1 3 96 95 1 seat ∧
      decodeAll decodeSeat (writtenRecords 3 1 seat) = some [{ zone := 3, language := some 5, volume := 15 }] ∧
      (s.seats.map[5]?).map LangEntry.enabled = some true ∧ (s.seats.map[4]?).map LangEntry.enabled = some false ∧
      heldMap s.seats.held s.seats.map = s.seats.map ∧ (∀ e ∈ up.seats.map, e.enabled = false) ∧
      decodeAll decodeSeat (writtenRecords 3 1 (req 0 [1, 95, 1, 4, 5, 15])) = none) := by
  unfold headIs isWrite; decide +kernel

theorem witness_MixAndLineWritesAreHeld :
    headIs (req 0 [2, 3, 1, 255, 0]) [] (asks 0 [2, 3, 1, 255, 0] up) ∧
    isWrite 2 2 4 3 1 (req 0 [2, 3, 1, 255, 0]) ∧ isWrite 3 1 16 0 16 (req 0 ([3, 0, 16] ++ List.replicate 16 0)) ∧
    isWrite 4 5 1 0 1 (req 0 [4, 0, 1, 96, 96, 96, 15, 250]) ∧
    isWrite 5 3 8 7 1 (req 0 [5, 7, 1, 255, 255, 24]) ∧ isWrite 6 6 4 3 1 (req 0 [6, 3, 1, 24, 24, 255, 24, 120, 0]) ∧
    isWrite 7 17 4 3 1 (req 0 ([7, 3, 1, 1] ++ List.replicate 16 0)) ∧ isWrite 8 2 4 3 1 (req 0 [8, 3, 1, 1, 1]) := by
  unfold headIs isWrite; decide +kernel

/-- The parameters of a SENSE-CHANNEL write to channel `n` with flag `enabled`. -/
def senseParams (n enabled : Byte) : List Byte := [9, n, 1, enabled, 0, 4, 0, 255, 255, 255, 16, 39, 16, 255, 255]

/-- The record of it. -/
def senseWritten (n : Nat) (enabled : Bool) : SenseRec :=
  { enabled := enabled, gateMode := .refGate, gateLength := 1024, edgeCount := 255, waitLimit := 65535, averaging := 16,
    staleness := 10000, pulse := if n = 0 then 65535 else 0 }

theorem witness_SenseChannelWriteTakesEffect :
    headIs (req 0 (senseParams 4 0)) [] (asks 0 (senseParams 4 0) up) ∧
    isWrite 9 12 5 4 1 (req 0 (senseParams 4 0)) ∧
    decodeSenses 4 (writtenRecords 12 1 (req 0 (senseParams 4 0))) = some [senseWritten 4 true] ∧
    decodeSenses 4 (writtenRecords 12 1 (req 0 (senseParams 4 2))) = none ∧
    decodeSense 4 (((req 0 (senseParams 4 0)).params.drop 3).take 12) = some (senseWritten 4 true) ∧
    decodeSense 4 (((req 0 (senseParams 4 1)).params.drop 3).take 12) = some (senseWritten 4 false) ∧
    up.sense.channels[4]? = some (channel 4) ∧ (channel 4).enabled = false ∧ up.sense.scan = .idle ∧
    (let s := converting (conversion .naft (channel 4) 0 0) (measuring 4 .refGate up)
     s.sense.channels[4]? = some { channel 4 with enabled := true } ∧ s.sense.mode = .single ∧
      chanNumber .naft = 4 ∧ ∀ x ∈ s.sense.channels.drop 5, x.enabled = false) := by
  unfold headIs isWrite; decide +kernel

theorem witness_SenseChannelWrite_scanWait :
    ∀ (i : Nat) (x : SenseRec), i ≠ 4 → up.sense.channels[i]? = some x → x.enabled = false := by
  intro i x _ h
  have all : ∀ y ∈ up.sense.channels, y.enabled = false := by decide +kernel
  exact all x (List.mem_of_getElem? h)

/-- The parameters of a LIMIT write to limit 7 with flag `inUse`. -/
def limitParams (inUse : Byte) : List Byte := [10, 7, 1, inUse, 4, 1, 1, 255, 255, 255, 255, 1, 0, 15, 0, 0, 0, 0]

theorem witness_LimitWriteReplacesEntry :
    headIs (req 0 (limitParams 0)) [] (asks 0 (limitParams 0) up) ∧ isWrite 10 15 8 7 1 (req 0 (limitParams 0)) ∧
    decodeAll decodeLimit (writtenRecords 15 1 (req 0 (limitParams 0))) ≠ none ∧
    decodeAll decodeLimit (writtenRecords 15 1 (req 0 (limitParams 2))) = none ∧
    (decodeLimit (((req 0 (limitParams 0)).params.drop 3).take 15)).map Limit.action = some (.baseScene 15) ∧
    up.sense.limits[7]? = some limitReset := by
  unfold headIs isWrite; decide +kernel

/-- A write over a TRIPPED entry that gave the selection. -/
theorem witness_LimitWriteReplacesEntry_selection :
    let y : Limit := { limitReset with inUse := true, tripped := true, action := .baseScene 3 }
    let limits := up.sense.limits.set 7 y
    let s : State := asks 0 (limitParams 0)
      { up with sense := { up.sense with limits := limits, selection := baseSelection limits } }
    headIs (req 0 (limitParams 0)) [] s ∧ s.sense.limits[7]? = some y ∧ s.sense.selection = some 3 ∧
      (decodeLimit (((req 0 (limitParams 0)).params.drop 3).take 15)).map
        (fun new => baseSelection (s.sense.limits.set 7 new)) = some none := by
  unfold headIs; decide +kernel

/-- The parameters of a CUE write of a NOTICE cue to entry 255, with repeatable code `repeatable`. -/
def cueParams (repeatable : Byte) : List Byte :=
  [11, 255, 1, 0, 15, 255, 255, 0, 0, 5, 255, 0, 0, 0, 0, 0, 0, 0, 0, 0, 0, repeatable, 0]

theorem witness_CueWriteArmsCues :
    headIs (req 0 (cueParams 1)) [] (asks 0 (cueParams 1) up) ∧ isWrite 11 20 256 255 1 (req 0 (cueParams 1)) ∧
    up.route.state = .stopped ∧
    (decodeAll decodeCue (writtenRecords 20 1 (req 0 (cueParams 1)))).map (fun l => l.map Cue.trigger) = some [1048575] ∧
    decodeAll decodeCue (writtenRecords 20 1 (req 0 (cueParams 2))) = none := by
  unfold headIs isWrite; decide +kernel

/-- The parameters of a SCENE write to scene 15 with target `t` in its first part. -/
def sceneParams (high low : Byte) : List Byte :=
  [12, 15, 1, 0, high, low, 1, 0, 100, 0, 0] ++ (List.replicate 7 [1, 0, 0, 0, 0, 100, 0, 0]).flatten

theorem witness_SceneAndLightingWritesResolve :
    headIs (req 0 (sceneParams 3 232)) [] (asks 0 (sceneParams 3 232) up) ∧
    isWrite 12 64 16 15 1 (req 0 (sceneParams 3 232)) ∧
    decodeAll decodeScene (writtenRecords 64 1 (req 0 (sceneParams 3 232))) ≠ none ∧
    decodeAll decodeScene (writtenRecords 64 1 (req 0 (sceneParams 3 233))) = none ∧
    isWrite 13 5 1 0 1 (req 0 [13, 0, 1, 15, 7, 3, 232, 3]) ∧
    decodeLighting (((req 0 [13, 0, 1, 15, 7, 3, 232, 3]).params.drop 3).take 5) ≠ none ∧
    decodeLighting (((req 0 [13, 0, 1, 16, 7, 3, 232, 3]).params.drop 3).take 5) = none := by
  unfold headIs isWrite; decide +kernel

/-- Lamps at the start of a moment, two layer changes of it, and a third. -/
theorem witness_SceneAndLightingWritesResolve_moment :
    let g := (twoScenes 1000 0).lighting
    let changes : List (Lighting → Lighting) := [fun h => { h with force := some 1 }, fun h => { h with cue := some 2 }]
    (∀ x ∈ g.lamps, x.began = none) ∧ (∀ x ∈ (resolve { g with force := some 1 }).lamps.take 1, x.began ≠ none) ∧
    ∃ last : Lighting, last.force = none ∧
      last.lamps = (changes.foldl (fun h change => resolve { change h with lamps := h.lamps }) g).lamps :=
  ⟨by decide +kernel, by decide +kernel, { (twoScenes 1000 0).lighting with lamps := _ }, rfl, rfl⟩

theorem witness_TableReadReturnsRecordsInForce :
    headIs (req 1 [17, 4, 1]) [] (asks 1 [17, 4, 1] up) ∧ 17 < byteAt [18, 0, 1] 0 ∧ tableEntries 11 = some 256 ∧
    (1 ≤ byteAt [11, 240, 16] 2 ∧ byteAt [11, 240, 16] 2 ≤ 16 ∧ byteAt [11, 240, 16] 1 + byteAt [11, 240, 16] 2 ≤ 256) ∧
    256 < byteAt [11, 241, 16] 1 + byteAt [11, 241, 16] 2 ∧ 16 < byteAt [11, 0, 17] 2 := by
  unfold headIs; decide +kernel

/-- The last record of every table. -/
theorem witness_TableReadReturnsRecordsInForce_last :
    up.seats.map[11]?.isSome ∧ up.seats.seats[95]?.isSome ∧ up.mix.zones[3]?.isSome ∧ up.mix.curve[15]?.isSome ∧
    up.mix.bands[7]?.isSome ∧ up.mix.classes[3]?.isSome ∧ up.mix.chimes[3]?.isSome ∧ up.lines.lines[3]?.isSome ∧
    up.sense.channels[4]?.isSome ∧ up.sense.limits[7]?.isSome ∧ up.route.cues[255]?.isSome ∧
    up.lighting.scenes[15]?.isSome := by decide +kernel

theorem witness_StatusReadReportsThenClears :
    headIs (req 10 [0]) [] (asks 10 [0] up) ∧ headIs (req 10 [1]) [] (asks 10 [1] up) ∧ 1 < (2#8).toNat := by
  unfold headIs; decide +kernel

/-! ### The route -/

theorem witness_RouteStartResetsRun :
    let s := asks 2 [0] { up with route := { up.route with cues := up.route.cues.set 7 (cue 5 1) } }
    headIs (req 2 [0]) [] s ∧ s.route.cues.length = 256 ∧ (∀ c ∈ s.route.cues, c.inUse = true → 0 < c.trigger) ∧
      (s.route.cues.filter Cue.inUse).Pairwise (fun a b => a.trigger ≤ b.trigger) := by
  unfold headIs; decide +kernel

/-- A SLEEPING line, and an AWAKE one with its sleep pending. -/
theorem witness_RouteStartResetsRun_lines :
    (sleepLine lineReset).state = .sleeping ∧
      ({ lineReset with sleepPending := true, quiet := none, roundNext := 5 } : Line).state = .awake := by decide +kernel

theorem witness_HoldAndResume :
    headIs (req 2 [1]) [] (asks 2 [1] (routeAt 9 0 [] up)) ∧ (asks 2 [1] (routeAt 9 0 [] up)).route.state = .running ∧
    (asks 2 [1] up).route.state ≠ .running ∧
    headIs (req 2 [2]) [] (asks 2 [2] (inState .held (routeAt 9 0 [] up))) ∧
    (asks 2 [2] (inState .held (routeAt 9 0 [] up))).route.state = .held ∧ (asks 2 [2] up).route.state ≠ .held := by
  unfold headIs; decide +kernel

/-- The open cues 3, which is PENDING, and 4, which is DEFERRED and can be served. -/
theorem witness_HoldAndResume_retry :
    let s := withCueState 4 .deferred backRun
    s.route.state = .running ∧ s.route.openCues = [3] ++ 4 :: [] ∧ (∀ j ∈ [3], ¬ servable s j) ∧ servable s 4 ∧
      (∀ i ∈ backRun.route.openCues, ¬ servable backRun i) ∧ up.route.state ≠ .running := by
  unfold servable serves; decide +kernel

theorem witness_RouteStopFreezesRun :
    headIs (req 2 [3]) [] (asks 2 [3] backRun) ∧ up.route.state = .stopped := by
  unfold headIs; decide +kernel

theorem witness_PositionFixMovesRoute :
    headIs (req 3 [0, 1, 0xFE]) [] (asks 3 [0, 1, 0xFE] backRun) ∧ threeAt [0x10, 0, 0] 0 = 1048576 ∧
    threeAt [0x0F, 0xFF, 0xFF] 0 = 1048575 ∧ (asks 3 [0, 0, 0] up).route.state = .stopped ∧
    (threeAt [0, 2, 0xBC] 0 = position backRun ∧ backRun.route.state ≠ .stopped) ∧
    (position (inState .held backRun) < threeAt [0, 2, 0xBD] 0 ∧ (inState .held backRun).route.state = .held) ∧
    (position backRun < threeAt [0, 2, 0xBD] 0 ∧ backRun.route.state = .running) ∧
    (threeAt [0, 1, 0xFE] 0 < position backRun) := by
  unfold headIs; decide +kernel

theorem witness_OdometerEdgeMovesPosition :
    let s (d : BitVec 40) := setDistance d backRun
    up.sense.channels[0]? = some (channel 0) ∧ (channel 0).pulse = 1000 ∧ up.route.state = .stopped ∧
    ((s 7008999).route.distance.toNat + 1000 < 2 ^ 40 ∧ ((s 7008999).route.distance.toNat + 1000) / 10000 = position (s 7008999)) ∧
    ((s 7009000).route.state = .running ∧ ((s 7009000).route.distance.toNat + 1000) / 10000 ≠ position (s 7009000)) ∧
    ((s 1099511626776).route.distance.toNat + 1000 = 2 ^ 40) := by decide +kernel

theorem witness_FiredCueTakesItsAction :
    (backRun.route.cues[3]?).map Cue.kind = some 2 ∧ (backRun.route.requested.map StopRequest.stop) = some 8 ∧
    (∀ k : Fin 6, ((routeAt 0 0 [cue k.val 0] up).route.cues[0]?).map Cue.kind = some k.val) ∧
    backRun.route.cues[255]? = some cueReset ∧ (∀ q ∈ backRun.route.requested, q.cue = 3 ∧ q.cue ≠ 255) ∧
    backRun.route.state = .running ∧ up.route.state ≠ .running := by decide +kernel

/-! ### Announcements, live, lighting, limits -/

theorem witness_AnnounceTakesIdlePath :
    headIs (req 4 [2, 0, 7, 3, 255]) [] (asks 4 [2, 0, 7, 3, 255] up) ∧
    (3 < byteAt [4, 0, 0, 0, 0] 0 ∧ 1023 < wordAt [0, 4, 0, 0, 0] 1 ∧ 16 ≤ byteAt [0, 0, 0, 0, 16] 4 ∧
      byteAt [0, 0, 0, 0, 254] 4 ≤ 254) ∧
    (req 4 [2, 0, 7, 3, 255]).params =
      natBytes 1 AnnClass.stop.code ++ natBytes 2 7 ++ [3#8] ++ natBytes 1 (optCode none) ∧
    (req 4 [3, 3, 255, 240, 15]).params =
      natBytes 1 AnnClass.service.code ++ natBytes 2 1023 ++ [240#8] ++ natBytes 1 (optCode (some 15)) ∧
    up.announce.path = none ∧ up.announce.waiting = [] ∧ up.link.state = .up ∧
    (up.mix.classes[AnnClass.stop.code]?).map ClassRec.chime = some (some 2) ∧
    (up.mix.classes[AnnClass.service.code]?).map ClassRec.chime = some none := by
  unfold headIs; decide +kernel

/-- A WAITING entry of class `cls` for clip `clip`, which is its arrival order too. -/
def waits (cls : AnnClass) (clip : Nat) : Entry :=
  { entry cls .waiting with clip := clip, ticket := none, arrival := clip, maxSeconds := 0 }

/-- A STOP on the path, and seven SERVICE entries that wait. -/
def fullQueue : State :=
  setWaiting ((List.range 7).map fun i => waits .service (300 + i)) (onPath (entry .stop .playing) up)

theorem witness_AnnounceQueueRules :
    let s := onPath (entry .stop .playing) up
    s.announce.path = some (entry .stop .playing) ∧ (entry .stop .playing).state ≠ .waiting ∧
    (∃ w ∈ fullQueue.announce.waiting, w.clip = 302 ∧ w.cls = .service) ∧
    (∀ w ∈ fullQueue.announce.waiting, ¬ (w.clip = 400 ∧ w.cls = .service)) ∧ s.announce.waiting.length < 7 ∧
    fullQueue.announce.waiting = fullQueue.announce.waiting.take 6 ++ [waits .service 306] ∧
    7 ≤ fullQueue.announce.waiting.length ∧ AnnClass.safety.code < (waits .service 306).cls.code ∧
    (waits .service 306).cls.code ≤ AnnClass.service.code ∧
    ((∀ w ∈ (setWaiting [waits .stop 60] s).announce.waiting, w.cls ≠ .clearance ∧ ¬ (w.clip = 41 ∧ w.cls = .stop)) ∧
      (entry .stop .playing).cls ≠ .clearance ∧ (entry .stop .playing).state ≠ .chimeOnly ∧ s.link.state = .up) := by
  decide +kernel

theorem witness_CancelRemovesEntries :
    let s := onPath (entry .safety .playing) up
    headIs (req 5 [0, 42]) [] (asks 5 [0, 42] s) ∧ s.announce.path = some (entry .safety .playing) ∧
    (entry .safety .playing).ticket = some (42#8).toNat ∧ (entry .safety .playing).ticket ≠ some (41#8).toNat ∧
    s.announce.waiting = [] ∧ s.segment.live ≠ .requested ∧ 3 < (4#8).toNat ∧
    AnnClass.ofCode (3#8).toNat = some .service ∧ AnnClass.ofCode (1#8).toNat = some .safety ∧
    (∀ w ∈ (setWaiting [waits .safety 5] s).announce.waiting, w.cls = .safety) := by
  unfold headIs; decide +kernel

/-- A CANCEL of the path entry in each of its states, the link UP: with nothing waiting, with live REQUESTED, and with a
STOP waiting. -/
theorem witness_CancelRemovesEntries_path :
    (∀ state ∈ [EntryState.startingChime, .startingClip, .playing, .chimeOnly],
      (onPath (entry .clearance state) up).announce.path = some (entry .clearance state)) ∧
    (onPath (entry .clearance .playing) up).link.state = .up ∧
    (let s := setWaiting [waits .stop 60, waits .service 61] (onPath (entry .clearance .chimeOnly) up)
     s.announce.path = some (entry .clearance .chimeOnly) ∧
      s.announce.waiting = waits .stop 60 :: [waits .service 61] ∧
      (cancelPath (entry .clearance .chimeOnly) s).announce.path.map Entry.clip = some 60) ∧
    (let s : State := { onPath (entry .safety .playing) up with
        segment := { up.segment with live := .requested, heldMask := 5 } }
     s.announce.waiting = [] ∧ s.segment.live = .requested ∧
      (cancelPath (entry .safety .playing) s).segment.live = .on) := by decide +kernel

theorem witness_AnnouncementTimersEndEntry :
    let clip := timed (some 0) none (onPath (entry .safety .startingClip) up)
    let plays := timed none (some 0) (onPath (entry .safety .playing) up)
    up.announce.path = none ∧ clip.announce.path = some (entry .safety .startingClip) ∧
    (clip.link.state = .up ∧ (entry .safety .startingClip).state = .startingClip ∧ clip.announce.startTimer = some 0) ∧
    (plays.announce.path = some (entry .safety .playing) ∧ plays.announce.durationTimer = some 0) ∧
    (timed (some 1) (some 1) plays).announce.durationTimer ≠ some 0 ∧
    (plays.announce.waiting = [] ∧ up.segment.live ≠ .requested) ∧
    ({ plays with segment := { up.segment with live := .requested } } : State).segment.live = .requested ∧
    fullQueue.announce.waiting = waits .service 300 :: fullQueue.announce.waiting.tail ∧
    (entry .safety .startingClip).ticket = some 42 ∧ (entry .safety .startingClip).ticket ≠ some 41 := by decide +kernel

/-- A ticket that runs and one that does not; a chime that plays, and a chime-only run without timers. -/
theorem witness_AnnouncementTimersEndEntry_phases :
    let s (state : EntryState) : State := onPath (entry .clearance state) up
    ticketRuns (s .playing) 42 ∧ ¬ ticketRuns (s .playing) 41 ∧
      (s .startingChime).announce.path = some (entry .clearance .startingChime) ∧
      (s .chimeOnly).announce.path = some (entry .clearance .chimeOnly) ∧ (s .chimeOnly).link.state = .up ∧
      (s .chimeOnly).announce.startTimer = none ∧ (s .chimeOnly).announce.durationTimer = none := by
  refine ⟨⟨_, rfl, .inr rfl, rfl⟩, ?_, rfl, rfl, rfl, rfl, rfl⟩
  rintro ⟨e, h, -, t⟩
  obtain rfl : entry .clearance .playing = e := Option.some.inj h
  exact absurd t (by decide)

theorem witness_LiveRequestsByState :
    headIs (req 6 [0, 15, 255]) [] (asks 6 [0, 15, 255] up) ∧ 15 < (16#8).toNat ∧ (15#8).toNat ≤ 15 ∧
    up.segment.live = .off ∧ ({ up with segment := { up.segment with live := .on } } : State).segment.live = .on ∧
    pathBusy up = false ∧ pathBusy (onPath (entry .stop .playing) up) = true ∧
    headIs (req 6 [1, 0, 0]) [] (asks 6 [1, 0, 0] up) := by
  unfold headIs; decide +kernel

/-- The path busy with an entry, and with a chime-only clearance; not busy with a chime-only run whose chime is over. -/
theorem witness_LiveRequestsByState_busy :
    let only (generator : Option Sequence) : State :=
      let s := onPath (entry .clearance .chimeOnly) up
      { s with mix := { s.mix with generator := generator } }
    (∀ state ∈ [EntryState.startingChime, .startingClip, .playing],
      pathBusy (onPath (entry .stop state) up) = true) ∧
    pathBusy (only (some ⟨.announcement none 7, [⟨440, 100⟩], 1600, 0⟩)) = true ∧
    pathBusy (only none) = false ∧ pathBusy (only (some ⟨.announcement (some 42) 7, [], 0, 0⟩)) = false := by
  decide +kernel

/-- A LIVE OFF with an event that falls together with it, in ON and in OFF, and an event without a LIVE OFF. -/
theorem witness_LiveRequestsByState_event :
    (∀ live ∈ [LiveState.on, .off], ∃ s : State, s.segment.live = live ∧ headIs (req 6 [1, 0, 0]) [] s) ∧
    segmentRow (fun first => .odometerEdge ⟨false, first⟩) ∧
    segmentRow (fun first => .inputGateClose 16777215 ⟨true, first⟩) ∧
    (∀ s : State, ∃ v, exec (.odometerEdge ⟨false, false⟩) s = .next v) ∧
    ∀ r rest high low, headIs r rest (asks 6 [0, 0, 0] up) → r.kind = 6#8 → r.params ≠ [1#8, high, low] := by
  refine ⟨fun live _ => ⟨asks 6 [1, 0, 0] { up with segment := { up.segment with live := live } }, rfl, rfl,
    Nat.zero_lt_succ 7⟩, ⟨false, 0, .inl rfl⟩, ⟨true, 16777215, .inr (.inr (.inl rfl))⟩, fun _ => ⟨_, rfl⟩, ?_⟩
  rintro r rest high low ⟨h, -⟩ - e
  obtain rfl : req 6 [0, 0, 0] = r := (List.cons.inj h).1
  exact absurd (congrArg (fun l => l.head?) e) (by simp [req])

/-- A frame start with a LIVE OFF at the head, in ON and in OFF, the report built before and after, and one without. -/
theorem witness_LiveRequestsByState_frameStart :
    let s : State := asks 6 [1, 0, 0] segmentEnding
    let off : State := { s with segment := { s.segment with live := .off } }
    let clocked (x : State) : State := { x with playout := { x.playout with frameTimer := 2 } }
    (∀ report, headIs (req 6 [1, 0, 0]) [] (reportWhen report (clocked s)) ∧
      headIs (req 6 [1, 0, 0]) [] (reportWhen report (clocked off)) ∧
      (reportWhen report (clocked up)).manage.requests = []) ∧ s.segment.live = .on ∧ off.segment.live = .off := by
  unfold headIs; decide +kernel

theorem witness_SceneForceSetsLayer :
    headIs (req 7 [15]) [] (asks 7 [15] up) ∧ 16 ≤ (16#8).toNat ∧ (254#8).toNat ≤ 254 ∧ (15#8).toNat ≤ 15 ∧
    (255#8).toNat = 255 ∧ up.lighting.force = none ∧ up.lighting.force ≠ some 15 := by
  unfold headIs; decide +kernel

theorem witness_LimitsTripAndClear :
    headIs (req 9 [7]) [] (asks 9 [7] up) ∧ 8 ≤ (8#8).toNat ∧ (254#8).toNat ≠ 255 ∧
    up.sense.limits[(7#8).toNat]? = some limitReset ∧ limitReset.tripped = false ∧
    (up.sense.limits.set 7 { limitReset with tripped := true })[(7#8).toNat]? = some { limitReset with tripped := true } ∧
    up.sense.limits.length = 8 ∧ limitReset.threshold ≤ 65535 := by
  unfold headIs; decide +kernel

/-- `up` with limit 7 `x`, and the selection that its limits give. -/
def limited7 (x : Limit) : State :=
  let limits := up.sense.limits.set 7 x
  { up with sense := { up.sense with limits := limits, selection := baseSelection limits } }

/-- Values that trip a limit, clear it, and do neither; actions of each kind; a selection that ALL releases. -/
theorem witness_LimitsTripAndClear_values :
    let x : Limit := { limitReset with inUse := true, threshold := 300, hysteresis := 60, action := .baseScene 15 }
    let y : Limit := { x with tripped := true }
    (limited7 x).sense.limits[7]? = some x ∧ (limited7 y).sense.limits[7]? = some y ∧
      (trips x 301 = true ∧ trips x 300 = false ∧ clears x 300 = false) ∧
      (trips y 240 = false ∧ clears y 240 = true ∧ clears y 241 = false) ∧
      ({ x with action := .announce 1023 .stop 7 } : Limit).action = .announce 1023 .stop 7 ∧
      (limited7 y).sense.selection = baseSelection (limited7 y).sense.limits ∧ (limited7 y).sense.selection = some 15 ∧
      (limited7 x).sense.selection = none := by decide +kernel

/-- A selection that a clear changes, one that it leaves, and one that a trip changes. -/
theorem witness_LimitsTripAndClear_selection :
    let x : Limit := { limitReset with inUse := true, threshold := 300, action := .baseScene 15 }
    let y : Limit := { x with tripped := true }
    baseSelection ((limited7 y).sense.limits.set 7 x) ≠ (limited7 y).sense.selection ∧
      baseSelection ((limited7 { y with action := .nothing }).sense.limits.set 7 { x with action := .nothing }) =
        (limited7 { y with action := .nothing }).sense.selection ∧
      baseSelection ((limited7 x).sense.limits.set 7 y) ≠ (limited7 x).sense.selection ∧
      (limited7 y).sense.selection = some 15 ∧ up.lighting.base ≠ some 15 := by decide +kernel

theorem witness_LampTimersStepAndFlip :
    let lamp (t : Transition) : Lamp :=
      { level := 0, setting := { unclaimedSetting with target := 600, period := 400 }, transition := t, phase := 0
        began := none }
    let s (t : Transition) : State := lampAt 7 0 600 t up
    (s (.fading 1000 2 0 0)).lighting.lamps[(7 : Fin 8).val]? = some (lamp (.fading 1000 2 0 0)) ∧ 0 + 1 < 2 ∧ 1 + 1 = 2 ∧
    (lamp (.fading 1000 2 1 0)).setting.target ≤ 1000 ∧
    (s (.flashOn 0)).lighting.lamps[(7 : Fin 8).val]? = some (lamp (.flashOn 0)) ∧
    (s (.flashOff 0)).lighting.lamps[(7 : Fin 8).val]? = some (lamp (.flashOff 0)) ∧
    (s (.fading 1000 2 1 1)).lighting.lamps[(7 : Fin 8).val]? = some (lamp (.fading 1000 2 1 1)) ∧
    (s (.flashOn 1)).lighting.lamps[(7 : Fin 8).val]? = some (lamp (.flashOn 1)) := by decide +kernel

theorem witness_LampTimersStepAndFlip_early :
    (∀ start k i, Transition.fading 1000 2 1 1 ≠ .fading start k i 0) ∧
      Transition.flashOn 1 ≠ .flashOn 0 ∧ Transition.flashOn 1 ≠ .flashOff 0 :=
  ⟨fun _ _ _ => by simp, by decide, by decide⟩

/-! ### The sense unit -/

theorem witness_SenseStartAndStop :
    headIs (req 8 [0, 1, 255]) [] (asks 8 [0, 1, 255] up) ∧ headIs (req 8 [1, 0, 0]) [] (asks 8 [1, 0, 0] up) ∧
    2 ≤ (2#8).toNat ∧ ScanMode.ofCode (1#8).toNat = some .continuous ∧ 255#8 ≠ 0#8 ∧
    (∀ x ∈ up.sense.channels, x.enabled = false) ∧
    (measuring 0 .refGate up).sense.channels[chanNumber .odo]? = some { channel 0 with enabled := true, gateMode := .refGate } ∧
    chanNumber .odo = 0 := by
  unfold headIs; decide +kernel

theorem witness_SenseStart_lowest :
    ∀ (i : Nat) (x : SenseRec), i < chanNumber .lux → (measuring 1 .refGate up).sense.channels[i]? = some x →
      x.enabled = false := by
  intro i x h e
  have first : i = 0 := by simpa [chanNumber] using h
  subst first
  have off : ((measuring 1 .refGate up).sense.channels[0]?).map SenseRec.enabled = some false := by decide +kernel
  rw [e] at off
  simpa using off

theorem witness_ScanEventsAct :
    let delayed (left : Nat) (s : State) : State := { s with sense := { s.sense with scan := .delay left } }
    (delayed 0 (measuring 1 .refGate up)).sense.scan = .delay 0 ∧ (delayed 1 up).sense.scan ≠ .delay 0 ∧
    (measuring 1 .refGate up).sense.channels[chanNumber .lux]? = some { channel 1 with enabled := true } ∧
    (∀ x ∈ (delayed 0 up).sense.channels, x.enabled = false) ∧ up.sense.scan = .idle ∧
    (converting (conversion .lux (channel 1) 16777215 5) up).sense.scan = .converting (conversion .lux (channel 1) 16777215 5) ∧
    ((channel 1).gateMode = .refGate ∧ (channel 0).gateMode = .inputGate) ∧
    (conversion .odo (channel 0) 4 5).gateOpen = true ∧
    ({ conversion .odo (channel 0) 0 0 with gateOpen := false } : Conversion).gateOpen = false ∧
    SenseChan.odo ≠ .lux ∧ (aged 0).sense.channels[chanNumber .odo]? = some (channel 0) ∧
    ∀ age ∈ [Config.ms 2000 - 1, Config.ms 2000],
      ((aged age).sense.results[chanNumber .odo]?).map ResultRec.age = some age ∧
      ((aged age).sense.results[chanNumber .odo]?).map (fun r => r.present && r.avgPresent && r.avgValid) = some true := by
  decide +kernel

theorem witness_ConversionsStoreResults :
    let k := conversion .odo (channel 0) 4 32000
    (converting k up).sense.scan = .converting k ∧ (converting k up).sense.channels[chanNumber k.channel]? = some (channel 0) ∧
    (k.settings.gateMode = .inputGate ∧ k.gateOpen = true) ∧
    (k.waited + 768 = k.settings.waitLimit ∧ k.settings.waitLimit < k.waited + 769 ∧ k.waited < k.settings.waitLimit) ∧
    (conversion .odo (channel 0) 4 32768).settings.waitLimit ≤ (conversion .odo (channel 0) 4 32768).waited ∧
    (conversion .lref (channel 2) 4 0).settings.gateMode = .refGate ∧
    (conversion .lref (channel 2) 4 32768).settings.gateLength ≤ (conversion .lref (channel 2) 4 32768).ticks ∧
    (conversion .lref (channel 2) 4 32767).ticks < (conversion .lref (channel 2) 4 32767).settings.gateLength ∧
    up.sense.scan = .idle := by decide +kernel

/-- A speed that trips the limit 7 and asks for STOP clip 9, with the PENDING STOP-APPROACH cue 0 on the same channel.
-/
def speedCue : State :=
  let s := limited7 { limitReset with inUse := true, threshold := 0, action := .announce 9 .stop 7 }
  let t := routeAt 1100 1 [{ cue 1 1000 with
    window := 500, state := .pending, clip := 4, mask := 7, conditionChannel := 0 }] s
  converting (conversion .odo (channel 0) 4 5) { t with route := { t.route with openCues := [0] } }

/-- The limit's request is the first of the two, or, by the operand, the last. -/
theorem witness_ConversionsStoreResults_order :
    speedCue.sense.scan = .converting (conversion .odo (channel 0) 4 5) ∧
    (run (.inputGateClose 0 ⟨false, false⟩) speedCue).announce.path.map Entry.clip = some 9 ∧
    (run (.inputGateClose 0 ⟨true, false⟩) speedCue).announce.path.map Entry.clip = some 4 ∧
    ((run (.inputGateClose 0 ⟨true, false⟩) speedCue).sense.limits[7]?).map Limit.tripped = some true := by
  decide +kernel

/-- After channel 0: channel 3 enabled above it, nothing above it in SINGLE and in CONTINUOUS, and nothing at all. -/
theorem witness_ConversionsStoreResults_scan :
    let alone := measuring 0 .refGate up
    ((measuring 3 .refGate up).sense.channels[chanNumber .nfwd]?).map SenseRec.enabled = some true ∧
      chanNumber .odo < chanNumber .nfwd ∧ (∀ x ∈ alone.sense.channels.drop 1, x.enabled = false) ∧
      (alone.sense.channels[chanNumber .odo]?).map SenseRec.enabled = some true ∧ alone.sense.mode = .single ∧
      ({ alone with sense := { alone.sense with mode := .continuous } } : State).sense.mode = .continuous ∧
      ∀ x ∈ up.sense.channels, x.enabled = false := by decide +kernel

theorem witness_ResultFormulas :
    refGateResult (conversion .lref (channel 2) 65536 0) up = clamped 65535 ∧
    inputGateResult (conversion .nfwd { channel 3 with gateMode := .inputGate } 16 0) 0 up = clamped 65535 := by
  decide +kernel

/-- LUX with reference records that hold counts, a count of 0, and nothing. -/
theorem witness_ResultFormulas_lux :
    let s (record : RefRecord) : State :=
      { up with sense := { up.sense with refGateRecord := record, inputGateRecord := record } }
    (conversion .lux (channel 1) 4200 0).channel = .lux ∧ (s (.counts 1 1)).sense.refGateRecord = .counts 1 1 ∧
      (s (.counts 1 1)).sense.inputGateRecord = .counts 1 1 ∧
      (∀ n u, (s (.counts 1 0)).sense.inputGateRecord = .counts n u → n = 0 ∨ u = 0) ∧
      (∀ n g, (s (.counts 0 1)).sense.refGateRecord = .counts n g → n = 0) ∧
      (∀ n g, up.sense.refGateRecord = .counts n g → n = 0) := by
  refine ⟨rfl, rfl, rfl, ?_, ?_, ?_⟩
  · intro n u h
    exact .inr (RefRecord.counts.inj h).2.symm
  · intro n g h
    exact (RefRecord.counts.inj h).1.symm
  · intro n g h
    cases h

theorem witness_AveragingBlocks :
    storeResult 2 (clamped 5) resultCleared = ((storeResult 2 (clamped 5) resultCleared).1, false) ∧
    storeResult 1 (clamped 5) resultCleared = ((storeResult 1 (clamped 5) resultCleared).1, true) := by decide +kernel

/-! ### The seat lines -/

theorem witness_PollRoundServesDueBoxes :
    up.lines.lines[(3 : Fin 4).val]? = some lineReset ∧ lineReset.boxes.length = 12 ∧ lineReset.state = .awake ∧
    lineReset.transaction = none ∧ lineReset.boxes[0]? = some boxReset ∧ interval boxReset.state ≤ boxReset.rounds + 1 ∧
    (∀ y ∈ List.replicate 12 { boxReset with rounds := 14 }, y.rounds + 1 < interval y.state) ∧
    12 ≤ ({ lineReset with roundNext := 12 } : Line).roundNext ∧
    ({ lineReset with state := .sleeping } : Line).state = .sleeping ∧ lineReset.roundNext < 12 ∧
    (lineReset.pairLow = false ∧ (wakeLine lineReset).roundNext = 0) ∧
    (let woken := lineAt (run (.wakePulse 3) (setLine 3 sleepLine up)) 3
     woken.pairLow = true ∧ woken.roundLeft = Config.ms 4 ∧ woken.state = .awake ∧ woken.transaction = none) ∧
    (12 ≤ ({ lineReset with roundNext := 12, roundLeft := 0 } : Line).roundNext ∧
      ({ lineReset with roundNext := 12, roundLeft := 0 } : Line).roundLeft = 0 ∧ lineReset.roundLeft ≠ 0 ∧
      lineReset.roundNext = 0) := by
  decide +kernel

theorem witness_FailedTransactionsCountOnce :
    let s := flying (withBox3 .status .active) (boxIn .active 8)
    let bad := characters [1, 2, 3, 4, 0]
    (s.lines.lines.length = 4 ∧ s.seats.seats.length = 96 ∧ ∀ x ∈ s.lines.lines, x.boxes.length = 12) ∧
    (lineAt s 0).transaction = some (withBox3 .status .active) ∧ (withBox3 .status .active).box < 12 ∧
    (withBox3 .status .active).kind ≠ .display ∧
    ({ withBox3 .display .active with low := true }).low = true ∧
    judgeAnswer (withBox3 .status .active) 4 bad = some .check ∧
    judgeAnswer (withBox3 .ident .absent) 6 [] = some .framing ∧
    judgeAnswer (withBox3 .ident .absent) 6
      (characters ([1, 2, 3, 4, 5, 6] ++ [lineCheck .full 3 .ident [1, 2, 3, 4, 5, 6]])) = none ∧
    seatCountOk [1, 2, 3, 4, 5, 6] = false := by decide +kernel

/-- `s` with the display of box 3 of line 0 pending. -/
def displayDue (s : State) : State := setBox 0 3 (fun x => { x with displayPending := true }) s

/-- A failed STATUS that the DISPLAY follows, one that makes the box SUSPECT, and one with a sleep pending. -/
theorem witness_FailedTransactionsCountOnce_turn :
    let s (count : Nat) := flying (withBox3 .status .active) (displayDue (boxIn .active count))
    let asleep := setLine 0 (fun x => { x with sleepPending := true }) (s 0)
    (stateAfterFailure .active 11 = .active ∧ min (7 + 4) 31 = 11 ∧ stateAfterFailure .active 12 ≠ .active ∧
      min (8 + 4) 31 = 12) ∧
    (boxAt (s 7) 0 3).displayPending = true ∧ (lineAt (s 7) 0).sleepPending = false ∧
    ((lineAt (run (.answerWindowExpiry 0) (s 7)) 0).transaction.map Transaction.kind) = some .display ∧
    ((lineAt (run (.answerWindowExpiry 0) (s 8)) 0).transaction.map Transaction.kind) ≠ some .display ∧
    (lineAt asleep 0).sleepPending = true ∧ (lineAt (run (.answerWindowExpiry 0) asleep) 0).state = .sleeping := by
  decide +kernel

theorem witness_StatusDeliversBothSides :
    let s := flying (withBox3 .status .active) buttons
    lineTablesSized s ∧ (lineAt s 0).transaction = some (withBox3 .status .active) ∧ (boxAt s 0 3).state = .active ∧
    goodAnswer (withBox3 .status .active) 4 buttonAnswer ∧
    (decodeStatus (buttonAnswer.map charByte)).sideA.jack = true ∧ (seatAt s (seatNumber 0 3 0)).fitted = true ∧
    (decodeStatus (buttonAnswer.map charByte)).stop = (boxAt s 0 3).lastStop ∧ (boxAt s 0 3).baselinePending = false ∧
    (decodeStatus [0, 0, 0, 15]).stop ≠ (boxAt s 0 3).lastStop := by
  unfold lineTablesSized goodAnswer; decide +kernel

/-- Side A's deltas mark the box, at an ACTIVE box that stays ACTIVE and whose line has no sleep pending; an answer of
counts that stand marks nothing. -/
theorem witness_StatusDeliversBothSides_mark :
    let s := flying (withBox3 .status .active) buttons
    let side := (decodeStatus (buttonAnswer.map charByte)).sideA
    sideMarks s.seats.map s.mix.params.defaultStep false side (seatAt s 6) ∧
      ¬ sideMarks s.seats.map s.mix.params.defaultStep false
          { side with language := 14, up := 3, down := 0 } (seatAt s 6) ∧
      (withBox3 .status .active).turnState = .active ∧ (lineAt s 0).sleepPending = false ∧
      (boxAt s 0 3).displayPending = false := by
  refine ⟨⟨by decide +kernel, 8, 10, by decide +kernel, by decide +kernel, .inr (.inl (by decide))⟩, ?_, by decide +kernel,
    by decide +kernel, by decide +kernel⟩
  rintro ⟨-, v0, v1, h0, h1, h⟩
  rw [show v0 = 8 from h0.trans (by decide +kernel)] at h h1
  rw [show v1 = 8 from h1.trans (by decide +kernel)] at h
  revert h
  decide +kernel

/-- The stop press of `backRun` finds its stop requested; without that, cue 3 is the first it may target; with cue 3
fired, none. A beep plays over a beep, and an announcement chime keeps it out. -/
theorem witness_StatusDeliversBothSides_press :
    let free : State := { backRun with route := { backRun.route with requested := none } }
    let gone : State := withCueState 3 .fired free
    (up.route.state = .stopped ∧ backRun.route.requested ≠ none) ∧
    (free.route.state ≠ .stopped ∧ free.route.requested = none ∧ stopTargets (cueAt free 3) ∧
      (∀ d ∈ free.route.cues.take 3, ¬ stopTargets d)) ∧ (∀ d ∈ gone.route.cues, ¬ stopTargets d) ∧
    ((requestChime 2 (some 42) 7 up).mix.generator.map Sequence.use) = some (.announcement (some 42) 7) ∧
    ((requestBeep 3 11 up).mix.generator.map Sequence.use) = some (.beep 3 11) ∧ up.mix.generator = none := by
  unfold stopTargets; decide +kernel

/-- An answer that marks the box: the DISPLAY follows at a box ACTIVE at its turn; at one ISOLATED at its turn it does
not, and the turn ends. -/
theorem witness_StatusDeliversBothSides_turn :
    let s := flying (withBox3 .status .active) buttons
    let t := run (.statusTransactionEnd 0 buttonAnswer) s
    let u := run (.statusTransactionEnd 0 buttonAnswer) (flying (withBox3 .status .isolated) buttons)
    ((lineAt t 0).transaction.map Transaction.kind) = some .display ∧ (boxAt t 0 3).displayPending = false ∧
      ((lineAt u 0).transaction.map Transaction.kind) ≠ some .display ∧ (boxAt u 0 3).displayPending = true ∧
      (boxAt u 0 3).rounds = 0 := by decide +kernel

theorem witness_LanguageDeltaStepsEnabled : languageEnabled (threeLanguages up).seats.map 5 = true := by decide +kernel

theorem witness_IdentActivatesBox :
    let s := flying (withBox3 .ident .absent) up
    let answer := characters ([1, 2, 2, 4, 5, 6] ++ [lineCheck .full 3 .ident [1, 2, 2, 4, 5, 6]])
    lineTablesSized s ∧ (lineAt s 0).transaction = some (withBox3 .ident .absent) ∧ (boxAt s 0 3).state = .absent ∧
    goodAnswer (withBox3 .ident .absent) 6 answer ∧ byteAt (answer.map charByte) 2 = 2 := by
  unfold lineTablesSized goodAnswer; decide +kernel

theorem witness_DisplayEndAndPairLow :
    let s := flying (withBox3 .display .active) (boxIn .active 5)
    lineTablesSized s ∧ s.lines.lines[(0 : Fin 4).val]? = some (lineAt s 0) ∧
    (lineAt s 0).transaction = some (withBox3 .display .active) ∧ (withBox3 .display .active).low = false ∧
    (lineAt s 0).state = .awake ∧
    (lineAt (setLine 0 (fun x => { x with state := .sleeping }) up) 0).state = .sleeping ∧ (lineAt s 1).transaction = none := by
  unfold lineTablesSized; decide +kernel

theorem witness_QuietTimerSleepsLine :
    let x : Line := { lineReset with quiet := some 0 }
    (setLine 2 (fun _ => x) up).lines.lines[(2 : Fin 4).val]? = some x ∧ x.state = .awake ∧ x.quiet = some 0 ∧
    (x.sleepEnable = true ∧ x.transaction = none ∧ ({ x with sleepEnable := false } : Line).sleepEnable = false) ∧
    up.route.state ≠ .running ∧ (routeAt 0 0 [] up).route.state = .running ∧
    (lineAt (flying (withBox3 .status .active) (quietAt 0 up)) 0).transaction ≠ none ∧
    (lineAt (flying (withBox3 .status .active) (quietAt 0 up)) 0).quiet = some 0 ∧
    (lineReset.quiet ≠ some 0 ∧ (sleepLine x).state = .sleeping) := by decide +kernel

/-! ### The seat mix, encodings, invariants -/

theorem witness_SeatSamplesAreRoundedSums :
    (seatReset 5).jack = false ∧ ({ seatReset 5 with fitted := false } : Seat).fitted = false ∧
    (lineAt (setLine 0 (fun x => { x with state := .sleeping }) up) (5 / 24)).state = .sleeping ∧
    (seatSamples up [] silence 5 (seatReset 5)).1[31]? = some 0 := by decide +kernel

/-- A seat of zone 2 at step 15 with language 11. -/
def listener : Seat := { seatReset 95 with zone := 2, volume := 15, language := some 11, jack := true }

/-- A STOP with mask {0, 1, 2} that plays, live ON for language 11, and the chime generator in `use`. -/
def onAir (use : ChimeUse) : State :=
  let s := onPath (entry .stop .playing) up
  { s with
    segment := { s.segment with live := .on, liveMask := 0x800 }
    mix := { s.mix with generator := some (sequenceOf use (chimeRecord s 2)) } }

theorem witness_SeatSamplesAreRoundedSums_terms :
    let s := onAir (.announcement (some 42) 7)
    (listener.jack = true ∧ listener.fitted = true ∧ (lineAt s (95 / 24)).state = .awake) ∧
      (s.mix.zones[listener.zone]? = some (zoneReset none) ∧ s.mix.curve[listener.volume]? = some 12) ∧
      (s.announce.path = some (entry .stop .playing) ∧ (entry .stop .playing).mask.getLsbD listener.zone = true ∧
        (entry .stop .playing).mask.getLsbD 3 = false) ∧
      (s.mix.classes[AnnClass.stop.code]?).map ClassRec.trim = some 4 ∧
      (s.segment.live = .on ∧ s.segment.liveMask.getLsbD 11 = true ∧ s.segment.liveMask.getLsbD 10 = false) ∧
      s.seats.map[10]?.isSome ∧ (s.mix.generator.map Sequence.use) = some (.announcement (some 42) 7) ∧
      ((onAir (.beep 3 11)).mix.generator.map Sequence.use) = some (.beep 3 11) ∧ 95 % 24 / 2 = 11 ∧
      up.mix.generator = none := by decide +kernel

theorem witness_SeatSamplesAreRoundedSums_frame :
    let frame : List KeptBlock := [⟨30, [1], none⟩, ⟨5, [2], none⟩]
    frame = [⟨30, [1], none⟩] ++ ⟨5, [2], none⟩ :: [] ∧ (∀ c ∈ [(⟨30, [1], none⟩ : KeptBlock)], c.tag ≠ 5) ∧
      (∀ b ∈ frame, b.tag ≠ 31) ∧ up.seats.seats.length = 96 ∧ (setLine 3 sleepLine up).lines.lines[3]? = some (sleepLine lineReset) ∧
      up.lines.lines[3]? = some lineReset ∧ up.seats.seats[24 * 3 + 23]? = some (seatReset 95) ∧
      up.mix.zones[3]? = some (zoneReset none) ∧ (zoneReset none).clip = false ∧ (zoneReset none).clipNotice = true := by
  decide +kernel

/-- Every position of 32 has a sum. -/
theorem witness_SeatSamplesAreRoundedSums_sums :
    (mixSamples ⟨4096, 0, 0⟩ silence silence silence)[31]? = some 0 ∧ silence[31]? = some 0 := by decide +kernel

theorem witness_ZonesSlewAndDuck :
    up.mix.zones[1]? = some (zoneReset (some .naft)) ∧
    pathCovers (onPath (entry .safety .playing) up) 1 = true ∧ pathCovers up 1 = false ∧
    24 + 1 = up.mix.params.noiseSlew := by decide +kernel

/-- A chime record, and an announcement chime that the controller stops. -/
theorem witness_ZonesSlewAndDuck_stop :
    (up.mix.chimes[3]?).isSome ∧
      ((requestChime 3 none 15 up).mix.generator.map Sequence.use) = some (.announcement none 15) ∧
      ((requestBeep 0 0 up).mix.generator.map Sequence.use) = some (.beep 0 0) ∧ (retireChime chimeEnding).2 = true := by
  decide +kernel

/-- The bands after reset at a threshold, below it, and below all. -/
theorem witness_ZonesSlewAndDuck_bands :
    bandsReset[4]? = some ⟨2500, 6⟩ ∧ (∀ c ∈ bandsReset.drop 5, 2500 < c.threshold) ∧
      (∀ b ∈ bandsReset, 499 < b.threshold) := by decide +kernel

/-- `up` with one held write of the mix engine. -/
def holdsMix (w : HeldMixWrite) : State := { up with mix := { up.mix with held := [w] } }

theorem witness_ZonesSlewAndDuck_targets :
    let zone := HeldMixWrite.zone 3 [⟨some .naft, true⟩]
    (holdsMix zone).mix.zones[3]? = some (zoneReset none) ∧ (holdsMix zone).mix.held = [.zone 3 [⟨some .naft, true⟩]] ∧
      recordFor 3 [(⟨some .naft, true⟩ : ZoneWrite)] 3 = some ⟨some .naft, true⟩ ∧
      recordFor 3 [(⟨some .naft, true⟩ : ZoneWrite)] 2 = none ∧
      (holdsMix (.noiseBands 7 [⟨65535, 24⟩])).mix.held = [.noiseBands 7 [⟨65535, 24⟩]] ∧ up.mix.held = [] := by
  decide +kernel

/-- Two ZONE writes for zone 0, of which the second gives it back the source it had, among others: it is called for
twice, and zone 3, whose one record keeps its source, is not. -/
theorem witness_ZonesSlewAndDuck_mixed :
    let held : List HeldMixWrite := [.zone 0 [⟨some .naft, true⟩], .mix mixParamsReset,
      .zone 0 [⟨(zoneReset none).source, true⟩], .zone 3 [⟨none, false⟩]]
    sourceAfter held 0 none = none ∧ sourceAfter (held.take 1) 0 none = some .naft ∧ sourceAfter held 3 none = none ∧
    targetCalled held 0 none ∧ ¬ targetCalled held 3 none := by
  refine ⟨rfl, rfl, rfl, .inr ⟨[], _, 0, _, ⟨some .naft, true⟩, rfl, rfl, by decide⟩, ?_⟩
  rintro (⟨first, records, h⟩ | ⟨before, after, first, records, w, h, hr, hw⟩)
  · simp at h
  · rcases before with _ | ⟨a, _ | ⟨b, _ | ⟨c, _ | ⟨d, before⟩⟩⟩⟩ <;> simp at h
    · obtain ⟨⟨rfl, rfl⟩, -⟩ := h
      exact Option.some_ne_none w hr.symm
    · obtain ⟨-, -, ⟨rfl, rfl⟩, -⟩ := h
      exact Option.some_ne_none w hr.symm
    · obtain ⟨rfl, rfl, rfl, ⟨rfl, rfl⟩, -⟩ := h
      exact hw (by obtain rfl := Option.some.inj hr; rfl)

/-- A tone on its last 32 samples, one with 33, a rest, and the end of a sequence. -/
theorem witness_ZonesSlewAndDuck_tones :
    let s (left : Nat) (tones : List Tone) : State :=
      { up with mix := { up.mix with generator := some ⟨.announcement none 7, tones, left, 0⟩ } }
    (s 32 [⟨4000, 2⟩, ⟨0, 10⟩]).mix.generator = some ⟨.announcement none 7, ⟨4000, 2⟩ :: [⟨0, 10⟩], 32, 0⟩ ∧
      (s 33 [⟨0, 10⟩]).mix.generator = some ⟨.announcement none 7, ⟨0, 10⟩ :: [], 33, 0⟩ ∧
      (s 0 []).mix.generator = some ⟨.announcement none 7, [], 0, 0⟩ ∧ up.mix.generator = none := by decide +kernel

/-- Records that the decoders take. -/
theorem witness_TableRecordsRoundTrip :
    (decodeLang [0, 29, 65, 90, 0, 1]).isSome ∧ (decodeMix [96, 1, 96, 15, 250]).isSome ∧ (decodeBand [255, 255, 24]).isSome ∧
    (decodeCurve [0xA0]).isSome ∧ (decodeClass [0xA0, 0xD0, 255, 24, 120, 0]).isSome ∧
    (decodeChime ([4] ++ [0x0F, 0xA0, 0x03, 0xE8] ++ [0, 100, 0, 10] ++ [0, 0, 0, 10] ++ [0, 0, 0, 10])).isSome ∧
    (decodeSense 0 ((senseParams 0 0).drop 3)).isSome ∧ (decodeScene ((sceneParams 3 232).drop 3)).isSome ∧
    (decodeLighting [15, 255, 3, 232, 3]).isSome ∧ (decodeLimit ((limitParams 0).drop 3)).isSome ∧
    (decodeCue ((cueParams 1).drop 3)).isSome := by decide +kernel

/-- A SEAT, a ZONE and a SEAT-LINE record that the decoders take, and entries that hold their fields. -/
theorem witness_TableRecordsRoundTrip_fields :
    decodeSeat [3, 255, 15] = some ⟨3, none, 15⟩ ∧
      ({ up with seats := { up.seats with seats := up.seats.seats.set 95 { seatReset 95 with
          zone := 3, language := none, volume := 15 } } } : State).seats.seats[95]? =
        some { seatReset 95 with zone := 3, language := none, volume := 15 } ∧
    decodeZone [1, 0] = some ⟨some .naft, true⟩ ∧
      up.mix.zones[1]? = some { zoneReset none with source := some .naft, clipNotice := true } ∧
    decodeSeatLine [1, 0] = some ⟨.full, true⟩ ∧
      ((up.lines.lines[3]?).map fun x => (x.mode, x.sleepEnable)) = some (.full, true) := by
  decide +kernel

/-- A lamp in a fade that began at the present moment. -/
def fadingLamp : Lamp :=
  { level := 1000, setting := { unclaimedSetting with target := 1000 }, transition := .fading 0 2 1 0, phase := 0
    began := some { level := 1000, setting := unclaimedSetting, transition := .steady, phase := 0 } }

/-- A STOP on the path with seven entries behind it, the next to arrive being the 307th, a zone at full duck, three
languages, and a fading lamp. -/
def busy : State :=
  let s := threeLanguages fullQueue
  { s with
    announce := { s.announce with nextArrival := 307 }
    seats := { s.seats with seats := s.seats.seats.map fun x => { x with language := some 2, volume := 15 } }
    mix := { s.mix with zones := s.mix.zones.map fun z => { z with duck := -40 } }
    lighting := { s.lighting with lamps := [fadingLamp] }
    pending := [.fadeStep 0] }

theorem witness_StepKeepsBounds : (∃ t, step busy = .next t) ∧ bounded busy ∧ waitingDistinct busy ∧ waitingRanked busy :=
  ⟨⟨_, rfl⟩, by unfold bounded; decide +kernel, by unfold waitingDistinct; decide +kernel,
    by unfold waitingRanked ranksBefore; decide +kernel⟩

/-- The open cues 3 and 4, of which 3 is the arrival cue of the requested stop. -/
theorem witness_StepKeepsBounds_route :
    (∃ t, step backRun = .next t) ∧ openCuesSound backRun ∧ requestedSound backRun := by
  refine ⟨⟨_, rfl⟩, by unfold openCuesSound; decide +kernel, by decide +kernel, fun q h => ?_⟩
  obtain rfl : { stop := 8, cue := 3 } = q := Option.some.inj h
  unfold stopTargets; decide +kernel

theorem witness_StepKeepsMixRanges : ducksInRange busy ∧ samplesInRange busy :=
  ⟨by unfold ducksInRange; decide +kernel, by unfold samplesInRange; decide +kernel⟩

theorem witness_StepKeepsLampLevels : lightingInRange busy := by
  refine ⟨by decide +kernel, by decide +kernel, ?_⟩
  intro x h
  obtain rfl : x = fadingLamp := by simpa [busy] using h
  exact ⟨by decide, by decide, ⟨by decide, by decide⟩, fun b e => by
    obtain rfl := Option.some.inj e
    exact ⟨by decide, by decide, trivial⟩⟩

theorem witness_StepKeepsSeatsOnOffer : seatsOnOffer busy := by
  refine ⟨by decide +kernel, ?_, ?_, by decide +kernel, ?_⟩
  · intro x h
    have all : ∀ y ∈ busy.seats.seats, y.volume ≤ 15 ∧ y.language = some 2 := by decide +kernel
    have offered : languageEnabled busy.seats.map 2 = true := by decide +kernel
    unfold seatOnOffer
    rw [(all x h).2]
    exact ⟨(all x h).1, offered⟩
  · intro w h
    rw [show busy.seats.held = [] from rfl] at h
    cases h
  · intro w h
    rw [show busy.mix.held = [] from rfl] at h
    cases h

end Sys2Proof.Tests
end

/-! The intake of an AUDIO frame (R4 to R6): the sequence test, and what an accepted frame does to the playout
buffer. -/

namespace Sys2Proof.Machine

variable {f : AudioFrame} {s : State}

theorem isNewer_iff {last : Option (BitVec 16)} {new : BitVec 16} :
    isNewer last new = true ↔
      last = none ∨ ∃ l, last = some l ∧ 1 ≤ (new - l).toNat ∧ (new - l).toNat ≤ 32767 := by
  cases last with
  | none => simp [isNewer]
  | some l => simp [isNewer]

theorem reportKept_pathFrame (kept : List KeptBlock) (s : State) : PathFrame s (reportKept kept s) := by
  induction kept generalizing s with
  | nil => exact .refl s
  | cons k ks ih =>
    unfold reportKept
    split
    · next m _ => exact (blockKept_pathFrame s m.ticket).trans (ih _)
    · exact ih s

/-- The queue entry of an accepted frame: its kept blocks are those the state at its arrival keeps (R3). -/
def queuedFrame (f : AudioFrame) (s : State) : QueuedFrame :=
  { sequence := f.sequence, segment := f.segment, kept := keepBlocks s f.blocks [] }

/-- The announcement controller hears of the kept blocks after the frame is queued, and it leaves the playout buffer
alone. -/
theorem takeAudio_playout_of_newer (h : isNewer s.playout.lastSequence f.sequence = true) :
    (takeAudio f s).playout = { s.playout with
      queue := enqueue (queuedFrame f s) s.playout.queue
      state := if s.playout.state = .filling ∧ (enqueue (queuedFrame f s) s.playout.queue).length = 2
        then .playing else s.playout.state
      lastSequence := some f.sequence } := by
  unfold takeAudio
  rw [if_pos h]
  exact (reportKept_pathFrame _ _).playout

theorem takeAudio_of_not_newer (h : ¬ isNewer s.playout.lastSequence f.sequence = true) : takeAudio f s = s :=
  if_neg h

end Sys2Proof.Machine

namespace Sys2Proof.Proofs

open Sys2Proof Sys2Proof.Machine

/-- Settles O11: the statement's test is `isNewer`, and an accepted frame changes the playout buffer as
`takeAudio_playout_of_newer` says. -/
theorem sequenceTestAcceptsNewerOnly : Obligations.SequenceTestAcceptsNewerOnly := by
  intro f s
  constructor
  · intro newer
    rw [takeAudio_playout_of_newer (isNewer_iff.2 newer)]
    refine ⟨rfl, rfl, rfl, rfl, ?playing, ?filling⟩
    case playing =>
      intro playing
      exact (if_neg (by simp [playing])).trans playing
    case filling =>
      intro filling
      exact ⟨fun two => if_pos ⟨filling, two⟩, fun other => (if_neg fun ⟨_, two⟩ => other two).trans filling⟩
  · intro l accepted duplicateOrLate
    refine takeAudio_of_not_newer fun newer => ?_
    rcases isNewer_iff.1 newer with nothing | ⟨m, accepted', atLeast, atMost⟩
    · simp [accepted] at nothing
    · obtain rfl : l = m := Option.some.inj (accepted.symm.trans accepted')
      omega

end Sys2Proof.Proofs

namespace Sys2Proof.Machine

/-- `f` is 4096 * 10 ^ ((n - 96) / 40) rounded half up, in 40th powers: `2 * f - 1` is at most, and `2 * f + 1` is above,
twice that number. -/
def IsRoundedGain (n f : Nat) : Prop :=
  1 ≤ f ∧ (2 * f - 1) ^ 40 * 10 ^ 96 ≤ 8192 ^ 40 * 10 ^ n ∧ 8192 ^ 40 * 10 ^ n < (2 * f + 1) ^ 40 * 10 ^ 96

/-- Inside the table's range a code's factor is the table's entry (R35). -/
theorem factor_code_eq_entry {n : Nat} (h : n ≤ 120) : factor ((n : Int) - 96) = gainTable.getD n 0 := by
  have notBelow : ¬ ((n : Int) - 96 < -96) := by omega
  have index : (min ((n : Int) - 96) 24 + 96).toNat = n := by omega
  rw [factor, if_neg notBelow, index]

/-- A code above 24 is taken as 24 (R35). -/
theorem factor_of_above {g : Int} (h : 24 < g) : factor g = factor 24 := by
  have notBelow : ¬ g < -96 := by omega
  rw [factor, if_neg notBelow, min_eq_right h.le]
  rfl

/-- A code below -96 has factor 0 (R35). -/
theorem factor_of_below {g : Int} (h : g < -96) : factor g = 0 := if_pos h

/-- Every entry of R35's table is the rounded power. The table is data, so its 121 entries are compared one by one. -/
theorem gainTable_entry_isRoundedGain : ∀ n < 121, IsRoundedGain n (gainTable.getD n 0).toNat := by
  unfold IsRoundedGain
  decide

end Sys2Proof.Machine

namespace Sys2Proof.Proofs

open Sys2Proof Sys2Proof.Machine

/-- Settles O52: inside the range the factor is the table's entry, which is the rounded power; outside it `factor`
clamps. -/
theorem gainFactorsAreRounded : Obligations.GainFactorsAreRounded := by
  refine ⟨fun n inRange => ?rounded, fun _ => factor_of_above, fun _ => factor_of_below⟩
  case rounded =>
    have rounded := gainTable_entry_isRoundedGain n (by omega)
    have positive : 1 ≤ (gainTable.getD n 0).toNat := rounded.1
    refine ⟨(gainTable.getD n 0).toNat, ?_, rounded⟩
    rw [factor_code_eq_entry inRange, Int.toNat_of_nonneg (by omega)]

end Sys2Proof.Proofs

/-! The formulas of the results (R90 to R92): one equation per channel and gate mode, and for LUX one per usable and
one per unusable reference record. -/

namespace Sys2Proof.Machine

variable {k : Conversion} {s : State} {t : Nat}

theorem refGateResult_of_odo (odo : k.channel = .odo) :
    refGateResult k s = clamped (k.edges * k.settings.pulse * 32768 / (100 * k.settings.gateLength)) := by
  simp only [refGateResult, odo, Config.tickRate]

theorem refGateResult_of_noise (noise : k.channel = .nfwd ∨ k.channel = .naft) :
    refGateResult k s = clamped (k.edges * 32768 / k.settings.gateLength) := by
  rcases noise with fwd | aft
  · simp only [refGateResult, fwd, Config.tickRate]
  · simp only [refGateResult, aft, Config.tickRate]

theorem refGateResult_of_lref (lref : k.channel = .lref) : refGateResult k s = clamped k.edges := by
  simp only [refGateResult, lref]

theorem refGateResult_of_lux_paired {n g : Nat} (lux : k.channel = .lux) (record : s.sense.refGateRecord = .counts n g)
    (usable : n ≠ 0) : refGateResult k s = clamped (1000 * k.edges * g / (n * k.settings.gateLength)) := by
  simp only [refGateResult, lux, record, if_neg usable]

theorem refGateResult_of_lux_unpaired (lux : k.channel = .lux)
    (unusable : ∀ n g, s.sense.refGateRecord = .counts n g → n = 0) : refGateResult k s = unpaired := by
  cases record : s.sense.refGateRecord with
  | empty => simp only [refGateResult, lux, record]
  | zero => simp only [refGateResult, lux, record]
  | counts n g => simp only [refGateResult, lux, record, if_pos (unusable n g record)]

theorem inputGateResult_of_odo (odo : k.channel = .odo) :
    inputGateResult k t s = clamped (k.settings.edgeCount * k.settings.pulse * 32768 / (100 * max t 1)) := by
  simp only [inputGateResult, odo, Config.tickRate]

/-- Unlike in REF-GATE, where LREF gives its count, the three frequency channels share one formula (R91). -/
theorem inputGateResult_of_frequency (frequency : k.channel = .nfwd ∨ k.channel = .naft ∨ k.channel = .lref) :
    inputGateResult k t s = clamped (k.settings.edgeCount * 32768 / max t 1) := by
  rcases frequency with fwd | aft | lref
  · simp only [inputGateResult, fwd, Config.tickRate]
  · simp only [inputGateResult, aft, Config.tickRate]
  · simp only [inputGateResult, lref, Config.tickRate]

theorem inputGateResult_of_lux_paired {n u : Nat} (lux : k.channel = .lux)
    (record : s.sense.inputGateRecord = .counts n u) (count : n ≠ 0) (ticks : u ≠ 0) :
    inputGateResult k t s = clamped (1000 * k.settings.edgeCount * u / (max t 1 * n)) := by
  simp only [inputGateResult, lux, record, if_neg (not_or.2 ⟨count, ticks⟩)]

theorem inputGateResult_of_lux_unpaired (lux : k.channel = .lux)
    (unusable : ∀ n u, s.sense.inputGateRecord = .counts n u → n = 0 ∨ u = 0) : inputGateResult k t s = unpaired := by
  cases record : s.sense.inputGateRecord with
  | empty => simp only [inputGateResult, lux, record]
  | zero => simp only [inputGateResult, lux, record]
  | counts n u => simp only [inputGateResult, lux, record, if_pos (unusable n u record)]

/-- Only a LUX result can be anything but a clamped number: it alone needs a reference. -/
theorem results_clamped_of_ne_lux (notLux : k.channel ≠ .lux) :
    (∃ v, refGateResult k s = clamped v) ∧ ∃ v, inputGateResult k t s = clamped v := by
  cases channel : k.channel with
  | odo => exact ⟨⟨_, refGateResult_of_odo channel⟩, _, inputGateResult_of_odo channel⟩
  | lux => exact absurd channel notLux
  | lref => exact ⟨⟨_, refGateResult_of_lref channel⟩, _, inputGateResult_of_frequency (.inr (.inr channel))⟩
  | nfwd => exact ⟨⟨_, refGateResult_of_noise (.inl channel)⟩, _, inputGateResult_of_frequency (.inl channel)⟩
  | naft =>
    exact ⟨⟨_, refGateResult_of_noise (.inr channel)⟩, _, inputGateResult_of_frequency (.inr (.inl channel))⟩

end Sys2Proof.Machine

namespace Sys2Proof.Proofs

open Sys2Proof Sys2Proof.Machine

/-- Settles O42, channel by channel; a LUX result by whether the reference record of its gate mode is usable. -/
theorem resultFormulas : Obligations.ResultFormulas := by
  rintro s k t _ _ rfl rfl
  refine ⟨fun notLux => ?marks, fun odo => ?odo, fun noise => ?noise, fun lref => ?lref, fun lux => ?lux⟩
  case marks =>
    obtain ⟨⟨v, ref⟩, w, input⟩ := results_clamped_of_ne_lux (s := s) (t := t) notLux
    rw [ref, input]
    exact ⟨rfl, rfl, rfl, rfl, rfl, rfl⟩
  case odo =>
    rw [refGateResult_of_odo odo, inputGateResult_of_odo odo]
    exact ⟨rfl, rfl⟩
  case noise =>
    rw [refGateResult_of_noise noise, inputGateResult_of_frequency (noise.imp_right .inl)]
    exact ⟨rfl, rfl⟩
  case lref =>
    rw [refGateResult_of_lref lref, inputGateResult_of_frequency (.inr (.inr lref))]
    exact ⟨rfl, rfl⟩
  case lux =>
    exact ⟨fun _ _ record usable => refGateResult_of_lux_paired lux record usable,
      fun unusable => refGateResult_of_lux_unpaired lux unusable,
      fun _ _ record count ticks => inputGateResult_of_lux_paired lux record count ticks,
      fun unusable => inputGateResult_of_lux_unpaired lux unusable⟩

end Sys2Proof.Proofs

/-! POSITION-FIX (R118, R119): what the row answers at each of its checks, and the fix by where its metre lies. -/

namespace Sys2Proof.Machine

variable {s : State} {r : Request} {rest : List Request} {m : Nat} {c : Cue}

/-! ### The checks (R118) -/

theorem exec_positionFix_head (head : headIs r rest s) (kind : r.kind = 3#8) :
    exec .positionFix s = .next (addReply
      { tag := r.tag, kind := r.kind, code := (fixRequest r (setRequests rest s)).code
        data := (fixRequest r (setRequests rest s)).data } (fixRequest r (setRequests rest s)).state) :=
  congrArg Host.Outcome.next (executeHead_head head (by simp [isKind, kindOf, kind]))

theorem fixRequest_of_outside (outside : 1048575 < threeAt r.params 0) : fixRequest r s = refuse .badField s :=
  if_pos (.inr outside)

theorem fixRequest_of_stopped (length : r.params.length = 3) (inside : threeAt r.params 0 ≤ 1048575)
    (stopped : s.route.state = .stopped) : fixRequest r s = refuse .routeState s := by
  have passes : ¬ (r.params.length ≠ 3 ∨ 1048575 < threeAt r.params 0) := by omega
  rw [fixRequest, if_neg passes, if_pos stopped]

theorem fixRequest_of_not_stopped (length : r.params.length = 3) (inside : threeAt r.params 0 ≤ 1048575)
    (moving : s.route.state ≠ .stopped) : fixRequest r s = done (fixPosition (threeAt r.params 0) s) := by
  have passes : ¬ (r.params.length ≠ 3 ∨ 1048575 < threeAt r.params 0) := by omega
  rw [fixRequest, if_neg passes, if_neg moving]

/-- A fix that passes its checks is made once the request has left the queue, and answered DONE (R118, R168). -/
theorem exec_positionFix_of_not_stopped (head : headIs r rest s) (kind : r.kind = 3#8) (length : r.params.length = 3)
    (inside : threeAt r.params 0 ≤ 1048575) (moving : s.route.state ≠ .stopped) :
    exec .positionFix s = .next (addReply { tag := r.tag, kind := r.kind, code := .done, data := [] }
      (fixPosition (threeAt r.params 0) (setRequests rest s))) := by
  rw [exec_positionFix_head head kind, fixRequest_of_not_stopped (s := setRequests rest s) length inside moving]
  rfl

/-! ### The move (R119) -/

theorem fixPosition_of_same (same : m = position s) : fixPosition m s = setDistance (metres m) s := by
  rw [fixPosition, if_neg (by omega), if_pos same]

theorem fixPosition_of_ahead_running (ahead : position s < m) (running : s.route.state = .running) :
    fixPosition m s = positionStep (setDistance (metres m) s) := by
  rw [fixPosition, if_neg (by omega), if_neg (by omega), if_pos running]

theorem fixPosition_of_ahead_held (ahead : position s < m) (held : s.route.state = .held) :
    fixPosition m s = setDistance (metres m) s := by
  rw [fixPosition, if_neg (by omega), if_neg (by omega), if_neg (held.trans_ne (by decide))]

theorem fixPosition_of_behind (behind : m < position s) :
    fixPosition m s = backward m (setDistance (metres m) s) := if_pos behind

theorem rearmed_iff : rearmed m c = true ↔ m < c.trigger ∧ (c.state = .pending ∨ c.state = .deferred ∨
    (c.repeatable = 0 ∧ (c.state = .fired ∨ c.state = .skipped))) := by
  cases state : c.state <;> simp [rearmed, isYes, state]

theorem backward_eq : backward m s = { s with route := { s.route with
    openCues := s.route.openCues.filter fun i => decide ((cueAt s i).trigger ≤ m)
    cues := s.route.cues.map fun c =>
      if m < c.trigger ∧ (c.state = .pending ∨ c.state = .deferred ∨
          (c.repeatable = 0 ∧ (c.state = .fired ∨ c.state = .skipped))) then { c with state := .armed } else c
    cursor :=
      if (findFrom (fun c : Cue => c.inUse && decide (m < c.trigger)) 0 s.route.cues).getD 256 < s.route.cursor
      then (findFrom (fun c : Cue => c.inUse && decide (m < c.trigger)) 0 s.route.cues).getD 256
      else s.route.cursor } } := by
  have stays (i : Nat) : (!decide (m < (cueAt s i).trigger)) = decide ((cueAt s i).trigger ≤ m) := by
    simp only [← decide_not, Nat.not_lt]
  have rearms (c : Cue) := if_congr (rearmed_iff (m := m) (c := c)) (x := { c with state := .armed }) rfl (Eq.refl c)
  rw [backward, funext stays, funext rearms]
  rfl

end Sys2Proof.Machine

namespace Sys2Proof.Proofs

open Sys2Proof Sys2Proof.Machine

/-- Settles O28: the checks of the request, and then the fix by where the metre lies from the position. -/
theorem positionFixMovesRoute : Obligations.PositionFixMovesRoute := by
  rintro s r rest m head kind length rfl
  refine ⟨fun outside => ?badField, fun inside stopped => ?routeState, fun inside moving still => ?still,
    fun inside ahead running => ?step, fun target behind inside moving atTarget => ?backward⟩
  case badField => rw [exec_positionFix_head head kind, fixRequest_of_outside outside, addReply_refuse]
  case routeState =>
    rw [exec_positionFix_head head kind, fixRequest_of_stopped (s := setRequests rest s) length inside stopped,
      addReply_refuse]
  case still =>
    have moved : fixPosition (threeAt r.params 0) (setRequests rest s) =
        setDistance (metres (threeAt r.params 0)) (setRequests rest s) :=
      still.elim (fun same => fixPosition_of_same same) fun ⟨ahead, held⟩ => fixPosition_of_ahead_held ahead held
    rw [exec_positionFix_of_not_stopped head kind length inside moving, moved]
    rfl
  case step =>
    have moving : s.route.state ≠ .stopped := running.trans_ne (by decide)
    rw [exec_positionFix_of_not_stopped head kind length inside moving,
      fixPosition_of_ahead_running (s := setRequests rest s) ahead running]
    rfl
  case backward =>
    rw [exec_positionFix_of_not_stopped head kind length inside moving,
      fixPosition_of_behind (s := setRequests rest s) behind, backward_eq, atTarget]
    rfl

end Sys2Proof.Proofs

/-! HOLD, RESUME and STOP of a route, the serve test and the retry (R106, R107, R115, R126). -/

namespace Sys2Proof.Machine

variable {s : State} {r : Request} {rest : List Request} {c : Cue} {i : Nat}

/-! ### The ROUTE rows -/

/-- A ROUTE row's own action is executed on the request that names it, which its kind takes (R168, R169). -/
theorem executeHead_routeAction {action : Byte} {act : State → Executed} (head : headIs r rest s) (kind : r.kind = 2#8)
    (params : r.params = [action]) (known : action.toNat ≤ 3) :
    executeHead (isAction 2 1 3 action.toNat) (takeAction 1 3 act) s =
      addReply { tag := r.tag, kind := r.kind, code := (act (setRequests rest s)).code
                 data := (act (setRequests rest s)).data } (act (setRequests rest s)).state := by
  have accepted : isAction 2 1 3 action.toNat r = true := by simp [isAction, kindOf, paramAt, byteAt, kind, params]
  have taken : badAction 1 3 r = false := by simpa [badAction, paramAt, byteAt, params] using known
  rw [executeHead_head head accepted]
  simp only [takeAction, taken, Bool.false_eq_true, if_false]

/-- A HOLD is executed in the RUNNING state and refused in any other (R106). -/
theorem holdRoute_of_running (running : s.route.state = .running) :
    holdRoute s = done { s with route := { s.route with state := .held } } := if_pos running

theorem holdRoute_of_not_running (other : s.route.state ≠ .running) : holdRoute s = refuse .routeState s :=
  if_neg other

/-- A RESUME is executed in the HELD state and refused in any other (R106). -/
theorem resume_of_held (held : s.route.state = .held) : resume s = done (resumeRoute s) := if_pos held

theorem resume_of_not_held (other : s.route.state ≠ .held) : resume s = refuse .routeState s := if_neg other

/-! ### The wake of a line (R74, R77) -/

theorem routeWake_of_sleeping {x : Line} (sleeping : x.state = .sleeping) : routeWake x = { x with
    state := .awake, sleepPending := false, quiet := some (Config.ms 60000), roundNext := 0
    roundLeft := Config.ms 4, transaction := none, pairLow := false } := by
  rw [routeWake, sleeping]
  rfl

theorem routeWake_of_awake {x : Line} (awake : x.state = .awake) :
    routeWake x = { x with sleepPending := false, quiet := some (Config.ms 60000) } := by
  rw [routeWake, awake]
  rfl

/-! ### The serve test and the retry (R115, R126) -/

theorem canServe_iff : canServe c s = true ↔ serves c s := by
  simp [canServe, serves, isYes, and_assoc]

theorem servable_iff : ((cueAt s i).state = .deferred && canServe (cueAt s i) s) = true ↔ servable s i := by
  simp [servable, canServe_iff]

theorem retryPass_of_servable (rest : List Nat) (can : servable s i) : retryPass (i :: rest) s = fireCue i s :=
  if_pos (servable_iff.2 can)

/-- A retry passes over the cues that it cannot serve. -/
theorem retryPass_append {before : List Nat} (rest : List Nat) (cannot : ∀ j ∈ before, ¬ servable s j) :
    retryPass (before ++ rest) s = retryPass rest s := by
  induction before with
  | nil => rfl
  | cons j before ih =>
    obtain ⟨head, tail⟩ := List.forall_mem_cons.1 cannot
    exact (if_neg fun can => head (servable_iff.1 can)).trans (ih tail)

theorem retry_of_not_running (other : s.route.state ≠ .running) : retry s = s := if_neg other

/-- A retry with no cue to serve changes nothing. -/
theorem retry_of_none_servable (none : ∀ j ∈ s.route.openCues, ¬ servable s j) : retry s = s := by
  have passed : retryPass s.route.openCues s = s := by simpa [retryPass] using retryPass_append [] none
  rw [retry, passed, ite_self]

/-- A retry fires the first cue on the open-cue list that it can serve. -/
theorem retry_of_servable {before after : List Nat} (running : s.route.state = .running)
    (list : s.route.openCues = before ++ i :: after) (cannot : ∀ j ∈ before, ¬ servable s j) (can : servable s i) :
    retry s = fireCue i s := by
  rw [retry, if_pos running, list, retryPass_append _ cannot, retryPass_of_servable _ can]

/-! ### ROUTE STOP, and a STOPPED route (R103, R107, R114) -/

/-- A notice reads nothing of the route. -/
theorem notify_setRoute (n : Notice) (x : Route) :
    notify n { s with route := x } = { notify n s with route := x } := by
  unfold notify
  split <;> rfl

theorem notify_setRequests (n : Notice) (rest : List Request) :
    notify n (setRequests rest s) = setRequests rest (notify n s) := by
  by_cases room : s.manage.notices.length < Config.noticeDepth <;> simp [notify, setRequests, room]

@[simp] theorem setRequests_route : (setRequests rest s).route = s.route := rfl

theorem stopCleared_setRequests : stopCleared (setRequests rest s) = setRequests rest (stopCleared s) := by
  cases requested : s.route.requested with
  | none => simp [stopCleared, requested]
  | some q => simp [stopCleared, requested, notify_setRequests]

/-- STOP keeps all of the route but its state and the requested stop, which goes with its notice (R107). -/
theorem stopRoute_eq :
    stopRoute s = { stopCleared s with route := { s.route with state := .stopped, requested := none } } := by
  cases requested : s.route.requested with
  | none => simp [stopRoute, routeClearsStop, stopCleared, requested]
  | some q => simp [stopRoute, routeClearsStop, stopCleared, requested, clearStop, notify_setRoute]

theorem routeEdge_of_stopped (stopped : s.route.state = .stopped) : routeEdge s = s := if_pos stopped

theorem resultReport_of_not_running (n : Nat) (other : s.route.state ≠ .running) : resultReport n s = s :=
  if_neg other

end Sys2Proof.Machine

namespace Sys2Proof.Proofs

open Sys2Proof Sys2Proof.Machine

/-- Settles O26: the wake, the serve test and the retry by their own lemmas, and the two rows by the state of the
route. -/
theorem holdAndResume : Obligations.HoldAndResume := by
  refine ⟨fun x => ⟨routeWake_of_sleeping, routeWake_of_awake⟩, fun c s => canServe_iff,
    fun s => ⟨retry_of_not_running, retry_of_none_servable, fun _ _ _ => retry_of_servable⟩, ?rows⟩
  case rows =>
    intro s r rest head kind
    have hold (params : r.params = [1#8]) := executeHead_routeAction (act := holdRoute) head kind params (by decide)
    have resumed (params : r.params = [2#8]) := executeHead_routeAction (act := resume) head kind params (by decide)
    refine ⟨fun params running => ?hold, fun params other => ?holdRefused, fun params held => ?resume,
      fun params other => ?resumeRefused⟩
    case hold =>
      refine congrArg Host.Outcome.next ((hold params).trans ?_)
      rw [holdRoute_of_running (s := setRequests rest s) running]
      rfl
    case holdRefused =>
      refine congrArg Host.Outcome.next ((hold params).trans ?_)
      rw [holdRoute_of_not_running (s := setRequests rest s) other, addReply_refuse]
    case resume =>
      refine congrArg Host.Outcome.next ((resumed params).trans ?_)
      rw [resume_of_held (s := setRequests rest s) held]
      rfl
    case resumeRefused =>
      refine congrArg Host.Outcome.next ((resumed params).trans ?_)
      rw [resume_of_not_held (s := setRequests rest s) other, addReply_refuse]

/-- Settles O27: the row is `stopRoute`, and each event of a STOPPED route tests the state first. -/
theorem routeStopFreezesRun : Obligations.RouteStopFreezesRun := by
  refine ⟨fun s r rest head kind params => ?stop, fun s stopped => ⟨?edge, ?result, ?retry⟩⟩
  case stop =>
    have row := executeHead_routeAction (act := fun x => done (stopRoute x)) head kind params (by decide)
    refine congrArg Host.Outcome.next (row.trans ?_)
    rw [done, stopRoute_eq, stopCleared_setRequests]
    rfl
  case edge => exact congrArg Host.Outcome.next (routeEdge_of_stopped stopped)
  case result => exact fun c => resultReport_of_not_running c (stopped.trans_ne (by decide))
  case retry => exact retry_of_not_running (stopped.trans_ne (by decide))

end Sys2Proof.Proofs

/-! The resolution of the lighting layers (R157, R159, R160): the setting that governs a channel, and what a change of
one layer does to the lamps. -/

namespace Sys2Proof.Machine

variable {g : Lighting} {c : Nat} {l : Layer} {x : Setting}

/-- The claim of each layer on channel `c`, as `governing` reads them. -/
def layerClaim (g : Lighting) (c : Nat) : Layer → Option Setting
  | .alert => sceneClaim g .alert g.alert c
  | .indicator => indicatorClaim g c
  | .force => sceneClaim g .force g.force c
  | .cue => sceneClaim g .cue g.cue c
  | .base => sceneClaim g .base (some (baseScene g)) c

/-- The five layers, the highest first (R157). -/
def layersByRank : List Layer := [.alert, .indicator, .force, .cue, .base]

theorem mem_layersByRank (l : Layer) : l ∈ layersByRank := by cases l <;> decide

theorem layersByRank_ordered : layersByRank.Pairwise fun l m => l.code ≤ m.code := by decide

theorem findSome?_cons_eq_orElse {α β : Type} (f : α → Option β) (a : α) (rest : List α) :
    (a :: rest).findSome? f = (f a <|> rest.findSome? f) := by
  cases first : f a <;> simp [first]

/-- The governing setting is the first claim in rank order (R159). -/
theorem governing_eq_findSome? :
    governing g c = (layersByRank.findSome? (layerClaim g c)).getD unclaimedSetting := by
  simp [governing, layersByRank, findSome?_cons_eq_orElse, layerClaim]

theorem sceneClaim_eq_some_iff {scene : Option Nat} : sceneClaim g l scene c = some x ↔
    ∃ n parts p, g.scenes[n]? = some parts ∧ parts[c]? = some p ∧ p.claim = true ∧ scene = some n ∧
      x = { layer := some l, scene := some n, target := p.target, pattern := p.pattern, period := p.period,
            fade := p.fade } := by
  cases scene with
  | none => simp [sceneClaim]
  | some n =>
    cases scene : g.scenes[n]? with
    | none => simp [sceneClaim, scene]
    | some parts =>
      cases part : parts[c]? with
      | none => simp_all [sceneClaim]
      | some p => simp_all [sceneClaim, eq_comm (a := x)]

theorem indicatorClaim_eq_some_iff : indicatorClaim g c = some x ↔
    g.indicator = true ∧ g.params.indicatorChannel = some c ∧
      x = { layer := some .indicator, scene := none, target := g.params.indicatorLevel, pattern := .steady, period := 0,
            fade := 0 } := by
  simp [indicatorClaim, and_assoc, eq_comm (a := x)]

theorem some_baseScene_eq_iff {n : Nat} :
    some (baseScene g) = some n ↔ g.base = some n ∨ (g.base = none ∧ g.params.baseScene = n) := by
  cases base : g.base <;> simp [baseScene, base]

theorem layerClaim_eq_some_iff : layerClaim g c l = some x ↔ layerClaims g c l x := by
  cases l <;> simp only [layerClaim, layerClaims, sceneClaim_eq_some_iff, indicatorClaim_eq_some_iff,
    some_baseScene_eq_iff, reduceCtorEq, false_and, true_and, or_false, false_or, and_false, exists_false]

/-- What `governing` gives is the setting that governs the channel (R159). -/
theorem governs_governing : governs g c (governing g c) := by
  rw [governing_eq_findSome?]
  cases found : layersByRank.findSome? (layerClaim g c) with
  | none =>
    refine .inr ⟨fun l x claims => ?_, rfl⟩
    have unclaimed := List.findSome?_eq_none_iff.1 found l (mem_layersByRank l)
    exact absurd (unclaimed.symm.trans (layerClaim_eq_some_iff.2 claims)) nofun
  | some x =>
    obtain ⟨above, l, below, split, claim, unclaimed⟩ := List.findSome?_eq_some_iff.1 found
    refine .inl ⟨l, layerClaim_eq_some_iff.1 claim, fun m y claims => ?_⟩
    have ⟨_, ordered, _⟩ := List.pairwise_append.1 (split ▸ layersByRank_ordered)
    have place : m ∈ above ++ l :: below := split ▸ mem_layersByRank m
    rcases List.mem_append.1 place with higher | lower
    · exact absurd ((unclaimed m higher).symm.trans (layerClaim_eq_some_iff.2 claims)) nofun
    · rcases List.mem_cons.1 lower with rfl | lower
      · exact le_rfl
      · exact List.rel_of_pairwise_cons ordered lower

theorem lampStart_eq_iff {lamp : Lamp} {start : LampStart} :
    lampStart lamp = start ↔ lamp.began = some start ∨ (lamp.began = none ∧ start =
      { level := lamp.level, setting := lamp.setting, transition := lamp.transition, phase := lamp.phase }) := by
  cases began : lamp.began <;> simp [lampStart, began, eq_comm (b := start)]

/-- A transition begins from the level of `start`, as a fade of steps or at its target at once (R160). -/
theorem beginTransition_spec (new : Setting) (start : LampStart) :
    (beginTransition new start).began = some start ∧ (beginTransition new start).phase = 0 ∧
      (10 ≤ new.fade → (beginTransition new start).level = start.level ∧
        (beginTransition new start).transition = .fading start.level (new.fade / 10) 0 10) ∧
      (new.fade < 10 → (beginTransition new start).level = new.target ∧
        (beginTransition new start).transition = settled new) := by
  unfold beginTransition
  split
  · exact ⟨rfl, rfl, fun _ => ⟨rfl, rfl⟩, fun short => by omega⟩
  · exact ⟨rfl, rfl, fun long => by omega, fun _ => ⟨rfl, rfl⟩⟩

/-- A lamp that takes a setting keeps what it has, stands as before the moment, or begins a transition, where R160 and
R166 say so. -/
theorem lampTakes_takeSetting (new : Setting) (lamp : Lamp) : lampTakes new lamp (takeSetting new lamp) := by
  rcases takeSetting_cases new lamp with ⟨same, keeps⟩ | ⟨differs, back, returns⟩ | ⟨differs, away, begins⟩
  · rw [keeps]
    exact ⟨same, fun _ => rfl, fun _ _ _ other => absurd same other, fun _ _ other => absurd same other⟩
  · rw [returns]
    refine ⟨back, fun same => absurd same differs, fun b began _ _ => ?_, fun start starts _ away => ?_⟩
    · rw [lampStart_eq_iff.2 (.inl began)]
      rfl
    · exact absurd (lampStart_eq_iff.2 starts ▸ back) away
  · rw [begins]
    refine ⟨beginTransition_setting _ _, fun same => absurd same differs, fun b began back _ => ?_,
      fun start starts _ _ => ?_⟩
    · exact absurd ((congrArg LampStart.setting (lampStart_eq_iff.2 (.inl began))).trans back) away
    · rw [lampStart_eq_iff.2 starts]
      exact beginTransition_spec new start

theorem resolveLamps_length (g : Lighting) (first : Nat) (lamps : List Lamp) :
    (resolveLamps g first lamps).length = lamps.length := by
  induction lamps generalizing first with
  | nil => rfl
  | cons lamp rest ih => exact congrArg (· + 1) (ih (first + 1))

/-- A resolution gives every lamp the setting that governs its channel (R159). -/
theorem resolve_resolvedFrom (g : Lighting) : resolvedFrom g.lamps (resolve g) := by
  refine ⟨resolveLamps_length g 0 g.lamps, fun c x y old new => ⟨governs_governing, ?_⟩⟩
  rw [resolve_getElem?, old] at new
  obtain rfl : takeSetting (governing g c) x = y := by simpa using new
  exact lampTakes_takeSetting _ _

theorem relit_refl (g : Lighting) : relit g g g := ⟨rfl, fun _ => rfl, fun changed => absurd rfl changed⟩

/-- A change of the layers resolves every lamp (R157). -/
theorem relit_resolve {old layered : Lighting} (changed : layered ≠ old) (lamps : layered.lamps = old.lamps) :
    relit old layered (resolve layered) :=
  ⟨rfl, fun same => absurd same changed, fun _ => lamps ▸ resolve_resolvedFrom layered⟩

theorem setCueScene_relit (scene : Option Nat) (s : State) :
    relit s.lighting { s.lighting with cue := scene } (setCueScene scene s).lighting := by
  by_cases held : s.lighting.cue = scene
  · subst held
    rw [setCueScene, if_pos rfl]
    exact relit_refl _
  · rw [setCueScene, if_neg held]
    exact relit_resolve (fun same => held (congrArg Lighting.cue same).symm) rfl

theorem setCueScene_lighting_only (scene : Option Nat) (s : State) :
    setCueScene scene s = { s with lighting := (setCueScene scene s).lighting } := by
  unfold setCueScene
  split <;> rfl

end Sys2Proof.Machine

/-! Conditions (R110), and what a fired and a skipped cue do (R114, R116, R117). -/

namespace Sys2Proof.Machine

variable {s : State} {i v : Nat} {c : Cue} {used : Bool}

/-! ### Conditions (R110) -/

/-- The model reads the average of a channel where it is ordered, and nothing where it is not (R95). -/
theorem orderedAverage_eq_some_iff {channel : Nat} : orderedAverage channel s = some v ↔ orderedValue s channel v := by
  cases record : s.sense.channels[channel]? with
  | none => simp [orderedAverage, orderedValue, channelRecord, record]
  | some record' =>
    cases result : s.sense.results[channel]? with
    | none => simp [orderedAverage, orderedValue, channelRecord, resultRecord, record, result, resultCleared]
    | some r =>
      cases present : r.present <;>
        simp [orderedAverage, orderedValue, channelRecord, resultRecord, record, result, present, isStale, Config.ms,
          Config.tickRate, eq_comm (a := v), and_assoc]

/-- A code outside the nine is read as ALWAYS, of which `compares` asks nothing either. -/
theorem holds_ofCode_some_iff {code threshold : Nat} :
    holds ((Predicate.ofCode code).getD .always) (some v) threshold = true ↔ compares code v threshold := by
  match code with
  | 0 | 1 | 2 | 3 | 4 | 5 | 6 | 7 | 8 => simp [holds, Predicate.ofCode, compares]
  | n + 9 => simp [holds, Predicate.ofCode, compares]

theorem holds_ofCode_none_iff {code threshold : Nat} :
    holds ((Predicate.ofCode code).getD .always) none threshold = true ↔ ¬ (1 ≤ code ∧ code ≤ 4) := by
  match code with
  | 0 | 1 | 2 | 3 | 4 | 5 | 6 | 7 | 8 => simp [holds, Predicate.ofCode]
  | n + 9 => simp [holds, Predicate.ofCode]

theorem conditionTrue_iff : conditionTrue c s = true ↔ conditionHolds c s := by
  by_cases absent : c.conditionChannel = 255
  · simp [conditionTrue, conditionHolds, absent]
  · simp only [conditionTrue, conditionHolds, absent, false_or, ← orderedAverage_eq_some_iff]
    cases value : orderedAverage c.conditionChannel s with
    | none => simp [holds_ofCode_none_iff]
    | some v => simp [holds_ofCode_some_iff]

/-! ### The evaluation of a PENDING cue (R111, R114, R115) -/

theorem isSegment_iff : isSegment c = true ↔ c.kind = 0 := by
  match kind : c.kind with
  | 0 | 1 | 2 | 3 | 4 | 5 => simp [isSegment, kind, CueKind.ofCode]
  | n + 6 => simp [isSegment, kind, CueKind.ofCode]

/-- A cue whose condition is true fires where it may, and a SEGMENT cue that must wait is DEFERRED (R111, R115). -/
theorem evaluatePending_cases (i : Nat) (s : State) (used : Bool) :
    (¬ conditionHolds (cueAt s i) s ∧ evaluatePending i s used = (s, used)) ∨
    (conditionHolds (cueAt s i) s ∧ ∃ after, mayFire s i used after ∧ evaluatePending i s used = (fireCue i s, after)) ∨
    (conditionHolds (cueAt s i) s ∧ mustWait s i used ∧
      evaluatePending i s used = (withCueState i .deferred s, used)) := by
  by_cases condition : conditionTrue (cueAt s i) s = true
  · by_cases segment : isSegment (cueAt s i) = true
    · by_cases served : (canServe (cueAt s i) s && !used) = true
      · refine .inr (.inl ⟨conditionTrue_iff.1 condition, true, ?_, ?_⟩)
        · obtain ⟨can, unused⟩ := Bool.and_eq_true_iff.1 served
          exact .inr ⟨isSegment_iff.1 segment, canServe_iff.1 can, by simpa using unused, rfl⟩
        · rw [evaluatePending, if_pos condition, if_pos segment, if_pos served]
      · refine .inr (.inr ⟨conditionTrue_iff.1 condition, ⟨isSegment_iff.1 segment, ?_⟩, ?_⟩)
        · rw [← canServe_iff]
          cases used <;> simp_all
        · rw [evaluatePending, if_pos condition, if_pos segment, if_neg served]
          rfl
    · refine .inr (.inl ⟨conditionTrue_iff.1 condition, used, .inl ⟨mt isSegment_iff.2 segment, rfl⟩, ?_⟩)
      rw [evaluatePending, if_pos condition, if_neg segment]
  · exact .inl ⟨mt conditionTrue_iff.2 condition, if_neg condition⟩

/-- The evaluation at a result follows R114, cue by cue. -/
theorem resultPass_spec (n : Nat) (list : List Nat) (s : State) (used : Bool) :
    ResultPass n list s used (resultPass n list s used) := by
  induction list generalizing s used with
  | nil => exact .done s used
  | cons i rest ih =>
    by_cases named : (cueAt s i).state = .pending ∧ (cueAt s i).conditionChannel = n
    · have step : resultPass n (i :: rest) s used =
          resultPass n rest (evaluatePending i s used).1 (evaluatePending i s used).2 := if_pos (by simpa using named)
      rw [step]
      obtain ⟨pending, channel⟩ := named
      rcases evaluatePending_cases i s used with ⟨fails, eq⟩ | ⟨holds, after, may, eq⟩ | ⟨holds, waits, eq⟩
      · rw [eq]
        exact .stays (fun ⟨_, _, holds⟩ => fails holds) (ih s used)
      · rw [eq]
        exact .fired pending channel holds may (ih _ _)
      · rw [eq]
        exact .deferred pending channel holds waits (ih _ _)
    · have step : resultPass n (i :: rest) s used = resultPass n rest s used := if_neg (by simpa using named)
      rw [step]
      exact .stays (fun ⟨pending, channel, _⟩ => named ⟨pending, channel⟩) (ih s used)

theorem resultReport_of_running (n : Nat) (running : s.route.state = .running) :
    resultReport n s = resultPass n s.route.openCues s false := if_pos running

/-! ### A cue that fires or is skipped (R116, R117) -/

theorem cueAt_of_getElem? (entry : s.route.cues[i]? = some c) : cueAt s i = c := by
  simp [cueAt, entry]

/-- A cue takes the state `x` and leaves the open-cue list. -/
theorem leaveList_setCueState (entry : s.route.cues[i]? = some c) (x : CueState) :
    leaveList i (setCueState i x s) = { s with route := { s.route with
      cues := s.route.cues.set i { c with state := x }
      openCues := s.route.openCues.filter fun j => decide (j ≠ i) } } := by
  have cues : s.route.cues.modify i (fun c => { c with state := x }) = s.route.cues.set i { c with state := x } := by
    rw [List.modify_eq_set_getElem?, entry]
    rfl
  simp [leaveList, setCueState, setCue, cues]

theorem fireCue_eq (entry : s.route.cues[i]? = some c) :
    fireCue i s = cueAction i c (notify (.cueFired i c.kind (position s)) { s with route := { s.route with
      cues := s.route.cues.set i { c with state := .fired }
      openCues := s.route.openCues.filter fun j => decide (j ≠ i) } }) := by
  rw [fireCue, cueAt_of_getElem? entry, leaveList_setCueState entry]

/-- A skipped cue's notice, and behind it that of the requested stop, where the cue is the stop's (R117). -/
theorem skipCue_eq (entry : s.route.cues[i]? = some c) (reason : SkipReason) {u : State}
    (skipped : u = notify (.cueSkipped i reason (position s)) { s with route := { s.route with
      cues := s.route.cues.set i { c with state := .skipped }
      openCues := s.route.openCues.filter fun j => decide (j ≠ i) } }) :
    ((∀ q, s.route.requested = some q → q.cue ≠ i) → skipCue i reason s = u) ∧
      ∀ q, s.route.requested = some q → q.cue = i →
        skipCue i reason s = notify (.stopCleared q.stop .skipped) (clearStop u) := by
  rw [skipCue, leaveList_setCueState entry, ← skipped]
  refine ⟨fun other => ?_, fun q requested same => ?_⟩
  · cases requested : s.route.requested with
    | none => rfl
    | some q => exact if_neg (other q requested)
  · rw [requested]
    exact if_pos same

theorem stopIs_iff {n : Nat} : stopIs n s = true ↔ s.route.requested.map StopRequest.stop = some n := by
  cases requested : s.route.requested <;> simp [stopIs, requested]

/-! ### The action of a fired cue (R116) -/

theorem cueAction_of_segment (kind : c.kind = 0) : cueAction i c s = recordSegment c.segment s := by
  rw [cueAction, kind]
  rfl

/-- The next clip is announced where the stop is the requested one. -/
theorem cueAction_of_stopApproach (kind : c.kind = 1) : cueAction i c s = announceRequest
    { cls := .stop, clip := if s.route.requested.map StopRequest.stop = some c.stop then c.clip + 1 else c.clip
      mask := c.mask, origin := .cue i, scene := none } s := by
  simp only [cueAction, kind, CueKind.ofCode, stopIs_iff]

/-- The requested stop is reached, where it is this one, before the clip is announced; clip 1023 stands for none. -/
theorem cueAction_of_stopArrival (kind : c.kind = 2) {reached : State}
    (stop : reached = if s.route.requested.map StopRequest.stop = some c.stop
      then notify (.stopReached c.stop) (clearStop s) else s) :
    cueAction i c s = if c.clip = 1023 then reached else announceRequest
      { cls := .service, clip := c.clip, mask := c.mask, origin := .cue i, scene := none } reached := by
  simp only [cueAction, kind, CueKind.ofCode, stopIs_iff, stop]

theorem cueAction_of_clearance (kind : c.kind = 3) : cueAction i c s = announceRequest
    { cls := .clearance, clip := c.clip, mask := c.mask, origin := .cue i, scene := cueScene c } s := by
  rw [cueAction, kind]
  rfl

theorem cueAction_of_scene (kind : c.kind = 4) : cueAction i c s = setCueScene (cueScene c) s := by
  rw [cueAction, kind]
  rfl

theorem cueAction_of_notice (kind : c.kind = 5) : cueAction i c s = s := by
  rw [cueAction, kind]
  rfl

end Sys2Proof.Machine

namespace Sys2Proof.Proofs

open Sys2Proof Sys2Proof.Machine

/-- Settles O30: the condition, the CUE layer and the evaluation at a result by their own lemmas, the skip by
`skipCue_eq`, and the firing by `fireCue_eq` and the action of each kind. -/
theorem firedCueTakesItsAction : Obligations.FiredCueTakesItsAction := by
  refine ⟨fun c s => conditionTrue_iff, fun scene s => ⟨setCueScene_relit scene s, setCueScene_lighting_only scene s⟩,
    fun s n => ⟨resultReport_of_not_running n, fun running => ?result⟩,
    fun s u i c reason entry skipped => skipCue_eq entry reason skipped, fun s u i c entry fired => ?fires⟩
  case result =>
    rw [resultReport_of_running n running]
    exact resultPass_spec n s.route.openCues s false
  case fires =>
    have requested : u.route.requested = s.route.requested := by rw [fired, notify_route]
    have segment : u.segment = s.segment := by rw [fired, notify_segment]
    rw [fireCue_eq entry, ← fired, ← requested, ← segment]
    exact ⟨cueAction_of_segment, cueAction_of_stopApproach, fun kind _ stop => cueAction_of_stopArrival kind stop,
      cueAction_of_clearance, cueAction_of_scene, cueAction_of_notice⟩

end Sys2Proof.Proofs

/-! What a command can do, said once: every operation of the model is a run of primitive moves, each of which changes
one block in one named way. The properties that every step keeps are then checked move by move. -/

namespace Sys2Proof.Machine

/-! ### The primitive moves of a block -/

/-- `b` is queued for the same announcement as `a`, at the same place in the order of arrival. -/
def SameEntry (a b : Entry) : Prop := b.cls = a.cls ∧ b.clip = a.clip ∧ b.arrival = a.arrival

theorem SameEntry.refl (e : Entry) : SameEntry e e := ⟨rfl, rfl, rfl⟩

/-- What one operation does to the entries queued (R134 to R151). -/
inductive AnnounceMove (a : Announcer) : Announcer → Prop
  | clock (tickets : Nat) (start duration : Option Nat) :
      AnnounceMove a { a with tickets := tickets, startTimer := start, durationTimer := duration }
  | phase {e f} : a.path = some e → SameEntry e f → AnnounceMove a { a with path := some f }
  | free : AnnounceMove a { a with path := none }
  | fewer {w} : w.Sublist a.waiting → AnnounceMove a { a with waiting := w }
  | widen {f : Entry → Entry} : (∀ e, SameEntry e (f e)) → AnnounceMove a { a with waiting := a.waiting.map f }
  | insert {e base} : e.arrival = a.nextArrival → base.Sublist a.waiting →
      (base.length + a.path.toList.length < 8 ∨ base.length < a.waiting.length) →
      (∀ x ∈ base, ¬ (x.clip = e.clip ∧ x.cls = e.cls)) →
      AnnounceMove a { a with waiting := insertRanked e base, nextArrival := a.nextArrival + 1 }
  | start {w rest e} : a.path = none → a.waiting = w :: rest → SameEntry w e →
      AnnounceMove a { a with path := some e, waiting := rest }
  | back {e f} : a.path = some e → SameEntry e f →
      AnnounceMove a { a with
        path := none, waiting := insertRanked f (a.waiting.filter fun x => !alike e.clip e.cls x) }

/-- What one operation does to the lighting controller (R154 to R162). -/
inductive LightMove (g : Lighting) : Lighting → Prop
  | layers {h : Lighting} : h.scenes = g.scenes → h.params = g.params → h.lamps = g.lamps → LightMove g (resolve h)
  | scenes {x} : ((∀ scene ∈ g.scenes, ∀ p ∈ scene, p.target ≤ 1000) → ∀ scene ∈ x, ∀ p ∈ scene, p.target ≤ 1000) →
      LightMove g (resolve { g with scenes := x })
  | params {p} : p.indicatorLevel ≤ 1000 → LightMove g (resolve { g with params := p })
  | lamp (c : Nat) {f} : f = stepFade ∨ f = flipFlash → LightMove g { g with lamps := g.lamps.modify c f }
  | tick : LightMove g { g with lamps := g.lamps.map tickLamp }

/-- Cue `i` of a route. -/
def Route.cue (r : Route) (i : Nat) : Cue := r.cues.getD i cueReset

/-- A route with cue `i` in state `x`. -/
def Route.marked (r : Route) (i : Nat) (x : CueState) : Route :=
  { r with cues := r.cues.modify i fun c => { c with state := x } }

/-- A route with cue `i` in state `x` and off the open-cue list, and `q` as its requested stop. -/
def Route.left (r : Route) (i : Nat) (x : CueState) (q : Option StopRequest) : Route :=
  { r.marked i x with openCues := r.openCues.filter fun j => !decide (j = i), requested := q }

/-- The requested stop `q` stands or is gone, and it is gone where it stood for cue `i`. -/
def stopFollows (r : Route) (i : Nat) (q : Option StopRequest) : Prop :=
  (q = r.requested ∨ q = none) ∧
    ∀ z, r.requested = some z → z.cue = i → (r.cue i).kind = 2 → (r.cue i).stop = z.stop → q = none

/-- What one operation does to the route engine (R103 to R120). -/
inductive RouteMove (r : Route) : Route → Prop
  | travel (d : BitVec 40) (n : Nat) : RouteMove r { r with distance := d, cursor := n }
  | leave {i x q} : stopFollows r i q → RouteMove r (r.left i x q)
  | defer {i} : (r.cue i).state = .pending → RouteMove r (r.marked i .deferred)
  | join {i x} : (r.cue i).state = .armed → (r.cue i).inUse = true → (x = .pending ∨ x = .deferred) →
      r.openCues.length < 16 → RouteMove r { r.marked i x with openCues := r.openCues ++ [i] }
  | overflow {i x j rest q} : (r.cue i).state = .armed → (r.cue i).inUse = true → (x = .pending ∨ x = .deferred) →
      r.openCues = j :: rest → stopFollows (r.marked i x) j q →
      RouteMove r { (r.marked i x).left j .skipped q with
        openCues := ((r.marked i x).left j .skipped q).openCues ++ [i] }
  | backward (m n : Nat) : RouteMove r { r with
      openCues := r.openCues.filter fun i => !decide (m < (r.cue i).trigger)
      cues := r.cues.map (fun c => if rearmed m c then { c with state := .armed } else c)
      cursor := n }
  | start : RouteMove r
      { distance := 0, state := .running, cursor := 0, openCues := [], requested := none
        cues := r.cues.map fun c => { c with state := .armed } }
  | run {x} : x ≠ .stopped → RouteMove r { r with state := x }
  | stop : RouteMove r { r with state := .stopped, requested := none }
  | request {i} : r.state ≠ .stopped → stopTargets (r.cue i) →
      RouteMove r { r with requested := some { stop := (r.cue i).stop, cue := i } }
  | write (first : Nat) (records : List Cue) : r.state = .stopped → RouteMove r { r with
      cues := writeAt r.cues first records
      openCues := r.openCues.filter fun i => !(decide (first ≤ i) && decide (i < first + records.length)) }

/-- A sample of a seat slot. -/
def sampleOk (y : Int) : Prop := -32768 ≤ y ∧ y ≤ 32767

/-- Each line of `new` sends what a line of `old` sent, or samples in range. -/
def slotsFrom (old new : List Line) : Prop :=
  ∀ y ∈ new, (∃ x ∈ old, y.slots = x.slots) ∨ ∀ slot ∈ y.slots, ∀ v ∈ slot, sampleOk v

/-! ### The moves of the device -/

/-- What one primitive operation of a command does. The queue of waiting commands has no part in it. -/
inductive Move (s : State) : State → Prop
  | notify (n : Notice) : Move s (notify n s)
  | announce {a} : AnnounceMove s.announce a → Move s { s with announce := a }
  | lighting {g} : LightMove s.lighting g → Move s { s with lighting := g }
  | route {r} : RouteMove s.route r → Move s { s with route := r }
  | generator (g : Option Sequence) : Move s { s with mix := { s.mix with generator := g } }
  | segment (x : Segment) : Move s { s with segment := x }
  | sense (x : Sense) : Move s { s with sense := x }
  | zones {zs} : zs.map Zone.duck = s.mix.zones.map Zone.duck → Move s { s with mix := { s.mix with zones := zs } }
  | lines {x} : slotsFrom s.lines.lines x.lines → Move s { s with lines := x }
  | seats {x} : (seatsOnOffer s → seatsOnOffer { s with seats := x }) → Move s { s with seats := x }
  | heldMix {w} : heldMixInRange w → Move s { s with mix := { s.mix with held := s.mix.held ++ [w] } }
  | link (x : Link) : Move s { s with link := x }
  | playout {x} : (s.playout.queue.length ≤ 4 → x.queue.length ≤ 4) → Move s { s with playout := x }
  | manage {m} : m.requests.length ≤ s.manage.requests.length → m.replies.length ≤ s.manage.replies.length →
      m.notices.length ≤ s.manage.notices.length → Move s { s with manage := m }
  | report (x : Option (List Byte)) : Move s { s with report := x }
  | clockPhase (n : Nat) : Move s { s with clockPhase := n }

/-- A run of moves. -/
def Moves : State → State → Prop := Relation.ReflTransGen Move

namespace Moves

theorem refl {s : State} : Moves s s := Relation.ReflTransGen.refl

theorem of {s t : State} (h : Move s t) : Moves s t := Relation.ReflTransGen.single h

theorem trans {s t u : State} (h : Moves s t) (k : Moves t u) : Moves s u := Relation.ReflTransGen.trans h k

/-- What every move keeps, a run of moves keeps. -/
theorem keep {P : State → Prop} (closed : ∀ s t, Move s t → P s → P t) {s t : State} (h : Moves s t) (p : P s) : P t := by
  induction h with
  | refl => exact p
  | tail _ last ih => exact closed _ _ last ih

theorem ite {p : Prop} [Decidable p] {s t u : State} (ht : Moves s t) (hu : Moves s u) :
    Moves s (if p then t else u) := by
  split
  · exact ht
  · exact hu

end Moves

/-! ### The announcement layer -/

section
variable (s : State)

/-- A notice reads nothing of the announcement controller. -/
theorem notify_setAnnounce (n : Notice) (a : Announcer) :
    notify n { s with announce := a } = { notify n s with announce := a } := by
  unfold notify
  split <;> rfl

theorem notify_moves (n : Notice) : Moves s (notify n s) := .of (.notify n)

theorem notifyAll_moves (ns : List Notice) : Moves s (notifyAll ns s) := by
  induction ns generalizing s with
  | nil => exact .refl
  | cons n ns ih => exact (notify_moves s n).trans (ih _)

/-- A change of the layers alone is one move. -/
theorem setAlert_moves (x : Option Nat) : Moves s (setAlert x s) :=
  .ite .refl (.of (.lighting (.layers rfl rfl rfl)))

theorem setIndicator_moves (x : Bool) : Moves s (setIndicator x s) :=
  .ite .refl (.of (.lighting (.layers rfl rfl rfl)))

theorem setForce_moves (x : Option Nat) : Moves s (setForce x s) :=
  .ite .refl (.of (.lighting (.layers rfl rfl rfl)))

theorem setCueScene_moves (x : Option Nat) : Moves s (setCueScene x s) :=
  .ite .refl (.of (.lighting (.layers rfl rfl rfl)))

theorem setBaseScene_moves (x : Option Nat) : Moves s (setBaseScene x s) :=
  .ite .refl (.of (.lighting (.layers rfl rfl rfl)))

theorem reportAlert_moves : Moves s (reportAlert s) := setAlert_moves s _

theorem requestChime_moves (n : Nat) (ticket : Option Nat) (mask : ZoneMask) : Moves s (requestChime n ticket mask s) :=
  .of (.generator _)

theorem requestBeep_moves (l b : Nat) : Moves s (requestBeep l b s) := by
  unfold requestBeep
  split
  · exact .of (.generator _)
  · split
    · exact .of (.generator _)
    · exact .refl

/-- The stop touches the generator alone. -/
theorem stopChime_eq : stopChime s = { s with mix := { s.mix with generator := (stopChime s).mix.generator } } := by
  unfold stopChime
  split
  · rfl
  · split <;> rfl

theorem stopChime_moves : Moves s (stopChime s) := by
  rw [stopChime_eq]
  exact .of (.generator _)

@[simp] theorem stopChime_announce : (stopChime s).announce = s.announce := by rw [stopChime_eq]

theorem grantLive_moves (mask : LanguageMask) : Moves s (grantLive mask s) :=
  (Moves.of (.segment _)).trans (notify_moves _ _)

theorem pathFreeReport_moves : Moves s (pathFreeReport s) := by
  unfold pathFreeReport
  split
  · exact grantLive_moves s _
  · exact .refl

theorem stopTimers_moves : Moves s (stopTimers s) := .of (.announce (.clock _ none none))

theorem removePath_moves : Moves s (removePath s) :=
  (Moves.of (t := setPath none s) (.announce .free)).trans (stopTimers_moves _)

/-- Entry `f` of the path takes the place of `e`, in STARTING-CLIP. -/
theorem enterStartingClip_moves {e f : Entry} (path : s.announce.path = some e) (same : SameEntry e f) :
    Moves s (enterStartingClip f s) :=
  (Moves.of (.announce (.phase (f := { f with state := .startingClip }) path same))).trans
    (.of (.announce (.clock s.announce.tickets (some Config.startTime) none)))

variable {s}

/-- The start step for the first of the WAITING entries is the start, the ticket and the chime (R141). -/
theorem startEntry_moves {w : Entry} {rest : List Entry} (path : s.announce.path = none)
    (waiting : s.announce.waiting = w :: rest) : Moves s (startEntry w (setWaiting rest s)) := by
  have started (e : Entry) (same : SameEntry w e) : Moves s
      { s with announce := { s.announce with path := some e, waiting := rest } } :=
    .of (.announce (.start path waiting same))
  unfold startEntry
  dsimp only
  split
  · exact ((started { w with
      state := .startingChime, ticket := some (nextTicket s.announce.tickets), chime := (classRecord s w.cls).chime
      maxSeconds := (classRecord s w.cls).maxSeconds } ⟨rfl, rfl, rfl⟩).trans
        (.of (.announce (.clock _ _ _)))).trans (requestChime_moves _ _ _ _)
  · exact (started { w with
      state := .startingClip, ticket := some (nextTicket s.announce.tickets), chime := (classRecord s w.cls).chime
      maxSeconds := (classRecord s w.cls).maxSeconds } ⟨rfl, rfl, rfl⟩).trans (.of (.announce (.clock _ _ _)))

/-- A path entry begins its chime-only run or leaves the path (R150). -/
theorem beginChimeOnly_moves {e f : Entry} (path : s.announce.path = some e) (same : SameEntry e f) :
    Moves s (beginChimeOnly f s).1 := by
  unfold beginChimeOnly
  split
  · next n _ =>
    exact (Moves.of (.announce (.phase (f := { f with state := .chimeOnly, ticket := none, chime := some n }) path
      same))).trans (requestChime_moves _ _ _ _)
  · exact .of (.announce .free)

/-- The first of the WAITING entries begins its chime-only run or leaves the queue, with a notice before (R149,
R150). -/
theorem beginChimeOnly_waiting_moves {w f : Entry} {rest : List Entry} (n : Notice) (path : s.announce.path = none)
    (waiting : s.announce.waiting = w :: rest) (same : SameEntry w f) :
    Moves s (beginChimeOnly f (notify n (setWaiting rest s))).1 := by
  have taken : ∀ p, setPath p (notify n (setWaiting rest s)) =
      { notify n s with announce := { s.announce with path := p, waiting := rest } } := by
    intro p
    rw [setWaiting, notify_setAnnounce]
    rfl
  have start (e : Entry) (h : SameEntry w e) : Moves s
      { notify n s with announce := { s.announce with path := some e, waiting := rest } } :=
    (notify_moves s n).trans (.of (.announce (by rw [notify_announce]; exact .start path waiting h)))
  have fewer : Moves s { notify n s with announce := { s.announce with path := none, waiting := rest } } :=
    (notify_moves s n).trans (.of (.announce (by
      rw [notify_announce, ← path]
      exact .fewer (waiting ▸ List.sublist_cons_self w rest))))
  unfold beginChimeOnly
  split
  · rw [taken]
    exact (start { f with state := .chimeOnly, ticket := none, chime := some _ } same).trans (requestChime_moves _ _ _ _)
  · rw [taken]
    exact fewer

theorem beginChimeOnly_removed {e : Entry} (removed : (beginChimeOnly e s).2 = true) :
    (beginChimeOnly e s).1.announce.path = none := by
  unfold beginChimeOnly at removed ⊢
  split at removed
  · exact nomatch removed
  · rfl

theorem startDown_moves (fuel : Nat) (path : s.announce.path = none) : Moves s (startDown fuel s).1 := by
  induction fuel generalizing s with
  | zero => exact .refl
  | succ n ih =>
    rw [startDown]
    split
    · exact .refl
    · next w rest waiting =>
      split
      · have begun := beginChimeOnly_waiting_moves (f := { w with maxSeconds := (classRecord s w.cls).maxSeconds })
          (.clipFailed 0 w.clip w.cls .link) path waiting ⟨rfl, rfl, rfl⟩
        dsimp only
        split
        · next removed => exact begun.trans (ih (beginChimeOnly_removed removed))
        · exact begun
      · exact .refl

theorem startStep_moves : Moves s (startStep s).1 := by
  unfold startStep
  split
  · exact .refl
  · next path =>
    split
    · split
      · exact .refl
      · next waiting => exact startEntry_moves path waiting
    · exact startDown_moves _ path

variable (s)

theorem reportIfFree_moves : Moves s (reportIfFree s) := by
  unfold reportIfFree
  split
  · exact .refl
  · exact pathFreeReport_moves s

theorem afterEnding_moves : Moves s (afterEnding s) :=
  (startStep_moves.trans (reportAlert_moves _)).trans (reportIfFree_moves _)

theorem afterArrival_moves : Moves s (afterArrival s) := by
  have begun : Moves s (reportAlert (startStep s).1) := startStep_moves.trans (reportAlert_moves _)
  unfold afterArrival
  split
  · exact .refl
  · exact .ite (begun.trans (reportIfFree_moves _)) begun

variable {s}

/-- A path entry goes back among the WAITING entries (R140). -/
theorem returnToWaiting_moves {e : Entry} (path : s.announce.path = some e) : Moves s (returnToWaiting e s) :=
  .of (.announce (.back path ⟨rfl, rfl, rfl⟩))

theorem preempt_moves {e : Entry} (path : s.announce.path = some e) : Moves s (preempt e s) := by
  have stopped : Moves s (if e.state = .startingChime then stopChime s else s) := .ite (stopChime_moves s) .refl
  refine ((stopped.trans (stopTimers_moves _)).trans (notify_moves _ _)).trans (returnToWaiting_moves ?_)
  rw [notify_announce]
  split
  · exact (congrArg Announcer.path (stopChime_announce s)).trans path
  · exact path

theorem path_of_runningEntry {e : Entry} (running : runningEntry s = some e) : s.announce.path = some e := by
  unfold runningEntry at running
  split at running
  · next path =>
    split at running
    · exact nomatch running
    · exact path.trans running
  · exact nomatch running

theorem afterInsertion_moves (c : AnnClass) : Moves s (afterInsertion c s) := by
  unfold afterInsertion
  split
  · next running =>
    exact .ite ((preempt_moves (path_of_runningEntry running)).trans (afterArrival_moves _)) .refl
  · exact afterArrival_moves s

variable (s)

/-- A request whose like does not wait joins where there is room (R137). -/
theorem insertRequest_moves {r : AnnRequest} (room : queuedCount s < 8)
    (new : ¬ s.announce.waiting.any (alike r.clip r.cls) = true) : Moves s (insertRequest r s) := by
  refine .of (.announce (.insert rfl (List.Sublist.refl _) (.inl room) fun x mem same => new ?_))
  exact List.any_eq_true.2 ⟨x, mem, by simp [alike, same]⟩

/-- A request whose like does not wait takes the place of the last WAITING entry (R137). -/
theorem displace_moves {r : AnnRequest} (n : Notice) (some : s.announce.waiting ≠ [])
    (new : ¬ s.announce.waiting.any (alike r.clip r.cls) = true) :
    Moves s (insertRequest r (notify n (setWaiting s.announce.waiting.dropLast s))) := by
  have sub : s.announce.waiting.dropLast.Sublist s.announce.waiting := List.dropLast_sublist _
  have shorter : s.announce.waiting.dropLast.length < s.announce.waiting.length := by
    have := List.length_pos_of_ne_nil some
    rw [List.length_dropLast]
    omega
  rw [setWaiting, notify_setAnnounce]
  refine (notify_moves s n).trans (.of (.announce ?_))
  rw [notify_announce]
  refine .insert rfl sub (.inr shorter) fun x mem same => new ?_
  exact List.any_eq_true.2 ⟨x, sub.subset mem, by simp [alike, same]⟩

theorem announceRequest_moves (r : AnnRequest) : Moves s (announceRequest r s) := by
  unfold announceRequest
  split
  · refine .of (.announce (.widen fun e => ?_))
    split <;> exact ⟨rfl, rfl, rfl⟩
  · next new =>
    split
    · next room => exact (insertRequest_moves s room new).trans (afterInsertion_moves _)
    · split
      · next last =>
        have some : s.announce.waiting ≠ [] := fun none => by simp [none] at last
        exact .ite ((displace_moves s _ some new).trans (afterInsertion_moves _)) (notify_moves s _)
      · exact notify_moves s _

theorem announceAll_moves (rs : List AnnRequest) : Moves s (announceAll rs s) := by
  induction rs generalizing s with
  | nil => exact .refl
  | cons r rs ih => exact (announceRequest_moves s r).trans (ih _)

theorem chimeEnded_moves : Moves s (chimeEnded s) := by
  unfold chimeEnded
  split
  · exact .refl
  · next path =>
    split
    · exact enterStartingClip_moves s path (.refl _)
    · exact (Moves.of (t := setPath none s) (.announce .free)).trans (afterEnding_moves _)
    · exact .refl

theorem blockKept_moves (ticket : Nat) : Moves s (blockKept ticket s) := by
  unfold blockKept
  split
  · exact .refl
  · next e path =>
    exact .ite ((Moves.of (.announce (.phase (f := { e with state := .playing }) path ⟨rfl, rfl, rfl⟩))).trans
      (.of (.announce (.clock s.announce.tickets none _)))) .refl

theorem endReported_moves (ticket : Nat) : Moves s (endReported ticket s) := by
  unfold endReported
  split
  · exact .refl
  · exact .ite (((removePath_moves s).trans (notify_moves _ _)).trans (afterEnding_moves _)) .refl

theorem startTimedOut_moves : Moves s (startTimedOut s) := by
  unfold startTimedOut
  split
  · exact .refl
  · exact .ite (((removePath_moves s).trans (notify_moves _ _)).trans (afterEnding_moves _)) .refl

theorem durationRanOut_moves : Moves s (durationRanOut s) := by
  unfold durationRanOut
  split
  · exact .refl
  · exact .ite ((((removePath_moves s).trans (notify_moves _ _)).trans (notify_moves _ _)).trans
      (afterEnding_moves _)) .refl

theorem cancelPath_moves (e : Entry) : Moves s (cancelPath e s) := by
  have stopped : Moves s (removePath (if e.state = .startingChime || e.state = .chimeOnly then stopChime s else s)) :=
    (Moves.ite (stopChime_moves s) .refl).trans (removePath_moves _)
  exact (stopped.trans (.ite .refl (notify_moves _ _))).trans (afterEnding_moves _)

theorem cancelTicket_moves (ticket : Nat) : Moves s (cancelTicket ticket s).1 := by
  unfold cancelTicket
  split
  · split
    · exact cancelPath_moves s _
    · exact .refl
  · exact .refl

theorem cancelClass_moves (c : AnnClass) : Moves s (cancelClass c s).1 := by
  have kept : Moves s (setWaiting (s.announce.waiting.filter fun e => !decide (e.cls = c)) s) :=
    .of (.announce (.fewer List.filter_sublist))
  unfold cancelClass
  dsimp only
  split
  · split
    · exact kept.trans (cancelPath_moves _ _)
    · exact kept
  · exact kept

theorem announceLinkLoss_moves : Moves s (announceLinkLoss s).1 := by
  unfold announceLinkLoss
  split
  · exact .refl
  · next e path =>
    split
    · exact .refl
    · exact .refl
    · have stopped : Moves s (stopTimers (if e.state = .startingChime then stopChime s else s)) :=
        (Moves.ite (stopChime_moves s) .refl).trans (stopTimers_moves _)
      have held : (stopTimers (if e.state = .startingChime then stopChime s else s)).announce.path = some e := by
        split
        · exact (congrArg Announcer.path (stopChime_announce s)).trans path
        · exact path
      have failed (n : Notice) := stopped.trans (notify_moves _ n)
      dsimp only
      generalize stopTimers (if e.state = .startingChime then stopChime s else s) = u at stopped held failed ⊢
      split
      · have begun := (failed (.clipFailed (e.ticket.getD 0) e.clip e.cls .link)).trans
          (beginChimeOnly_moves (e := e) (f := e) (by rw [notify_announce]; exact held) (.refl e))
        exact (begun.trans (.ite startStep_moves .refl)).trans (reportAlert_moves _)
      · split
        · exact ((stopped.trans (returnToWaiting_moves held)).trans startStep_moves).trans (reportAlert_moves _)
        · exact (((stopped.trans (.of (t := setPath none _) (.announce .free))).trans (notify_moves _ _)).trans
            startStep_moves).trans (reportAlert_moves _)

end

end Sys2Proof.Machine

namespace Sys2Proof.Machine

/-! ### The route engine -/

section
variable {s : State} {i : Nat}

theorem recordSegment_moves (n : Nat) (s : State) : Moves s (recordSegment n s) := .of (.segment _)

/-- The record of a fired or skipped cue, and the requested stop with it. -/
theorem leave_moves {x : CueState} {q : Option StopRequest} (follows : stopFollows s.route i q) :
    Moves s { s with route := s.route.left i x q } := .of (.route (.leave follows))

/-- A notice between the record of a cue and the end of the requested stop may come after both. -/
theorem clearStop_notify_left (n : Notice) (x : CueState) :
    clearStop (notify n (leaveList i (setCueState i x s))) =
      notify n { s with route := s.route.left i x none } := by
  have route : clearStop (notify n (leaveList i (setCueState i x s))) =
      { notify n (leaveList i (setCueState i x s)) with route := s.route.left i x none } := by
    rw [clearStop, notify_route]
    rfl
  rw [route, ← notify_setRoute]
  rfl

theorem left_notify_moves {x : CueState} (n : Notice) (follows : stopFollows s.route i s.route.requested) :
    Moves s (notify n (leaveList i (setCueState i x s))) :=
  (leave_moves (x := x) follows).trans (notify_moves _ n)

theorem left_cleared_moves {x : CueState} (n : Notice) :
    Moves s (clearStop (notify n (leaveList i (setCueState i x s)))) := by
  rw [clearStop_notify_left]
  exact (leave_moves (q := none) ⟨.inr rfl, fun _ _ _ _ _ => rfl⟩).trans (notify_moves _ n)

/-- A requested stop may stand where the cue is not a STOP-ARRIVAL cue with its number. -/
theorem stopFollows_of_other {r : Route} (other : ∀ z, r.requested = some z → (r.cue i).kind = 2 →
    (r.cue i).stop ≠ z.stop) : stopFollows r i r.requested :=
  ⟨.inl rfl, fun z requested _ kind stop => absurd stop (other z requested kind)⟩

theorem ofCode_eq_stopArrival {n : Nat} : CueKind.ofCode n = some .stopArrival ↔ n = 2 := by
  match n with
  | 0 | 1 | 2 | 3 | 4 | 5 => simp [CueKind.ofCode]
  | n + 6 => simp [CueKind.ofCode]

theorem fireCue_moves (i : Nat) (s : State) : Moves s (fireCue i s) := by
  have notArrival (kind : (s.route.cue i).kind ≠ 2) : stopFollows s.route i s.route.requested :=
    stopFollows_of_other fun _ _ two => absurd two kind
  have fired (kind : (s.route.cue i).kind ≠ 2) (n : Notice) : Moves s (notify n (leaveList i (setCueState i .fired s))) :=
    left_notify_moves n (notArrival kind)
  have kind (k : Option CueKind) (is : CueKind.ofCode (cueAt s i).kind = k) (other : k ≠ some .stopArrival) :
      (s.route.cue i).kind ≠ 2 := fun two => other (is.symm.trans (ofCode_eq_stopArrival.2 two))
  unfold fireCue
  dsimp only
  unfold cueAction
  split
  · next is => exact (fired (kind _ is (by simp)) _).trans (recordSegment_moves _ _)
  · next is => exact (fired (kind _ is (by simp)) _).trans (announceRequest_moves _ _)
  · next is =>
    have reached : Moves s (if stopIs (cueAt s i).stop
          (notify (.cueFired i (cueAt s i).kind (position s)) (leaveList i (setCueState i .fired s))) = true
        then notify (.stopReached (cueAt s i).stop) (clearStop
          (notify (.cueFired i (cueAt s i).kind (position s)) (leaveList i (setCueState i .fired s))))
        else notify (.cueFired i (cueAt s i).kind (position s)) (leaveList i (setCueState i .fired s))) := by
      split
      · exact (left_cleared_moves _).trans (notify_moves _ _)
      · next other =>
        refine left_notify_moves _ (stopFollows_of_other fun z requested _ stop => other (stopIs_iff.2 ?_))
        rw [notify_route]
        exact (congrArg (Option.map StopRequest.stop) requested).trans (congrArg some stop.symm)
    exact .ite reached (reached.trans (announceRequest_moves _ _))
  · next is => exact (fired (kind _ is (by simp)) _).trans (announceRequest_moves _ _)
  · next is => exact (fired (kind _ is (by simp)) _).trans (setCueScene_moves _ _)
  · next is => exact fired (kind _ is (by simp)) _
  · next is => exact fired (kind _ is (by simp)) _

/-- What a skip brings after the record of the cue: its notice, and that of the requested stop where it is the cue's. -/
theorem skipCue_moves (i : Nat) (reason : SkipReason) (s : State) : Moves s (skipCue i reason s) := by
  unfold skipCue
  dsimp only
  split
  · next requested =>
    split
    · exact (left_cleared_moves _).trans (notify_moves _ _)
    · next other =>
      refine left_notify_moves _ ⟨.inl rfl, fun z same at_i _ _ => absurd at_i ?_⟩
      rwa [Option.some.inj (same.symm.trans requested)]
  · next none => exact left_notify_moves _ ⟨.inl rfl, fun z requested => absurd (requested.symm.trans none) nofun⟩

/-- A skip of cue `j` followed by another cue's entry in the open-cue list is that entry, and the notices. -/
theorem skipCue_append_moves {j : Nat} {x : CueState} {rest : List Nat} (armed : (s.route.cue i).state = .armed)
    (used : (s.route.cue i).inUse = true) (opens : x = .pending ∨ x = .deferred)
    (list : s.route.openCues = j :: rest) :
    Moves s { skipCue j .overflow (setCueState i x s) with route :=
      { (skipCue j .overflow (setCueState i x s)).route with
        openCues := (skipCue j .overflow (setCueState i x s)).route.openCues ++ [i] } } := by
  have joined (q : Option StopRequest) (follows : stopFollows (s.route.marked i x) j q) := Moves.of (s := s)
    (.route (.overflow (q := q) armed used opens list follows))
  unfold skipCue
  dsimp only
  split
  · next z requested =>
    split
    · rw [clearStop_notify_left, notify_route, notify_route, ← notify_setRoute, ← notify_setRoute]
      exact ((joined none ⟨.inr rfl, fun _ _ _ _ _ => rfl⟩).trans (notify_moves _ _)).trans (notify_moves _ _)
    · next other =>
      rw [notify_route, ← notify_setRoute]
      refine (joined s.route.requested ⟨.inl rfl, fun y same at_j _ _ => absurd at_j ?_⟩).trans (notify_moves _ _)
      rwa [Option.some.inj (same.symm.trans requested)]
  · next none =>
    rw [notify_route, ← notify_setRoute]
    exact (joined s.route.requested ⟨.inl rfl, fun z requested => absurd (requested.symm.trans none) nofun⟩).trans
      (notify_moves _ _)

/-- An ARMED cue that is crossed joins the open-cue list (R112, R113). -/
theorem joinList_moves {x : CueState} (armed : (s.route.cue i).state = .armed) (used : (s.route.cue i).inUse = true)
    (opens : x = .pending ∨ x = .deferred) : Moves s (joinList i (setCueState i x s)) := by
  unfold joinList
  dsimp only
  split
  · next room => exact .of (.route (.join armed used opens room))
  · next full =>
    split
    · next list => exact skipCue_append_moves armed used opens list
    · next list => exact absurd (show (setCueState i x s).route.openCues.length < 16 by rw [list]; decide) full

theorem evaluatePending_moves (used : Bool) (pending : (s.route.cue i).state = .pending) :
    Moves s (evaluatePending i s used).1 := by
  unfold evaluatePending
  dsimp only
  split
  · split
    · split
      · exact fireCue_moves i s
      · exact .of (.route (.defer pending))
    · exact fireCue_moves i s
  · exact .refl

theorem openPass_moves (l : List Nat) (s : State) (used : Bool) : Moves s (openPass l s used).1 := by
  induction l generalizing s used with
  | nil => exact .refl
  | cons i rest ih =>
    rw [openPass]
    dsimp only
    split
    · exact (skipCue_moves i _ s).trans (ih _ _)
    · split
      · next pending => exact (evaluatePending_moves used pending).trans (ih _ _)
      · exact ih s used

theorem crossArmed_moves (used : Bool) (armed : (s.route.cue i).state = .armed)
    (inUse : (s.route.cue i).inUse = true) : Moves s (crossArmed i s used).1 := by
  unfold crossArmed
  dsimp only
  split
  · split
    · split
      · exact fireCue_moves i s
      · split
        · exact skipCue_moves i _ s
        · exact joinList_moves armed inUse (.inr rfl)
    · exact fireCue_moves i s
  · split
    · exact skipCue_moves i _ s
    · exact joinList_moves armed inUse (.inl rfl)

theorem setCursor_moves (n : Nat) (s : State) : Moves s (setCursor n s) := .of (.route (.travel _ n))

theorem crossing_moves (fuel : Nat) (s : State) (used : Bool) : Moves s (crossing fuel s used) := by
  induction fuel generalizing s used with
  | zero => exact .refl
  | succ n ih =>
    rw [crossing]
    dsimp only
    split
    · exact .refl
    · split
      · exact (setCursor_moves _ s).trans (ih _ _)
      · next inUse =>
        split
        · exact .refl
        · split
          · next armed =>
            have here : Moves (setCursor (s.route.cursor + 1) s)
                (crossArmed s.route.cursor (setCursor (s.route.cursor + 1) s) used).1 :=
              crossArmed_moves used armed (by simpa [Route.cue, setCursor, cueAt] using inUse)
            exact ((setCursor_moves _ s).trans here).trans (ih _ _)
          · exact (setCursor_moves _ s).trans (ih _ _)

theorem positionStep_moves (s : State) : Moves s (positionStep s) :=
  (openPass_moves _ s false).trans (crossing_moves _ _ _)

theorem resultPass_moves (c : Nat) (l : List Nat) (s : State) (used : Bool) : Moves s (resultPass c l s used) := by
  induction l generalizing s used with
  | nil => exact .refl
  | cons i rest ih =>
    rw [resultPass]
    dsimp only
    split
    · next pending =>
      have state := of_decide_eq_true (Bool.and_eq_true_iff.1 pending).1
      exact (evaluatePending_moves used state).trans (ih _ _)
    · exact ih s used

theorem resultReport_moves (c : Nat) (s : State) : Moves s (resultReport c s) := .ite (resultPass_moves c _ s _) .refl

theorem retryPass_moves (l : List Nat) (s : State) : Moves s (retryPass l s) := by
  induction l with
  | nil => exact .refl
  | cons i rest ih => exact .ite (fireCue_moves i s) ih

theorem retry_moves (s : State) : Moves s (retry s) := .ite (retryPass_moves _ s) .refl

theorem setDistance_moves (d : BitVec 40) (s : State) : Moves s (setDistance d s) :=
  .of (.route (.travel d s.route.cursor))

theorem backward_moves (m : Nat) (s : State) : Moves s (backward m s) := .of (.route (.backward m _))

theorem fixPosition_moves (m : Nat) (s : State) : Moves s (fixPosition m s) := by
  have set := setDistance_moves (metres m) s
  unfold fixPosition
  exact .ite (set.trans (backward_moves m _)) (.ite set (.ite (set.trans (positionStep_moves _)) set))

theorem routeEdge_moves (s : State) : Moves s (routeEdge s) := by
  have set (d : BitVec 40) := setDistance_moves d s
  unfold routeEdge
  exact .ite .refl (.ite (((set _).trans (notify_moves _ _)).trans (backward_moves _ _))
    (.ite ((set _).trans (positionStep_moves _)) (set _)))

theorem routeWake_slots (x : Line) : (routeWake x).slots = x.slots := by
  unfold routeWake
  split <;> rfl

theorem slotsFrom_map {old : List Line} {f : Line → Line} (keeps : ∀ x, (f x).slots = x.slots) :
    slotsFrom old (old.map f) := by
  intro y mem
  obtain ⟨x, from_old, rfl⟩ := List.mem_map.1 mem
  exact .inl ⟨x, from_old, keeps x⟩

theorem wakeLines_moves (s : State) : Moves s (wakeLines s) := .of (.lines (slotsFrom_map routeWake_slots))

/-- A route that begins or stops has no requested stop; the notice of the one it had comes after (R105, R107). -/
theorem routeClearsStop_moves {t : State} (cleared : Moves s { t with route := { t.route with requested := none } }) :
    Moves s (routeClearsStop t) := by
  unfold routeClearsStop
  split
  · exact cleared.trans (notify_moves _ _)
  · next noStop =>
    have same : { t with route := { t.route with requested := none } } = t := by rw [← noStop]
    rwa [same] at cleared

/-- The state of a route is set after the requested stop has gone: the two commute. -/
theorem routeClearsStop_run (t : State) (x : RouteState) :
    { routeClearsStop t with route := { (routeClearsStop t).route with state := x } } =
      routeClearsStop { t with route := { t.route with state := x } } := by
  unfold routeClearsStop
  dsimp only
  split
  · rw [notify_route, ← notify_setRoute]
    rfl
  · rfl

theorem startRoute_moves (s : State) : Moves s (startRoute s) := by
  unfold startRoute
  dsimp only
  rw [routeClearsStop_run]
  refine ((routeClearsStop_moves ?_).trans (wakeLines_moves _)).trans (positionStep_moves _)
  exact .of (.route .start)

theorem resumeRoute_moves (s : State) : Moves s (resumeRoute s) :=
  (((Moves.of (.route (.run (by decide)))).trans (wakeLines_moves _)).trans (positionStep_moves _)).trans (retry_moves _)

theorem stopRoute_moves (s : State) : Moves s (stopRoute s) := routeClearsStop_moves (.of (.route .stop))

theorem stopTarget_iff {c : Cue} : stopTarget c = true ↔ stopTargets c := by
  cases state : c.state <;> simp [stopTarget, stopTargets, ofCode_eq_stopArrival, state]

/-- What a search from `i` on finds: the entry at a place behind `i`, for which the test holds. -/
theorem findFrom_eq_some {α : Type} {p : α → Bool} {i j : Nat} {l : List α} (found : findFrom p i l = some j) :
    ∃ k x, j = i + k ∧ l[k]? = some x ∧ p x = true := by
  induction l generalizing i with
  | nil => exact nomatch found
  | cons y ys ih =>
    rw [findFrom] at found
    split at found
    · next holds => exact ⟨0, y, (Option.some.inj found).symm, rfl, holds⟩
    · obtain ⟨k, x, rfl, entry, holds⟩ := ih found
      exact ⟨k + 1, x, by omega, entry, holds⟩

theorem stopPress_moves (l b : Nat) (s : State) : Moves s (stopPress l b s) := by
  unfold stopPress
  split
  · exact .refl
  · next moving =>
    split
    · exact .refl
    · next i found =>
      obtain ⟨k, c, rfl, entry, target⟩ := findFrom_eq_some found
      have targets : stopTargets (s.route.cue (0 + k)) := by
        rw [show s.route.cue (0 + k) = c by simp [Route.cue, entry]]
        exact stopTarget_iff.1 target
      exact (Moves.of (.route (.request (fun stopped => moving (by simp [stopped])) targets))).trans (notify_moves _ _)

/-! ### Segment and live control, the playout buffer, the link -/

theorem dropLive_moves (s : State) : Moves s (dropLive s) := (Moves.of (.segment _)).trans (notify_moves _ _)

/-- What falls between the end of live and its retry is a run of moves too. -/
theorem endLiveAround_moves {between : State → State} (moves : ∀ u, Moves u (between u)) (s : State) :
    Moves s (endLiveAround between s) := by
  unfold endLiveAround
  split
  · exact moves s
  · exact ((dropLive_moves s).trans (moves _)).trans (retry_moves _)

theorem endLive_moves (s : State) : Moves s (endLive s) := endLiveAround_moves (fun _ => .refl) s

theorem askLive_moves (mask : LanguageMask) (s : State) : Moves s (askLive mask s).1 := by
  unfold askLive
  dsimp only
  split
  · exact .of (.segment _)
  · split
    · exact .of (.segment _)
    · exact grantLive_moves s _

/-- The segment indicator copy and the retry it may bring, after a change of the buffer (R14). -/
theorem setSegmentCopy_moves {n : Nat} {s t : State}
    (moved : Moves s { t with playout := { t.playout with segmentCopy := n } }) : Moves s (setSegmentCopy n t) :=
  .ite (moved.trans (retry_moves _)) moved

theorem handOver_moves (s : State) : Moves s (handOver s).2 := by
  unfold handOver
  split
  · exact .refl
  · split
    · exact .of (.playout id)
    · next queue =>
      refine setSegmentCopy_moves (.of (.playout fun bound => ?_))
      rw [queue] at bound
      exact Nat.le_of_succ_le bound

theorem playoutLinkLoss_moves (s : State) : Moves s (playoutLinkLoss s) :=
  setSegmentCopy_moves (.of (.playout fun _ => Nat.zero_le 4))

theorem reportKept_moves (kept : List KeptBlock) (s : State) : Moves s (reportKept kept s) := by
  induction kept generalizing s with
  | nil => exact .refl
  | cons k ks ih =>
    unfold reportKept
    split
    · exact (blockKept_moves s _).trans (ih _)
    · exact ih s

theorem enqueue_length_le {f : QueuedFrame} {queue : List QueuedFrame} (bound : queue.length ≤ 4) :
    (enqueue f queue).length ≤ 4 := by
  unfold enqueue
  split
  · next room => simpa using Nat.succ_le_of_lt (show queue.length < 4 from room)
  · simp only [List.length_append, List.length_tail, List.length_singleton]
    omega

theorem takeAudio_moves (f : AudioFrame) (s : State) : Moves s (takeAudio f s) :=
  .ite ((Moves.of (.playout fun bound => enqueue_length_le bound)).trans (reportKept_moves _ _)) .refl

theorem storeBytes_moves (ended : List (List Byte)) (bytes : List Byte) (s : State) :
    Moves s (storeBytes ended bytes s) := .of (.link _)

theorem holdBytes_moves (bytes : List Byte) (s : State) : Moves s (holdBytes bytes s) := by
  unfold holdBytes
  split <;> exact storeBytes_moves _ _ s

theorem validFrame_moves (s : State) : Moves s (validFrame s) := by
  have up : Moves s { s with link := { s.link with state := .up, supervision := some Config.supervisionTime } } :=
    .of (.link _)
  unfold validFrame
  dsimp only
  split
  · exact up
  · exact (up.trans (retry_moves _)).trans (afterArrival_moves _)
  · exact ((up.trans (notify_moves _ _)).trans (retry_moves _)).trans (afterArrival_moves _)

theorem loseLink_moves (liveFirst : Bool) (s : State) : Moves s (loseLink liveFirst s) := by
  have lost : Moves s (playoutLinkLoss { s with link := { s.link with state := .lost, supervision := none } }) :=
    (Moves.of (.link _)).trans (playoutLinkLoss_moves _)
  have dealt {u : State} (moved : Moves s u) : Moves s
      (if (announceLinkLoss u).2 then reportIfFree (announceLinkLoss u).1 else (announceLinkLoss u).1) :=
    .ite ((moved.trans (announceLinkLoss_moves u)).trans (reportIfFree_moves _))
      (moved.trans (announceLinkLoss_moves u))
  have emptied (u : State) : Moves u { u with manage := { u.manage with requests := [] } } :=
    .of (.manage (Nat.zero_le _) le_rfl le_rfl)
  cases liveFirst with
  | false => exact ((dealt lost).trans (endLive_moves _)).trans (emptied _)
  | true => exact (dealt (lost.trans (endLive_moves _))).trans (emptied _)

end

end Sys2Proof.Machine

namespace Sys2Proof.Machine

/-! ### The seat lines -/

section
variable {s : State}

theorem slotsFrom_modify {old : List Line} {l : Nat} {f : Line → Line}
    (keeps : ∀ x, (f x).slots = x.slots ∨ (f x).slots = silentSlots) : slotsFrom old (old.modify l f) := by
  intro y mem
  obtain ⟨i, entry⟩ := List.mem_iff_getElem?.1 mem
  rw [List.getElem?_modify, Option.map_eq_map, Option.map_eq_some_iff] at entry
  obtain ⟨x, from_old, rfl⟩ := entry
  split
  · rcases keeps x with same | silent
    · exact .inl ⟨x, List.mem_of_getElem? from_old, same⟩
    · refine .inr fun slot inSlots v inSlot => ?_
      rw [silent] at inSlots
      rw [List.eq_of_mem_replicate inSlots] at inSlot
      rw [List.eq_of_mem_replicate inSlot]
      exact ⟨by decide, by decide⟩
  · exact .inl ⟨x, List.mem_of_getElem? from_old, rfl⟩

theorem setLine_moves {l : Nat} {f : Line → Line} (keeps : ∀ x, (f x).slots = x.slots ∨ (f x).slots = silentSlots)
    (s : State) : Moves s (setLine l f s) := .of (.lines (slotsFrom_modify keeps))

/-- An update of a line that leaves its slots alone, which most do by definition. -/
theorem setLine_keeps (l : Nat) (f : Line → Line) (s : State)
    (keeps : ∀ x, (f x).slots = x.slots := by exact fun _ => rfl) : Moves s (setLine l f s) :=
  setLine_moves (fun x => .inl (keeps x)) s

theorem setBox_moves (l b : Nat) (f : Box → Box) (s : State) : Moves s (setBox l b f s) := setLine_keeps l _ s

theorem beginTransaction_moves (l b : Nat) (k : TxKind) (x : BoxState) (s : State) :
    Moves s (beginTransaction l b k x s) := by
  have set (tx : Transaction) : Moves s (setLine l (fun y => { y with transaction := some tx }) s) :=
    setLine_keeps l _ s
  unfold beginTransaction
  dsimp only
  split
  · exact (set _).trans (setBox_moves _ _ _ _)
  · exact set _

theorem endRound_moves (l : Nat) (s : State) : Moves s (endRound l s) :=
  setLine_keeps l _ s fun x => by split <;> rfl

theorem servePoll_moves (l b n : Nat) (s : State) : Moves s (servePoll l b n s) := by
  induction n generalizing b s with
  | zero => exact endRound_moves l s
  | succ n ih =>
    rw [servePoll]
    split
    · exact (setLine_keeps l _ s).trans (beginTransaction_moves _ _ _ _ _)
    · exact (setBox_moves _ _ _ s).trans (ih _ _)

theorem endTurn_moves (l b : Nat) (s : State) : Moves s (endTurn l b s) := by
  have polled := setBox_moves l b (fun x => { x with rounds := 0 }) s
  exact .ite (polled.trans (setLine_moves (fun _ => .inr rfl) _))
    ((polled.trans (setLine_keeps l (fun x => { x with transaction := none }) _)).trans (servePoll_moves _ _ _ _))

theorem setBoxState_moves (l b : Nat) (x : BoxState) (n : Nat) (s : State) : Moves s (setBoxState l b x n s) :=
  .ite (setBox_moves _ _ _ s) ((setBox_moves _ _ _ s).trans (notify_moves _ _))

theorem boxFailure_moves (l b : Nat) (s : State) : Moves s (boxFailure l b s) := by
  unfold boxFailure
  dsimp only
  split
  · exact .refl
  · exact setBoxState_moves l b _ _ s

theorem boxSuccess_moves (l b : Nat) (s : State) : Moves s (boxSuccess l b s) := by
  unfold boxSuccess
  dsimp only
  split
  · exact .refl
  · exact setBoxState_moves l b _ _ s
  · exact setBoxState_moves l b _ _ s
  · exact setBoxState_moves l b _ _ s

theorem countFailure_slots (f : LineFailure) (x : Line) : (countFailure f x).slots = x.slots := by
  cases f <;> rfl

theorem failTransaction_moves (l : Nat) (tx : Transaction) (f : LineFailure) (s : State) :
    Moves s (failTransaction l tx f s) := by
  have counted : Moves s (if isCounted tx.kind f then setLine l (countFailure f) s else s) :=
    .ite (setLine_keeps l _ s (countFailure_slots f)) .refl
  unfold failTransaction
  dsimp only
  split
  · exact counted
  · exact counted.trans (boxFailure_moves _ _ _)
  · exact (counted.trans (.ite (setBox_moves _ _ _ _) .refl)).trans (boxFailure_moves _ _ _)

theorem takeStop_moves (l b : Nat) (base : Bool) (n : BitVec 4) (s : State) : Moves s (takeStop l b base n s) := by
  have set := setBox_moves l b (fun x => { x with lastStop := n }) s
  exact .ite set ((set.trans (stopPress_moves _ _ _)).trans (requestBeep_moves _ _ _))

theorem takeBoxFault_moves (l b : Nat) (v : Bool) (s : State) : Moves s (takeBoxFault l b v s) :=
  .ite .refl ((setBox_moves _ _ _ s).trans (notify_moves _ _))

theorem afterStatus_moves (l : Nat) (tx : Transaction) (ok : Bool) (s : State) : Moves s (afterStatus l tx ok s) :=
  .ite (beginTransaction_moves _ _ _ _ s) (endTurn_moves _ _ s)

theorem failStatus_moves (l : Nat) (tx : Transaction) (f : LineFailure) (s : State) : Moves s (failStatus l tx f s) :=
  (failTransaction_moves l tx f s).trans (afterStatus_moves _ _ _ _)

theorem failAndGoOn_moves (l : Nat) (tx : Transaction) (f : LineFailure) (s : State) :
    Moves s (failAndGoOn l tx f s) := by
  unfold failAndGoOn
  split
  · exact failStatus_moves l tx f s
  · exact (failTransaction_moves l tx f s).trans (endTurn_moves _ _ _)

theorem echoFailure_moves (l : Nat) (s : State) : Moves s (echoFailure l s) := by
  unfold echoFailure
  split
  · exact .refl
  · exact failAndGoOn_moves l _ _ s

theorem pairLow_moves (l : Nat) (sending : Bool) (s : State) : Moves s (pairLow l sending s) := by
  unfold pairLow
  split
  · exact setLine_keeps l _ s
  · exact .ite (echoFailure_moves l s) (setLine_keeps l _ s)

theorem quietExpiry_slots (route : RouteState) (x : Line) :
    (quietExpiry x route).slots = x.slots ∨ (quietExpiry x route).slots = silentSlots := by
  unfold quietExpiry
  split
  · split
    · exact .inl rfl
    · split
      · exact .inr rfl
      · exact .inl rfl
  · exact .inl rfl

theorem showLines_slots (t : State) (l : Nat) (old : List Line) : slotsFrom old (showLines t l old) := by
  induction old generalizing l with
  | nil => exact fun _ mem => nomatch mem
  | cons x xs ih =>
    intro y mem
    rcases List.mem_cons.1 mem with rfl | mem
    · exact .inl ⟨x, List.mem_cons_self, rfl⟩
    · exact (ih _ y mem).imp_left fun ⟨z, inside, same⟩ => ⟨z, List.mem_cons_of_mem _ inside, same⟩

theorem updateDisplays_moves (s : State) : Moves s (updateDisplays s) := .of (.lines (showLines_slots s 0 _))

theorem takeLineWrite_slots (w : LineWrite) (x : Line) : (takeLineWrite w x).slots = x.slots := by
  unfold takeLineWrite
  dsimp only
  split
  · rfl
  · split
    · rfl
    · split <;> rfl

theorem applyLineRecords_moves (l : Nat) (ws : List LineWrite) (s : State) : Moves s (applyLineRecords l ws s) := by
  induction ws generalizing l s with
  | nil => exact .refl
  | cons w ws ih => exact (setLine_keeps l _ s (takeLineWrite_slots w)).trans (ih _ _)

theorem applyLineHeld_moves (held : List (Nat × List LineWrite)) (s : State) : Moves s (applyLineHeld held s) := by
  induction held generalizing s with
  | nil => exact .refl
  | cons w rest ih => exact (applyLineRecords_moves _ _ s).trans (ih _)

theorem slotsFrom_refl (old : List Line) : slotsFrom old old := fun y mem => .inl ⟨y, mem, rfl⟩

theorem lineFrameWork_moves (s : State) : Moves s (lineFrameWork s) :=
  (Moves.of (.lines (x := { s.lines with held := [] }) (slotsFrom_refl _))).trans (applyLineHeld_moves _ _)

/-! ### The seats -/

/-- A language is on offer: an enabled entry of the map, or NONE while no entry is enabled (R24). -/
def offered (map : List LangEntry) (language : Option Nat) : Prop :=
  match language with
  | some i => languageEnabled map i = true
  | none => ∀ e ∈ map, e.enabled = false

theorem seatOnOffer_iff {map : List LangEntry} {x : Seat} :
    seatOnOffer map x ↔ x.volume ≤ 15 ∧ offered map x.language := by
  cases language : x.language <;> simp [seatOnOffer, offered, language]

/-- Writing one seat keeps every seat on offer where it keeps that one. -/
theorem setSeat_moves {n : Nat} {f : Seat → Seat} {s : State} (keeps : seatsOnOffer s → ∀ x, s.seats.seats[n]? = some x →
    seatOnOffer s.seats.map x → seatOnOffer s.seats.map (f x)) : Moves s (setSeat n f s) := by
  refine .of (.seats fun ok => ?_)
  obtain ⟨size, onOffer, rest⟩ := ok
  refine ⟨(List.length_modify ..).trans size, fun y mem => ?_, rest⟩
  obtain ⟨i, entry⟩ := List.mem_iff_getElem?.1 mem
  rw [List.getElem?_modify, Option.map_eq_map, Option.map_eq_some_iff] at entry
  obtain ⟨x, old, rfl⟩ := entry
  have was := onOffer x (List.mem_of_getElem? old)
  split
  · next same => exact keeps ⟨size, onOffer, rest⟩ x (same ▸ old) was
  · exact was

theorem setLanguage_moves {n : Nat} {language : Option Nat} {s : State}
    (ok : seatsOnOffer s → ∀ x, s.seats.seats[n]? = some x → offered s.seats.map language) :
    Moves s (setLanguage n language s) := by
  refine .ite .refl ((setSeat_moves fun all x entry was => ?_).trans (setBox_moves _ _ _ _))
  exact seatOnOffer_iff.2 ⟨(seatOnOffer_iff.1 was).1, ok all x entry⟩

theorem setVolume_moves {n v : Nat} {s : State} (ok : seatsOnOffer s → v ≤ 15) : Moves s (setVolume n v s) := by
  refine .ite .refl ((setSeat_moves fun all x entry was => ?_).trans (setBox_moves _ _ _ _))
  exact seatOnOffer_iff.2 ⟨ok all, (seatOnOffer_iff.1 was).2⟩

theorem takeJack_moves (n : Nat) (j : Bool) (s : State) : Moves s (takeJack n j s) := by
  have set : Moves s (setSeat n (fun x => { x with jack := j }) s) := setSeat_moves fun _ _ _ was => was
  exact .ite (set.trans (setVolume_moves fun ok => ok.2.2.2.1)) set

/-- The indices of a list's entries that pass a test. -/
theorem mem_indicesFrom {α : Type} {p : α → Bool} {i j : Nat} {l : List α} :
    j ∈ indicesFrom p i l ↔ ∃ k x, j = i + k ∧ l[k]? = some x ∧ p x = true := by
  induction l generalizing i with
  | nil => simp [indicesFrom]
  | cons y ys ih =>
    have split_zero : (∃ k x, j = i + k ∧ (y :: ys)[k]? = some x ∧ p x = true) ↔
        (j = i ∧ p y = true) ∨ ∃ k x, j = i + 1 + k ∧ ys[k]? = some x ∧ p x = true := by
      constructor
      · rintro ⟨k, x, rfl, entry, holds⟩
        cases k with
        | zero =>
          obtain rfl : y = x := by simpa using entry
          exact .inl ⟨rfl, holds⟩
        | succ k => exact .inr ⟨k, x, by omega, by simpa using entry, holds⟩
      · rintro (⟨rfl, holds⟩ | ⟨k, x, rfl, entry, holds⟩)
        · exact ⟨0, y, rfl, rfl, holds⟩
        · exact ⟨k + 1, x, by omega, by simpa using entry, holds⟩
    rw [split_zero, ← ih, indicesFrom]
    split
    · next holds => simp [holds]
    · next fails => simp [fails]

theorem languageEnabled_iff {map : List LangEntry} {i : Nat} :
    languageEnabled map i = true ↔ ∃ e, map[i]? = some e ∧ e.enabled = true := by
  cases entry : map[i]? <;> simp [languageEnabled, entry]

/-- A language delta stays among the languages on offer (R28). -/
theorem stepLanguage_offered {map : List LangEntry} {language : Option Nat} (delta : Nat)
    (ok : offered map language) : offered map (stepLanguage map delta language) := by
  unfold stepLanguage
  split
  · exact ok
  · dsimp only
    split
    · next place found =>
      obtain ⟨k, j, rfl, entry, _⟩ := findFrom_eq_some found
      have nonempty : 0 < (indicesFrom LangEntry.enabled 0 map).length :=
        Nat.zero_lt_of_lt (List.getElem?_eq_some_iff.1 entry).1
      have inside := Nat.mod_lt (0 + k + delta) nonempty
      rw [List.getElem?_eq_getElem inside]
      obtain ⟨m, e, at_m, entry, enabled⟩ := mem_indicesFrom.1 (List.getElem_mem inside)
      exact languageEnabled_iff.2 ⟨e, by rw [at_m, Nat.zero_add]; exact entry, enabled⟩
    · exact ok

theorem seatAt_of_getElem? {n : Nat} {x : Seat} (entry : s.seats.seats[n]? = some x) : seatAt s n = x := by
  simp [seatAt, entry]

/-- A seat's volume step is in range, also that of a seat outside the table. -/
theorem seatAt_volume_le (n : Nat) (ok : seatsOnOffer s) : (seatAt s n).volume ≤ 15 := by
  cases entry : s.seats.seats[n]? with
  | none => simp [seatAt, entry, seatReset]
  | some x =>
    rw [seatAt_of_getElem? entry]
    exact (ok.2.1 x (List.mem_of_getElem? entry)).1

theorem deliverSide_moves (base : Bool) (n : Nat) (side : SideStatus) (s : State) :
    Moves s (deliverSide base n side s) := by
  refine .ite ?_ .refl
  have counts : Moves s (setSeat n (fun y => { y with
      lastLanguage := side.language, lastUp := side.up, lastDown := side.down }) s) :=
    setSeat_moves fun _ _ _ was => was
  have up (u : State) (n by_ : Nat) : Moves u (setVolume n (afterUp (seatAt u n).volume by_) u) :=
    setVolume_moves fun _ => Nat.min_le_right _ _
  have down (u : State) (n by_ : Nat) : Moves u (setVolume n ((seatAt u n).volume - by_) u) :=
    setVolume_moves fun ok => (Nat.sub_le _ _).trans (seatAt_volume_le n ok)
  refine (((counts.trans (takeJack_moves n side.jack _)).trans (up _ n _)).trans (down _ n _)).trans
    (setLanguage_moves fun ok x entry => stepLanguage_offered _ ?_)
  rw [seatAt_of_getElem? entry]
  exact (seatOnOffer_iff.1 (ok.2.1 x (List.mem_of_getElem? entry))).2

theorem deliverStatus_moves (l b : Nat) (base : Bool) (a : StatusAnswer) (s : State) :
    Moves s (deliverStatus l b base a s) := (deliverSide_moves _ _ _ s).trans (deliverSide_moves _ _ _ _)

theorem actOnStatus_moves (l b : Nat) (a : StatusAnswer) (s : State) : Moves s (actOnStatus l b a s) := by
  have delivered := ((boxSuccess_moves l b s).trans
    (deliverStatus_moves l b (boxAt (boxSuccess l b s) l b).baselinePending a _)).trans
      (setBox_moves l b (fun x => { x with baselinePending := false }) _)
  have quiet (u : State) : Moves u (if headsetIn l b a u then setLine l quietRestart u else u) :=
    .ite (setLine_keeps l quietRestart u) .refl
  exact ((delivered.trans (quiet _)).trans (takeStop_moves _ _ _ _ _)).trans (takeBoxFault_moves _ _ _ _)

theorem fitSeats_moves (l b n : Nat) (s : State) : Moves s (fitSeats l b n s) := by
  have fit (side : Nat) (fitted : Bool) (u : State) :
      Moves u (setSeat (seatNumber l b side) (fun x => { x with fitted := fitted }) u) :=
    setSeat_moves fun _ _ _ was => was
  exact (fit 0 true s).trans (fit 1 _ _)

theorem activateBox_moves (l b : Nat) (d : List Byte) (s : State) : Moves s (activateBox l b d s) :=
  ((setBox_moves _ _ _ s).trans (setBoxState_moves _ _ _ _ _)).trans (fitSeats_moves _ _ _ _)

end

end Sys2Proof.Machine

namespace Sys2Proof.Machine

/-! ### The sense unit -/

section
variable {s : State}

theorem setScan_moves (x : Scan) (s : State) : Moves s (setScan x s) := .of (.sense _)

theorem beginConversion_moves (c : SenseChan) (s : State) : Moves s (beginConversion c s) := by
  unfold beginConversion
  split
  · exact setScan_moves _ s
  · exact .refl

theorem beginLowest_moves (s : State) : Moves s (beginLowest s) := by
  unfold beginLowest
  split
  · exact beginConversion_moves _ s
  · exact setScan_moves _ s

theorem chooseNext_moves (c : SenseChan) (s : State) : Moves s (chooseNext c s) := by
  unfold chooseNext
  split
  · exact beginConversion_moves _ s
  · split
    · exact setScan_moves _ s
    · exact beginLowest_moves s

theorem startSense_moves (m : ScanMode) (d : Nat) (s : State) : Moves s (startSense m d s) := by
  have set : Moves s { s with sense := { s.sense with mode := m } } := .of (.sense _)
  exact .ite (set.trans (beginLowest_moves _)) (set.trans (setScan_moves _ _))

theorem reformSelection_moves (s : State) : Moves s (reformSelection s) :=
  .ite .refl ((Moves.of (.sense _)).trans (setBaseScene_moves _ _))

theorem clearLimit_moves (i : Nat) (s : State) : Moves s (clearLimit i s) := by
  unfold clearLimit
  split
  · exact .refl
  · exact .ite (((Moves.of (.sense _)).trans (notify_moves _ _)).trans (reformSelection_moves _)) .refl

theorem tripLimit_moves (i v : Nat) (s : State) : Moves s (tripLimit i v s) :=
  ((Moves.of (.sense _)).trans (notify_moves _ _)).trans (reformSelection_moves _)

theorem evaluateLimit_moves (d : Bool) (i v : Nat) (s : State) : Moves s (evaluateLimit d i v s).1 := by
  unfold evaluateLimit
  split
  · exact .refl
  · dsimp only
    split
    · split
      · exact tripLimit_moves i v s
      · exact (tripLimit_moves i v s).trans (announceAll_moves _ _)
    · split
      · exact clearLimit_moves i s
      · exact .refl

theorem evaluateLimits_moves (d : Bool) (c : Nat) (completed : Bool) (r : ResultRec) (l : List Nat)
    (s : State) (kept : List AnnRequest) : Moves s (evaluateLimits d c completed r l s kept).1 := by
  induction l generalizing s kept with
  | nil => exact .refl
  | cons i rest ih =>
    rw [evaluateLimits]
    split
    · exact ih s kept
    · exact (evaluateLimit_moves d i _ s).trans (ih _ _)

theorem noiseReport_moves (c : Nat) (valid : Bool) (v : Nat) (s : State) : Moves s (noiseReport c valid v s) := by
  refine .ite (.of (.zones ?_)) .refl
  rw [List.map_map]
  refine List.map_congr_left fun z _ => ?_
  unfold retarget
  dsimp only [Function.comp]
  split <;> rfl

theorem noteReference_moves (k : Conversion) (x : RefRecord) (s : State) : Moves s (noteReference k x s) := by
  refine .ite ?_ .refl
  unfold setReference
  split <;> exact .of (.sense _)

theorem takeResult_moves (c : SenseChan) (o : Outcome) (f : Bool) (s : State) : Moves s (takeResult c o f s) := by
  unfold takeResult
  dsimp only
  generalize storeResult _ o (resultRecord s (chanNumber c)) = stored
  have set : Moves s (setResult (chanNumber c) (fun _ => stored.1) s) := .of (.sense _)
  have limits := set.trans (evaluateLimits_moves f (chanNumber c) stored.2 stored.1 (List.range 8) _ [])
  generalize evaluateLimits f (chanNumber c) stored.2 stored.1 (List.range 8) _ [] = evaluated at limits ⊢
  have acted := (limits.trans (resultReport_moves (chanNumber c) _)).trans (announceAll_moves _ evaluated.2)
  exact .ite (acted.trans (noiseReport_moves _ _ _ _)) acted

theorem endConversion_moves (c : SenseChan) (o : Outcome) (f : Bool) (s : State) : Moves s (endConversion c o f s) :=
  (takeResult_moves c o f s).trans (chooseNext_moves _ _)

theorem timeOut_moves (k : Conversion) (f : Bool) (s : State) : Moves s (timeOut k f s) :=
  (noteReference_moves k _ s).trans (endConversion_moves _ _ _ _)

theorem closeRefGate_moves (f : Bool) (s : State) : Moves s (closeRefGate f s) := by
  unfold closeRefGate
  split
  · exact .ite ((noteReference_moves _ _ s).trans (endConversion_moves _ _ _ _)) .refl
  · exact .refl

theorem closeInputGate_moves (ticks : Nat) (f : Bool) (s : State) : Moves s (closeInputGate ticks f s) := by
  unfold closeInputGate
  split
  · split
    · exact .refl
    · exact .ite (.ite (timeOut_moves _ f s) ((noteReference_moves _ _ s).trans (endConversion_moves _ _ _ _))) .refl
  · exact .refl

theorem reachWaitLimit_moves (f : Bool) (s : State) : Moves s (reachWaitLimit f s) := by
  unfold reachWaitLimit
  split
  · exact .ite (timeOut_moves _ f s) .refl
  · exact .refl

theorem senseEdge_moves (c : SenseChan) (s : State) : Moves s (senseEdge c s) := by
  unfold senseEdge
  split
  · exact .ite (setScan_moves _ s) .refl
  · exact .refl

theorem takeOdometerEdge_moves (counted : Bool) (s : State) : Moves s (takeOdometerEdge counted s) :=
  (Moves.ite (p := counted = true) (senseEdge_moves .odo s) .refl).trans (routeEdge_moves _)

theorem clearResult_moves (n : Nat) (s : State) : Moves s (clearResult n s) := by
  have set : Moves s (setResult n (fun _ => resultCleared) s) := .of (.sense _)
  exact .ite (set.trans (.of (.sense _))) set

theorem channelWritten_moves (n : Nat) (old new : SenseRec) (s : State) : Moves s (channelWritten n old new s) := by
  unfold channelWritten
  split
  · split
    · exact .ite (chooseNext_moves _ s) .refl
    · exact .refl
  · exact .ite (clearResult_moves n s) (.ite (.of (.sense _)) .refl)

theorem channelsWritten_moves (n : Nat) (old new : List SenseRec) (s : State) :
    Moves s (channelsWritten n old new s) := by
  induction old generalizing n new s with
  | nil => exact .refl
  | cons o olds ih =>
    cases new with
    | nil => exact .refl
    | cons x news => exact (channelWritten_moves n o x s).trans (ih _ _ _)

theorem wakeScan_moves (s : State) : Moves s (wakeScan s) := by
  unfold wakeScan
  split
  · split
    · exact beginConversion_moves _ s
    · exact .refl
  · exact .refl

theorem writeChannels_moves (first : Nat) (rs : List SenseRec) (s : State) : Moves s (writeChannels first rs s) :=
  ((Moves.of (.sense _)).trans (channelsWritten_moves _ _ _ _)).trans (wakeScan_moves _)

theorem writeLimits_moves (first : Nat) (rs : List Limit) (s : State) : Moves s (writeLimits first rs s) :=
  ((Moves.of (.sense _)).trans (notifyAll_moves _ _)).trans (reformSelection_moves _)

theorem clearLimits_moves (l : List Nat) (s : State) : Moves s (clearLimits l s) := by
  induction l generalizing s with
  | nil => exact .refl
  | cons i rest ih => exact (clearLimit_moves i s).trans (ih _)

/-! ### The seat record store at a frame start -/

theorem setLanguage_seats (n : Nat) (l : Option Nat) (s : State) : (setLanguage n l s).seats =
    { s.seats with seats := s.seats.seats.modify n fun x => { x with language := l } } := by
  unfold setLanguage
  split
  · next same =>
    have unchanged : s.seats.seats.modify n (fun x => { x with language := l }) = s.seats.seats := by
      refine List.ext_getElem? fun i => ?_
      rw [List.getElem?_modify]
      cases entry : s.seats.seats[i]? with
      | none => rfl
      | some x =>
        by_cases here : n = i
        · subst here
          have language : x.language = l := (congrArg Seat.language (seatAt_of_getElem? entry)).symm.trans same
          simp [← language]
        · simp [here]
    rw [unchanged]
  · rfl

theorem setVolume_seats (n v : Nat) (s : State) : (setVolume n v s).seats =
    { s.seats with seats := s.seats.seats.modify n fun x => { x with volume := v } } := by
  unfold setVolume
  split
  · next same =>
    have unchanged : s.seats.seats.modify n (fun x => { x with volume := v }) = s.seats.seats := by
      refine List.ext_getElem? fun i => ?_
      rw [List.getElem?_modify]
      cases entry : s.seats.seats[i]? with
      | none => rfl
      | some x =>
        by_cases here : n = i
        · subst here
          have volume : x.volume = v := (congrArg Seat.volume (seatAt_of_getElem? entry)).symm.trans same
          simp [← volume]
        · simp [here]
    rw [unchanged]
  · rfl

theorem recordFor_cons {α : Type} (first n : Nat) (w : α) (ws : List α) :
    recordFor first (w :: ws) n = if n = first then some w else recordFor (first + 1) ws n := by
  unfold recordFor
  rcases Nat.lt_trichotomy n first with before | rfl | behind
  · rw [if_neg (by omega), if_neg (by omega), if_neg (by omega)]
  · simp
  · rw [if_pos (by omega), if_neg (by omega), if_pos (by omega),
      show n - first = (n - (first + 1)) + 1 by omega, List.getElem?_cons_succ]

theorem seatWritten_cons (w : HeldSeatWrite) (rest : List HeldSeatWrite) (n : Nat) (x : Seat) :
    seatWritten (w :: rest) n x = seatWritten rest n (seatWritten [w] n x) := rfl

theorem seatWritten_of_record {first n : Nat} {ws : List SeatWrite} {w : SeatWrite} (x : Seat)
    (record : recordFor first ws n = some w) :
    seatWritten [.seat first ws] n x = { x with zone := w.zone, language := w.language, volume := w.volume } := by
  simp [seatWritten, record]

theorem seatWritten_of_no_record {first n : Nat} {ws : List SeatWrite} (x : Seat)
    (record : recordFor first ws n = none) : seatWritten [.seat first ws] n x = x := by
  simp [seatWritten, record]

/-- A SEAT write gives each seat its record (R22, R24). -/
theorem applySeatWrites_seats (first : Nat) (ws : List SeatWrite) (s : State) : (applySeatWrites first ws s).seats =
    { s.seats with seats := s.seats.seats.mapIdx fun n => seatWritten [.seat first ws] n } := by
  induction ws generalizing first s with
  | nil =>
    have unchanged : (s.seats.seats.mapIdx fun n => seatWritten [.seat first []] n) = s.seats.seats := by
      refine List.ext_getElem? fun i => ?_
      rw [List.getElem?_mapIdx]
      cases s.seats.seats[i]? with
      | none => rfl
      | some x => exact congrArg some (seatWritten_of_no_record x (by unfold recordFor; split <;> rfl))
    rw [unchanged]
    rfl
  | cons w ws ih =>
    rw [applySeatWrites, ih, setVolume_seats, setLanguage_seats]
    refine congrArg (fun seats => { s.seats with seats := seats }) (List.ext_getElem? fun i => ?_)
    simp only [setSeat_seats, List.getElem?_mapIdx, List.getElem?_modify]
    cases s.seats.seats[i]? with
    | none => rfl
    | some x =>
      by_cases here : i = first
      · subst here
        simp [seatWritten_of_record x ((recordFor_cons i i w ws).trans (if_pos rfl)),
          seatWritten_of_no_record _ (show recordFor (i + 1) ws i = none from if_neg (by omega))]
      · have record := (recordFor_cons first i w ws).trans (if_neg here)
        cases found : recordFor (first + 1) ws i with
        | none => simp [Ne.symm here, seatWritten_of_no_record x (record.trans found), seatWritten_of_no_record x found]
        | some r => simp [Ne.symm here, seatWritten_of_record x (record.trans found), seatWritten_of_record x found]

/-- The held writes in their order (R24 step 1). -/
theorem applySeatHeld_seats (held : List HeldSeatWrite) (s : State) : (applySeatHeld held s).seats =
    { s.seats with map := mapAfter held s.seats.map, seats := s.seats.seats.mapIdx (seatWritten held) } := by
  induction held generalizing s with
  | nil =>
    have unchanged : s.seats.seats.mapIdx (seatWritten []) = s.seats.seats :=
      List.ext_getElem? fun i => by rw [List.getElem?_mapIdx]; cases s.seats.seats[i]? <;> rfl
    rw [unchanged]
    rfl
  | cons w rest ih =>
    have seats (l : List Seat) : (l.mapIdx (seatWritten [w])).mapIdx (seatWritten rest) =
        l.mapIdx (seatWritten (w :: rest)) := by
      rw [List.mapIdx_mapIdx]
      rfl
    cases w with
    | language first records =>
      have unchanged : s.seats.seats.mapIdx (seatWritten [.language first records]) = s.seats.seats :=
        List.ext_getElem? fun i => by rw [List.getElem?_mapIdx]; cases s.seats.seats[i]? <;> rfl
      rw [applySeatHeld, ih, ← seats, unchanged]
      rfl
    | seat first records =>
      rw [applySeatHeld, ih, applySeatWrites_seats, ← seats]
      rfl

theorem moveSeats_append (a b : List Nat) (s : State) : moveSeats (a ++ b) s = moveSeats b (moveSeats a s) := by
  induction a generalizing s with
  | nil => rfl
  | cons n a ih => exact ih _

/-- A seat moved off a language that is not enabled (R24 step 2). -/
def seatMoved (map : List LangEntry) (x : Seat) : Seat := { x with language := movedLanguage map x.language }

/-- The seats below `k`, moved off languages that are not enabled (R24 step 2). -/
theorem moveSeats_range_seats (k : Nat) (s : State) : (moveSeats (List.range k) s).seats =
    { s.seats with seats := s.seats.seats.mapIdx fun n x =>
        if n < k then seatMoved s.seats.map x else x } := by
  induction k with
  | zero =>
    have unchanged : (s.seats.seats.mapIdx fun n x =>
        if n < 0 then seatMoved s.seats.map x else x) = s.seats.seats :=
      List.ext_getElem? fun i => by rw [List.getElem?_mapIdx]; cases s.seats.seats[i]? <;> simp
    rw [unchanged]
    rfl
  | succ k ih =>
    rw [List.range_succ, moveSeats_append]
    generalize moveSeats (List.range k) s = u at ih ⊢
    rw [moveSeats, moveSeats, setLanguage_seats, ih]
    refine congrArg (fun seats => { s.seats with seats := seats }) (List.ext_getElem? fun i => ?_)
    simp only [List.getElem?_modify, List.getElem?_mapIdx]
    cases entry : s.seats.seats[i]? with
    | none => rfl
    | some x =>
      by_cases here : k = i
      · subst here
        have seat : seatAt u k = x := seatAt_of_getElem? (by
          rw [ih]
          simp only [List.getElem?_mapIdx, entry, Option.map_some, Nat.lt_irrefl, if_false])
        simp [seat, seatMoved]
      · by_cases below : i < k
        · simp [here, below, Nat.lt_succ_of_lt below]
        · simp [here, below, show ¬ i < k + 1 by omega]

/-- Two states that differ in the seats and the lines alone, no sample slot among them. -/
structure SeatFrame (s t : State) : Prop where
  frame : t = { s with seats := t.seats, lines := t.lines }
  slots : slotsFrom s.lines.lines t.lines.lines

namespace SeatFrame

theorem refl (s : State) : SeatFrame s s := ⟨rfl, slotsFrom_refl _⟩

theorem trans {a b c : State} (h : SeatFrame a b) (k : SeatFrame b c) : SeatFrame a c where
  frame := by
    have second := k.frame
    rw [h.frame] at second
    exact second
  slots := by
    intro z mem
    rcases k.slots z mem with ⟨y, middle, same⟩ | ok
    · rcases h.slots y middle with ⟨x, old, first⟩ | ok
      · exact .inl ⟨x, old, same.trans first⟩
      · exact .inr (same ▸ ok)
    · exact .inr ok

theorem setSeat (n : Nat) (f : Seat → Seat) (s : State) : SeatFrame s (setSeat n f s) := ⟨rfl, slotsFrom_refl _⟩

theorem markSeat (n : Nat) (s : State) : SeatFrame s (markSeat n s) := ⟨rfl, slotsFrom_modify fun _ => .inl rfl⟩

end SeatFrame

theorem setLanguage_seatFrame (n : Nat) (l : Option Nat) (s : State) : SeatFrame s (setLanguage n l s) := by
  unfold setLanguage
  split
  · exact .refl s
  · exact (SeatFrame.setSeat _ _ s).trans (.markSeat _ _)

theorem setVolume_seatFrame (n v : Nat) (s : State) : SeatFrame s (setVolume n v s) := by
  unfold setVolume
  split
  · exact .refl s
  · exact (SeatFrame.setSeat _ _ s).trans (.markSeat _ _)

theorem applySeatWrites_seatFrame (n : Nat) (ws : List SeatWrite) (s : State) :
    SeatFrame s (applySeatWrites n ws s) := by
  induction ws generalizing n s with
  | nil => exact .refl s
  | cons w ws ih =>
    exact (((SeatFrame.setSeat _ _ s).trans (setLanguage_seatFrame _ _ _)).trans (setVolume_seatFrame _ _ _)).trans
      (ih _ _)

theorem applySeatHeld_seatFrame (held : List HeldSeatWrite) (s : State) : SeatFrame s (applySeatHeld held s) := by
  induction held generalizing s with
  | nil => exact .refl s
  | cons w rest ih =>
    cases w with
    | language first records =>
      have written : SeatFrame s { s with seats := { s.seats with map := writeAt s.seats.map first records } } :=
        ⟨rfl, slotsFrom_refl _⟩
      exact written.trans (ih _)
    | seat first records => exact (applySeatWrites_seatFrame _ _ s).trans (ih _)

theorem moveSeats_seatFrame (l : List Nat) (s : State) : SeatFrame s (moveSeats l s) := by
  induction l generalizing s with
  | nil => exact .refl s
  | cons n rest ih => exact (setLanguage_seatFrame _ _ s).trans (ih _)

/-- The seat store after the held writes and the moves of a frame start, the LIVE masks apart (R24). -/
theorem seatsMoved_seats (s : State) :
    (moveSeats (List.range 96) (applySeatHeld s.seats.held { s with seats := { s.seats with held := [] } })).seats =
      { map := mapAfter s.seats.held s.seats.map, held := []
        seats := s.seats.seats.mapIdx fun n x =>
          if n < 96 then seatMoved (mapAfter s.seats.held s.seats.map) (seatWritten s.seats.held n x)
          else seatWritten s.seats.held n x } := by
  rw [moveSeats_range_seats, applySeatHeld_seats]
  dsimp only
  rw [List.mapIdx_mapIdx]
  rfl

theorem defaultLanguage_offered (map : List LangEntry) : offered map (defaultLanguage map) := by
  unfold defaultLanguage
  split
  · next i found =>
    obtain ⟨k, e, rfl, entry, both⟩ := findFrom_eq_some found
    exact languageEnabled_iff.2 ⟨e, by rwa [Nat.zero_add], (Bool.and_eq_true_iff.1 both).1⟩
  · next =>
    cases found : findFrom LangEntry.enabled 0 map with
    | some i =>
      obtain ⟨k, e, rfl, entry, enabled⟩ := findFrom_eq_some found
      exact languageEnabled_iff.2 ⟨e, by rwa [Nat.zero_add], enabled⟩
    | none =>
      intro e mem
      obtain ⟨i, entry⟩ := List.mem_iff_getElem?.1 mem
      by_contra enabled
      have some_found : ∀ (l : List LangEntry) (j i : Nat) (e : LangEntry), l[i]? = some e → e.enabled = true →
          findFrom LangEntry.enabled j l ≠ none := by
        intro l
        induction l with
        | nil => exact fun _ _ _ entry => nomatch entry
        | cons x xs ih =>
          intro j i e entry enabled
          rw [findFrom]
          split
          · exact nofun
          · next off =>
            cases i with
            | zero =>
              obtain rfl : x = e := by simpa using entry
              exact absurd enabled off
            | succ i => exact ih _ i e (by simpa using entry) enabled
      exact some_found map 0 i e entry (by simpa using enabled) found

theorem movedLanguage_offered (map : List LangEntry) (l : Option Nat) : offered map (movedLanguage map l) := by
  unfold movedLanguage
  split
  · split
    · next enabled => exact enabled
    · exact defaultLanguage_offered map
  · exact defaultLanguage_offered map

theorem seatWritten_volume_le {held : List HeldSeatWrite} (n : Nat) (x : Seat) (ok : ∀ w ∈ held, heldSeatInRange w)
    (volume : x.volume ≤ 15) : (seatWritten held n x).volume ≤ 15 := by
  induction held generalizing x with
  | nil => exact volume
  | cons w rest ih =>
    rw [seatWritten_cons]
    refine ih _ (fun v mem => ok v (List.mem_cons_of_mem _ mem)) ?_
    cases w with
    | language first records => exact volume
    | seat first records =>
      cases record : recordFor first records n with
      | none => rw [seatWritten_of_no_record x record]; exact volume
      | some r =>
        rw [seatWritten_of_record x record]
        have inside : r ∈ records := by
          unfold recordFor at record
          split at record
          · exact List.mem_of_getElem? record
          · exact nomatch record
        exact ok _ List.mem_cons_self r inside

theorem filterLiveMasks_moves (s : State) : Moves s (filterLiveMasks s) := .of (.segment _)

theorem seatFrameWork_moves (s : State) : Moves s (seatFrameWork s) := by
  have taken : SeatFrame s { s with seats := { s.seats with held := [] } } := ⟨rfl, slotsFrom_refl _⟩
  have frame : SeatFrame s (moveSeats (List.range 96)
      (applySeatHeld s.seats.held { s with seats := { s.seats with held := [] } })) :=
    (taken.trans (applySeatHeld_seatFrame _ _)).trans (moveSeats_seatFrame _ _)
  have seats := seatsMoved_seats s
  unfold seatFrameWork
  dsimp only
  generalize moveSeats (List.range 96)
    (applySeatHeld s.seats.held { s with seats := { s.seats with held := [] } }) = t at frame seats ⊢
  have moved : Moves s t := by
    rw [frame.frame]
    refine (Moves.of (t := { s with seats := t.seats }) (.seats fun ok => ?_)).trans (.of (.lines frame.slots))
    obtain ⟨size, onOffer, held, params, heldMix⟩ := ok
    rw [seats]
    refine ⟨(List.length_mapIdx ..).trans size, fun y mem => ?_, List.forall_mem_nil _, params, heldMix⟩
    obtain ⟨n, inside, rfl⟩ := List.mem_mapIdx.1 mem
    have small : n < 96 := size ▸ inside
    rw [if_pos small]
    have volume := (onOffer _ (List.getElem_mem inside)).1
    exact seatOnOffer_iff.2 ⟨seatWritten_volume_le n _ held volume, movedLanguage_offered _ _⟩
  exact .ite (moved.trans (filterLiveMasks_moves _)) moved

end

end Sys2Proof.Machine

namespace Sys2Proof.Machine

/-! ### The mix engine at a frame start -/

section
variable {s : State}

/-- A zone after a ZONE write's records (R39). -/
def zoneTaking (first : Nat) (ws : List ZoneWrite) (n : Nat) (x : Zone) : Zone :=
  (recordFor first ws n).elim x fun w => { x with source := w.source, clipNotice := w.clipNotice }

theorem mixWritten_zone (m : MixEngine) (first : Nat) (ws : List ZoneWrite) :
    mixWritten m (.zone first ws) = { m with zones := m.zones.mapIdx (zoneTaking first ws) } := by
  refine congrArg (fun zones => { m with zones := zones }) (List.ext_getElem? fun i => ?_)
  rw [List.getElem?_mapIdx, List.getElem?_mapIdx]
  cases m.zones[i]? with
  | none => rfl
  | some x => cases record : recordFor first ws i <;> simp [zoneTaking, record]

theorem applyZoneWrites_eq (first : Nat) (ws : List ZoneWrite) (s : State) : applyZoneWrites first ws s =
    { s with mix := { s.mix with zones := s.mix.zones.mapIdx (zoneTaking first ws) } } := by
  induction ws generalizing first s with
  | nil =>
    have unchanged : s.mix.zones.mapIdx (zoneTaking first []) = s.mix.zones := by
      refine List.ext_getElem? fun i => ?_
      rw [List.getElem?_mapIdx]
      have none : recordFor first ([] : List ZoneWrite) i = none := by unfold recordFor; split <;> rfl
      cases s.mix.zones[i]? <;> simp [zoneTaking, none]
    rw [unchanged]
    rfl
  | cons w ws ih =>
    rw [applyZoneWrites, ih]
    refine congrArg (fun zones => { s with mix := { s.mix with zones := zones } }) (List.ext_getElem? fun i => ?_)
    simp only [setZone, List.getElem?_mapIdx, List.getElem?_modify]
    cases s.mix.zones[i]? with
    | none => rfl
    | some x =>
      by_cases here : i = first
      · subst here
        have behind : recordFor (i + 1) ws i = none := if_neg (by omega)
        simp [zoneTaking, recordFor_cons, behind]
      · simp [zoneTaking, recordFor_cons, here, Ne.symm here]

/-- One held write gives the tables that R36 to R40 and R52 say. -/
theorem applyMixWrite_state (w : HeldMixWrite) (s : State) :
    (applyMixWrite w s).1 = { s with mix := mixWritten s.mix w } := by
  cases w with
  | zone first ws => exact (applyZoneWrites_eq first ws s).trans (by rw [mixWritten_zone])
  | volumeCurve first records => rfl
  | mix record => rfl
  | cls first records => rfl
  | noiseBands first records => rfl
  | chime first records => rfl

theorem applyMixHeld_state (held : List HeldMixWrite) (s : State) :
    (applyMixHeld held s).1 = { s with mix := held.foldl mixWritten s.mix } := by
  induction held generalizing s with
  | nil => rfl
  | cons w ws ih => exact (ih _).trans (by rw [applyMixWrite_state]; rfl)

theorem mixWritten_ducks (m : MixEngine) (w : HeldMixWrite) :
    (mixWritten m w).zones.map Zone.duck = m.zones.map Zone.duck := by
  cases w with
  | zone first ws =>
    rw [mixWritten_zone]
    refine List.ext_getElem? fun i => ?_
    simp only [List.getElem?_map, List.getElem?_mapIdx]
    cases m.zones[i]? with
    | none => rfl
    | some x => cases record : recordFor first ws i <;> simp [zoneTaking, record]
  | volumeCurve first records => rfl
  | mix record => rfl
  | cls first records => rfl
  | noiseBands first records => rfl
  | chime first records => rfl

theorem foldl_mixWritten_ducks (held : List HeldMixWrite) (m : MixEngine) :
    (held.foldl mixWritten m).zones.map Zone.duck = m.zones.map Zone.duck := by
  induction held generalizing m with
  | nil => rfl
  | cons w ws ih => exact (ih _).trans (mixWritten_ducks m w)

theorem mixWritten_defaultStep_le {m : MixEngine} {w : HeldMixWrite} (ok : heldMixInRange w)
    (h : m.params.defaultStep ≤ 15) : (mixWritten m w).params.defaultStep ≤ 15 := by
  cases w with
  | mix record => exact ok
  | zone first ws => exact h
  | volumeCurve first records => exact h
  | cls first records => exact h
  | noiseBands first records => exact h
  | chime first records => exact h

theorem foldl_mixWritten_defaultStep_le {held : List HeldMixWrite} {m : MixEngine}
    (ok : ∀ w ∈ held, heldMixInRange w) (h : m.params.defaultStep ≤ 15) :
    (held.foldl mixWritten m).params.defaultStep ≤ 15 := by
  induction held generalizing m with
  | nil => exact h
  | cons w ws ih =>
    obtain ⟨first, rest⟩ := List.forall_mem_cons.1 ok
    exact ih rest (mixWritten_defaultStep_le first h)

theorem foldl_mixWritten_held (held : List HeldMixWrite) (m : MixEngine) :
    (held.foldl mixWritten m).held = m.held := by
  induction held generalizing m with
  | nil => rfl
  | cons w ws ih => exact (ih _).trans (by cases w <;> rfl)

/-- New targets touch the zones' targets alone. -/
theorem retargetZones_eq (l : List Nat) (s : State) :
    retargetZones l s = { s with mix := { s.mix with zones := (retargetZones l s).mix.zones } } ∧
      (retargetZones l s).mix.zones.map Zone.duck = s.mix.zones.map Zone.duck := by
  induction l generalizing s with
  | nil => exact ⟨rfl, rfl⟩
  | cons z rest ih =>
    obtain ⟨frame, ducks⟩ := ih (setZone z (fun x => { x with target := presentTarget s x }) s)
    refine ⟨frame, ducks.trans (List.ext_getElem? fun i => ?_)⟩
    simp only [setZone, List.getElem?_map, List.getElem?_modify]
    cases s.mix.zones[i]? with
    | none => rfl
    | some x => by_cases here : z = i <;> simp [here]

/-- What the mix engine's held writes leave as it was at a frame start, and what they can change (R44). -/
theorem mixFrameWrites_spec (s : State) :
    mixFrameWrites s = { s with mix := (mixFrameWrites s).mix } ∧
      (mixFrameWrites s).mix.zones.map Zone.duck = s.mix.zones.map Zone.duck ∧
      (mixFrameWrites s).mix.held = [] ∧ (mixFrameWrites s).mix.generator = s.mix.generator ∧
      (mixFrameWrites s).mix.params = (s.mix.held.foldl mixWritten { s.mix with held := [] }).params := by
  have generator (held : List HeldMixWrite) (m : MixEngine) : (held.foldl mixWritten m).generator = m.generator := by
    induction held generalizing m with
    | nil => rfl
    | cons w ws ih => exact (ih _).trans (by cases w <;> rfl)
  unfold mixFrameWrites
  dsimp only
  generalize (applyMixHeld s.mix.held { s with mix := { s.mix with held := [] } }).2 = targets
  rw [applyMixHeld_state]
  obtain ⟨frame, ducks⟩ := retargetZones_eq targets
    { s with mix := s.mix.held.foldl mixWritten { s.mix with held := [] } }
  generalize retargetZones targets _ = t at frame ducks ⊢
  rw [frame]
  exact ⟨rfl, ducks.trans (foldl_mixWritten_ducks _ _), foldl_mixWritten_held _ _, generator _ _, rfl⟩

/-! ### The samples of a frame -/

theorem sampleOk_zero : sampleOk 0 := ⟨by decide, by decide⟩

theorem sampleOk_limited (y : Int) : sampleOk (limited y) := by
  unfold sampleOk limited
  omega

theorem silence_ok : ∀ y ∈ silence, sampleOk y := fun _ mem => List.eq_of_mem_replicate mem ▸ sampleOk_zero

theorem seatSamples_ok (s : State) (frame : List KeptBlock) (tone : List Int) (n : Nat) (x : Seat) :
    ∀ y ∈ (seatSamples s frame tone n x).1, sampleOk y := by
  unfold seatSamples
  split
  · intro y mem
    obtain ⟨z, _, rfl⟩ := List.mem_map.1 mem
    exact sampleOk_limited z
  · exact silence_ok

theorem mixSeats_ok (s : State) (frame : List KeptBlock) (tone : List Int) (n : Nat) (xs : List Seat) :
    ∀ slot ∈ (mixSeats s frame tone n xs).map Prod.fst, ∀ y ∈ slot, sampleOk y := by
  induction xs generalizing n with
  | nil => exact fun _ mem => nomatch mem
  | cons x xs ih => exact List.forall_mem_cons.2 ⟨seatSamples_ok s frame tone n x, ih _⟩

theorem fillSlots_slotsFrom {samples : List (List Int)} (ok : ∀ slot ∈ samples, ∀ y ∈ slot, sampleOk y)
    (old lines : List Line) : slotsFrom old (fillSlots samples lines) := by
  induction lines generalizing samples with
  | nil => exact fun _ mem => nomatch mem
  | cons x xs ih =>
    refine List.forall_mem_cons.2 ⟨.inr ?_, ih fun slot mem => ok slot (List.mem_of_mem_drop mem)⟩
    dsimp only
    split
    · exact fun slot mem => ok slot (List.mem_of_mem_take mem)
    · intro slot inSlots y inSlot
      rw [List.eq_of_mem_replicate inSlots] at inSlot
      rw [List.eq_of_mem_replicate inSlot]
      exact sampleOk_zero

theorem playChime_moves (s : State) : Moves s (playChime s).2 := by
  unfold playChime
  split
  · exact .refl
  · split
    · exact .refl
    · exact .of (.generator _)

theorem setZone_moves {z : Nat} {f : Zone → Zone} (keeps : ∀ x, (f x).duck = x.duck) (s : State) :
    Moves s (setZone z f s) := by
  refine .of (.zones (List.ext_getElem? fun i => ?_))
  simp only [List.getElem?_map, List.getElem?_modify]
  cases s.mix.zones[i]? with
  | none => rfl
  | some x => by_cases here : z = i <;> simp [here, keeps]

theorem saturate_moves (z : Nat) (s : State) : Moves s (saturate z s) := by
  have set : Moves s (setZone z (fun x => { x with clip := true }) s) := setZone_moves (fun _ => by rfl) s
  unfold saturate
  split
  · exact .refl
  · exact .ite (set.trans (notify_moves _ _)) set

theorem saturateAll_moves (l : List (Option Nat)) (s : State) : Moves s (saturateAll l s) := by
  induction l generalizing s with
  | nil => exact .refl
  | cons z rest ih =>
    cases z with
    | none => exact ih s
    | some z => exact (saturate_moves z s).trans (ih _)

theorem mixFrame_moves (frame : List KeptBlock) (s : State) : Moves s (mixFrame frame s) :=
  ((playChime_moves s).trans (.of (.lines (fillSlots_slotsFrom (mixSeats_ok _ _ _ _ _) _ _)))).trans
    (saturateAll_moves _ _)

theorem endChime_moves (s : State) : Moves s (endChime s) := by
  have retired : Moves s (retireChime s).1 := by
    unfold retireChime
    split
    · exact .of (.generator _)
    · exact .refl
  exact retired.trans (.ite (chimeEnded_moves _) .refl)

theorem endReport_moves (ticket : Option Nat) (s : State) : Moves s (endReport ticket s) := by
  unfold endReport
  split
  · exact endReported_moves s _
  · exact .refl

theorem takeItems_length_le (places size : Nat) (replies : List Reply) (notices : List Notice) :
    (takeItems places size replies notices).replies.length ≤ replies.length ∧
      (takeItems places size replies notices).notices.length ≤ notices.length := by
  induction places generalizing size replies notices with
  | zero => exact ⟨le_rfl, le_rfl⟩
  | succ n ih =>
    cases replies with
    | cons r rs =>
      simp only [takeItems]
      split
      · obtain ⟨h, k⟩ := ih (size + (encodeReply r).length) rs notices
        exact ⟨Nat.le_succ_of_le h, k⟩
      · exact ⟨le_rfl, le_rfl⟩
    | nil =>
      cases notices with
      | nil => exact ⟨le_rfl, le_rfl⟩
      | cons x xs =>
        simp only [takeItems]
        split
        · obtain ⟨h, k⟩ := ih (size + (encodeNotice x).length) [] xs
          exact ⟨h, Nat.le_succ_of_le k⟩
        · exact ⟨le_rfl, le_rfl⟩

theorem buildReport_moves (s : State) : Moves s (buildReport s) := by
  unfold buildReport
  split
  · exact .refl
  · exact .of (.report _)
  · obtain ⟨replies, notices⟩ :=
      takeItems_length_le Config.reportItems headerLength s.manage.replies s.manage.notices
    dsimp only
    generalize takeItems Config.reportItems headerLength s.manage.replies s.manage.notices = taken at replies notices ⊢
    exact (Moves.of (.manage (m := { s.manage with replies := taken.replies, notices := taken.notices })
      le_rfl replies notices)).trans (.of (.report _))

theorem reportWhen_moves (build : Bool) (s : State) : Moves s (reportWhen build s) := .ite (buildReport_moves s) .refl

/-! ### The writes and the other requests -/

theorem setRequests_tail_moves (s : State) : Moves s (setRequests s.manage.requests.tail s) := by
  refine .of (.manage ?_ le_rfl le_rfl)
  rw [List.length_tail]
  omega

theorem decodeAll_forall {α : Type} {decode : List Byte → Option α} {p : α → Prop}
    (ok : ∀ b x, decode b = some x → p x) {rs : List (List Byte)} {xs : List α} (h : decodeAll decode rs = some xs) :
    ∀ x ∈ xs, p x := by
  induction rs generalizing xs with
  | nil =>
    obtain rfl : xs = [] := (Option.some.inj h).symm
    exact fun _ mem => nomatch mem
  | cons r rs ih =>
    rw [decodeAll] at h
    split at h
    · next x xs' first rest =>
      obtain rfl := Option.some.inj h
      exact List.forall_mem_cons.2 ⟨ok r x first, ih rest⟩
    · exact nomatch h

/-- A TABLE-WRITE is a run of moves where its table's effect on records that its decoder takes is one. -/
theorem tableWrite_moves {α : Type} {form : TableForm α} (r : Request)
    (apply : ∀ first bytes records, form.decode first bytes = some records → form.gate s = none →
      Moves s (form.apply first records s)) : Moves s (tableWrite form r s).state := by
  unfold tableWrite
  dsimp only
  split
  · exact .refl
  · split
    · exact .refl
    · unfold ownWrite
      split
      · exact .refl
      · next gate =>
        split
        · exact .refl
        · split
          · exact .refl
          · next decoded =>
            split
            · exact .refl
            · exact apply _ _ _ decoded gate

theorem guarded_eq_some {α : Type} {ok : Bool} {x y : α} : guarded ok x = some y ↔ ok = true ∧ x = y := by
  cases ok <;> simp [guarded]

theorem holdSeatWrite_moves {w : HeldSeatWrite} (ok : heldSeatInRange w) (s : State) : Moves s (holdSeatWrite w s) := by
  refine .of (.seats fun h => ?_)
  obtain ⟨size, onOffer, held, rest⟩ := h
  refine ⟨size, onOffer, fun v mem => ?_, rest⟩
  rcases List.mem_append.1 mem with old | new
  · exact held v old
  · exact List.mem_singleton.1 new ▸ ok

theorem holdMixWrite_moves {w : HeldMixWrite} (ok : heldMixInRange w) (s : State) : Moves s (holdMixWrite w s) :=
  .of (.heldMix ok)

theorem decodeSeat_volume_le {b : List Byte} {x : SeatWrite} (h : decodeSeat b = some x) : x.volume ≤ 15 := by
  obtain ⟨ok, rfl⟩ := guarded_eq_some.1 h
  exact of_decide_eq_true (Bool.and_eq_true_iff.1 ok).2

theorem decodeMix_defaultStep_le {b : List Byte} {x : MixParams} (h : decodeMix b = some x) : x.defaultStep ≤ 15 := by
  obtain ⟨ok, rfl⟩ := guarded_eq_some.1 h
  simp only [Bool.and_eq_true, decide_eq_true_eq] at ok
  exact ok.1.1.2

theorem decodePart_target_le {b : List Byte} {i : Nat} {p : ScenePart} (h : decodePart b i = some p) :
    p.target ≤ 1000 := by
  unfold decodePart at h
  split at h
  · obtain ⟨ok, rfl⟩ := guarded_eq_some.1 h
    simp only [Bool.and_eq_true, decide_eq_true_eq] at ok
    exact ok.1.1.1.1.1
  · exact nomatch h

theorem decodeParts_target_le {b : List Byte} {i n : Nat} {ps : List ScenePart} (h : decodeParts b i n = some ps) :
    ∀ p ∈ ps, p.target ≤ 1000 := by
  induction n generalizing i ps with
  | zero =>
    obtain rfl : [] = ps := Option.some.inj h
    exact fun _ mem => nomatch mem
  | succ n ih =>
    rw [decodeParts] at h
    split at h
    · next first rest =>
      obtain rfl := Option.some.inj h
      exact List.forall_mem_cons.2 ⟨decodePart_target_le first, ih rest⟩
    · exact nomatch h

theorem decodeLighting_level_le {b : List Byte} {p : LightParams} (h : decodeLighting b = some p) :
    p.indicatorLevel ≤ 1000 := by
  unfold decodeLighting at h
  split at h
  · obtain ⟨ok, rfl⟩ := guarded_eq_some.1 h
    simp only [Bool.and_eq_true, decide_eq_true_eq] at ok
    exact ok.1.2
  · exact nomatch h

theorem mem_of_mem_writeAt {α : Type} {x : α} {l records : List α} {first : Nat} (mem : x ∈ writeAt l first records) :
    x ∈ l ∨ x ∈ records := by
  induction records generalizing l first with
  | nil => exact .inl mem
  | cons r rs ih =>
    rcases ih mem with old | new
    · rcases List.mem_or_eq_of_mem_set old with old | rfl
      · exact .inl old
      · exact .inr List.mem_cons_self
    · exact .inr (List.mem_cons_of_mem _ new)

theorem writeScenes_moves {records : List (List ScenePart)} (first : Nat)
    (ok : ∀ scene ∈ records, ∀ p ∈ scene, p.target ≤ 1000) (s : State) :
    Moves s (sceneForm.apply first records s) := by
  refine .of (.lighting (.scenes fun old scene mem => ?_))
  rcases mem_of_mem_writeAt mem with before | new
  · exact old scene before
  · exact ok scene new

end

end Sys2Proof.Machine

namespace Sys2Proof.Machine

/-! ### The commands -/

/-- What one part of a command does: a move, a reply where there is room, the intake of a request, a reset, or the mix
engine's writes and zone steps, between which the ducks may lie outside a new depth (R42, R44). -/
inductive Act (s : State) : State → Prop
  | move {t} : Moves s t → Act s t
  | reply (r : Reply) : s.manage.replies.length < 8 → Act s (addReply r s)
  | request (r : Request) : Act s (takeRequest r s)
  | reset (link : Link) (frameTimer : Nat) (report : Option (List Byte)) (clockPhase : Nat) : Act s
      { State.reset with
        link := link, playout := { playoutReset with frameTimer := frameTimer }, report := report
        clockPhase := clockPhase, pending := s.pending }
  | mix {t} : Moves (mixFrameWrites s) t → Act s (zoneSteps t)

/-- A run of acts. -/
def Acts : State → State → Prop := Relation.ReflTransGen Act

namespace Acts

theorem refl {s : State} : Acts s s := Relation.ReflTransGen.refl

theorem of {s t : State} (h : Act s t) : Acts s t := Relation.ReflTransGen.single h

theorem trans {s t u : State} (h : Acts s t) (k : Acts t u) : Acts s u := Relation.ReflTransGen.trans h k

/-- What every act keeps, a run of acts keeps. -/
theorem keep {P : State → Prop} (closed : ∀ s t, Act s t → P s → P t) {s t : State} (h : Acts s t) (p : P s) : P t := by
  induction h with
  | refl => exact p
  | tail _ last ih => exact closed _ _ last ih

end Acts

theorem Moves.acts {s t : State} (h : Moves s t) : Acts s t := .of (.move h)

section
variable {s : State}

theorem takeLightParams_moves {records : List LightParams} (ok : ∀ p ∈ records, p.indicatorLevel ≤ 1000) (s : State) :
    Moves s (takeLightParams records s) := by
  unfold takeLightParams
  split
  · exact .refl
  · exact .of (.lighting (.params (ok _ List.mem_cons_self)))

theorem holdMixRecord_moves {records : List MixParams} (ok : ∀ m ∈ records, m.defaultStep ≤ 15) (s : State) :
    Moves s (holdMixRecord records s) := by
  unfold holdMixRecord
  split
  · exact .refl
  · exact holdMixWrite_moves (w := .mix _) (ok _ List.mem_cons_self) s

theorem holdLineWrite_moves (first : Nat) (records : List LineWrite) (s : State) :
    Moves s (seatLineForm.apply first records s) :=
  .of (.lines (x := { s.lines with held := s.lines.held ++ [(first, records)] }) (slotsFrom_refl _))

theorem writeCues_moves (first : Nat) (records : List Cue) (gate : cueForm.gate s = none) :
    Moves s (writeCues first records s) := by
  refine .of (.route (.write first records ?_))
  by_contra moving
  exact nomatch (if_neg moving).symm.trans gate

@[simp] theorem done_state (s : State) : (done s).state = s := rfl

theorem readTable_moves (r : Request) (s : State) : Moves s (readTable r s).state := by
  unfold readTable
  dsimp only
  split
  · exact .refl
  · split
    · exact .refl
    · split <;> exact .refl

theorem clearStatusFlags_moves (s : State) : Moves s (clearStatusFlags s) := by
  have flags : Moves s { s with mix := { s.mix with zones := s.mix.zones.map fun z => { z with clip := false } } } := by
    refine .of (.zones ?_)
    rw [List.map_map]
    rfl
  exact flags.trans (.of (.manage le_rfl le_rfl le_rfl))

theorem readStatus_moves (r : Request) (s : State) : Moves s (readStatus r s).state := by
  unfold readStatus
  split
  · exact .refl
  · split
    · exact .refl
    · exact .ite (clearStatusFlags_moves s) .refl

theorem takeAction_moves {size last : Nat} {act : State → Executed} (r : Request) (moves : Moves s (act s).state) :
    Moves s (takeAction size last act r s).state := by
  unfold takeAction
  split
  · exact .refl
  · exact moves

theorem holdRoute_moves (s : State) : Moves s (holdRoute s).state := by
  unfold holdRoute
  split
  · exact .of (.route (.run (by decide)))
  · exact .refl

theorem resume_moves (s : State) : Moves s (resume s).state := by
  unfold resume
  split
  · exact resumeRoute_moves s
  · exact .refl

theorem fixRequest_moves (r : Request) (s : State) : Moves s (fixRequest r s).state := by
  unfold fixRequest
  dsimp only
  split
  · exact .refl
  · split
    · exact .refl
    · exact fixPosition_moves _ s

theorem announceFromHead_moves (r : Request) (s : State) : Moves s (announceFromHead r s).state := by
  unfold announceFromHead
  split
  · split
    · exact .refl
    · exact announceRequest_moves s _
  · exact .refl

theorem cancelled_state (outcome : State × Bool) : (cancelled outcome).state = outcome.1 := by
  unfold cancelled
  split <;> rfl

theorem cancelByTicket_moves (r : Request) (s : State) : Moves s (cancelByTicket r s).state := by
  unfold cancelByTicket
  split
  · exact .refl
  · rw [cancelled_state]
    exact cancelTicket_moves s _

theorem cancelByClass_moves (r : Request) (s : State) : Moves s (cancelByClass r s).state := by
  unfold cancelByClass
  split
  · exact .refl
  · split
    · rw [cancelled_state]
      exact cancelClass_moves s _
    · exact .refl

theorem liveOn_moves (r : Request) (s : State) : Moves s (liveOn r s).state := by
  unfold liveOn
  split
  · exact .refl
  · exact askLive_moves _ s

theorem forceScene_moves (r : Request) (s : State) : Moves s (forceScene r s).state := by
  unfold forceScene
  split
  · split
    · exact .refl
    · exact setForce_moves s _
  · exact .refl

theorem senseStart_moves (r : Request) (s : State) : Moves s (senseStart r s).state := by
  unfold senseStart
  split
  · exact .refl
  · split
    · exact startSense_moves _ _ s
    · exact .refl

theorem clearLimitRequest_moves (r : Request) (s : State) : Moves s (clearLimitRequest r s).state := by
  unfold clearLimitRequest
  dsimp only
  split
  · exact .refl
  · split
    · rw [done_state]; exact clearLimits_moves _ s
    · split
      · rw [done_state]; exact clearLimit_moves _ s
      · exact .refl

/-- Moves leave no more replies than there were. -/
theorem Moves.replies_le {t : State} (h : Moves s t) : t.manage.replies.length ≤ s.manage.replies.length := by
  refine h.keep (P := fun u => u.manage.replies.length ≤ s.manage.replies.length) (fun u v move bound => ?_) le_rfl
  cases move with
  | notify n => rw [notify_replies]; exact bound
  | manage _ fewer _ => exact fewer.trans bound
  | _ => exact bound

/-- The head request's row: its execution, which is a run of moves, and its reply (R168). -/
theorem executeHead_acts {accepts : Request → Bool} {run : Request → State → Executed}
    (moves : ∀ r u, Moves u (run r u).state) (s : State) : Acts s (executeHead accepts run s) := by
  unfold executeHead
  split
  · exact .refl
  · next r head =>
    split
    · have room : s.manage.replies.length < 8 := by
        unfold headRequest at head
        split at head
        · next room => exact room
        · exact nomatch head
      have ran := (setRequests_tail_moves s).trans (moves r _)
      exact ran.acts.trans (.of (.reply _ (Nat.lt_of_le_of_lt ran.replies_le room)))
    · exact .refl

/-- A TABLE-WRITE's row, where its table's effect on records that its decoder takes is a run of moves. -/
theorem writeRow_acts {α : Type} {form : TableForm α} (table : Nat)
    (apply : ∀ first bytes records u, form.decode first bytes = some records → form.gate u = none →
      Moves u (form.apply first records u)) (s : State) :
    Acts s (executeHead (writesTable table) (tableWrite form) s) :=
  executeHead_acts (fun r u => tableWrite_moves r fun first bytes records h g => apply first bytes records u h g) s

theorem liveOffAround_acts {between : State → State} (moves : ∀ u, Moves u (between u)) (s : State) :
    Acts s (liveOffAround between s) :=
  executeHead_acts (fun r u => takeAction_moves r (endLiveAround_moves moves u)) s

theorem takeEvent_acts {event : State → State} (moves : ∀ u, Moves u (event u)) (first : Bool) (s : State) :
    Acts s (takeEvent first event s) := by
  unfold takeEvent
  split
  · exact liveOffAround_acts moves s
  · exact (moves s).acts

theorem resetRow_acts (s : State) : Acts s (executeHead (isKind 11) resetRequest s) := by
  unfold executeHead
  split
  · exact .refl
  · next r head =>
    split
    · unfold resetRequest
      split
      · have room : s.manage.replies.length < 8 := by
          unfold headRequest at head
          split at head
          · next room => exact room
          · exact nomatch head
        exact (setRequests_tail_moves s).acts.trans (.of (.reply _ room))
      · exact (Acts.of (.reset s.link s.playout.frameTimer s.report s.clockPhase)).trans
          (.of (.reply _ (show ([] : List Reply).length < 8 by decide)))
    · exact .refl

/-- The frame start's work around the mix engine's writes and zone steps (R24, R43, R44, R57, R73). -/
theorem frameWork_acts (chimeFirst : Bool) (frame : List KeptBlock) (s : State) :
    Acts s (frameWork chimeFirst frame s) := by
  have held := (seatFrameWork_moves s).trans (lineFrameWork_moves _)
  have chime (u : State) : Moves u (if chimeFirst then endChime u else u) := .ite (endChime_moves u) .refl
  have mixed := held.acts.trans (.of (.mix (chime (mixFrameWrites (lineFrameWork (seatFrameWork s))))))
  have shown (u : State) : Moves u
      (setIndicator (mixFrame frame u).route.requested.isSome (updateDisplays (mixFrame frame u))) :=
    (mixFrame_moves frame u).trans ((updateDisplays_moves _).trans (setIndicator_moves _ _))
  exact (mixed.trans (shown _).acts).trans (Moves.ite (endChime_moves _) .refl).acts

theorem execFrameStart_acts (reportFirst : Bool) (turn : EventTurn) (s : State) :
    ∃ t, execFrameStart reportFirst turn s = .next t ∧ Acts s t := by
  refine ⟨_, rfl, ?_⟩
  have timer : Moves s { s with playout := { s.playout with frameTimer := Config.framePeriod } } := .of (.playout id)
  have handed := (timer.trans (reportWhen_moves reportFirst _)).acts.trans
    (takeEvent_acts (fun u => handOver_moves u) turn.liveOffFirst _)
  have worked := handed.trans (frameWork_acts turn.choice (handOver (reportWhen reportFirst
    { s with playout := { s.playout with frameTimer := Config.framePeriod } })).1 _)
  exact (worked.trans (endReport_moves _ _).acts).trans (reportWhen_moves _ _).acts

/-- Every command answers a next state, by a run of acts. -/
theorem exec_acts (c : Instr) (s : State) : ∃ t, exec c s = .next t ∧ Acts s t := by
  have moved {t : State} (h : Moves s t) : ∃ u, Host.Outcome.next t = (.next u : Host.Outcome State Fault Refusal) ∧ Acts s u :=
    ⟨t, rfl, h.acts⟩
  cases c with
  | powerOnReset => exact ⟨_, rfl, .of (.reset linkReset Config.framePeriod none 0)⟩
  | audioFrame bytes =>
    refine moved ?_
    split
    · exact ((storeBytes_moves _ _ s).trans (validFrame_moves _)).trans (takeAudio_moves _ _)
    · exact holdBytes_moves _ s
  | requestFrame bytes =>
    refine ⟨_, rfl, ?_⟩
    split
    · exact ((storeBytes_moves _ _ s).trans (validFrame_moves _)).acts.trans (.of (.request _))
    · exact (holdBytes_moves _ s).acts
  | badFrame bytes =>
    refine moved ?_
    split
    · exact storeBytes_moves _ _ s
    · exact holdBytes_moves _ s
  | byteGapTimeout bytes => exact moved (storeBytes_moves _ _ s)
  | supervisionTimerExpiry liveFirst =>
    refine moved ?_
    split
    · exact loseLink_moves liveFirst s
    · exact .refl
  | frameStart reportFirst turn => exact execFrameStart_acts reportFirst turn s
  | unknownKind => exact ⟨_, rfl, executeHead_acts (fun _ _ => .refl) s⟩
  | tableWriteUnknownTable => exact ⟨_, rfl, executeHead_acts (fun _ _ => .refl) s⟩
  | tableWriteLanguage => exact ⟨_, rfl, writeRow_acts 0 (fun _ _ _ u _ _ => holdSeatWrite_moves (by trivial) u) s⟩
  | tableWriteSeat =>
    refine ⟨_, rfl, writeRow_acts 1 (fun first bytes records u decoded _ => holdSeatWrite_moves ?_ u) s⟩
    exact decodeAll_forall (fun _ _ => decodeSeat_volume_le) decoded
  | tableWriteZone => exact ⟨_, rfl, writeRow_acts 2 (fun _ _ _ u _ _ => holdMixWrite_moves (by trivial) u) s⟩
  | tableWriteVolumeCurve => exact ⟨_, rfl, writeRow_acts 3 (fun _ _ _ u _ _ => holdMixWrite_moves (by trivial) u) s⟩
  | tableWriteMix =>
    refine ⟨_, rfl, writeRow_acts 4 (fun first bytes records u decoded _ => holdMixRecord_moves ?_ u) s⟩
    exact decodeAll_forall (fun _ _ => decodeMix_defaultStep_le) decoded
  | tableWriteNoiseBands => exact ⟨_, rfl, writeRow_acts 5 (fun _ _ _ u _ _ => holdMixWrite_moves (by trivial) u) s⟩
  | tableWriteClass => exact ⟨_, rfl, writeRow_acts 6 (fun _ _ _ u _ _ => holdMixWrite_moves (by trivial) u) s⟩
  | tableWriteChime => exact ⟨_, rfl, writeRow_acts 7 (fun _ _ _ u _ _ => holdMixWrite_moves (by trivial) u) s⟩
  | tableWriteSeatLine => exact ⟨_, rfl, writeRow_acts 8 (fun _ _ _ u _ _ => holdLineWrite_moves _ _ u) s⟩
  | tableWriteSenseChannel => exact ⟨_, rfl, writeRow_acts 9 (fun _ _ _ u _ _ => writeChannels_moves _ _ u) s⟩
  | tableWriteLimit => exact ⟨_, rfl, writeRow_acts 10 (fun _ _ _ u _ _ => writeLimits_moves _ _ u) s⟩
  | tableWriteCue => exact ⟨_, rfl, writeRow_acts 11 (fun _ _ _ u _ gate => writeCues_moves _ _ gate) s⟩
  | tableWriteScene =>
    refine ⟨_, rfl, writeRow_acts 12 (fun first bytes records u decoded _ => writeScenes_moves first ?_ u) s⟩
    exact decodeAll_forall (fun _ _ => decodeParts_target_le) decoded
  | tableWriteLighting =>
    refine ⟨_, rfl, writeRow_acts 13 (fun first bytes records u decoded _ => takeLightParams_moves ?_ u) s⟩
    exact decodeAll_forall (fun _ _ => decodeLighting_level_le) decoded
  | tableRead => exact ⟨_, rfl, executeHead_acts readTable_moves s⟩
  | routeStart => exact ⟨_, rfl, executeHead_acts (fun r u => takeAction_moves r (startRoute_moves u)) s⟩
  | routeHold => exact ⟨_, rfl, executeHead_acts (fun r u => takeAction_moves r (holdRoute_moves u)) s⟩
  | routeResume => exact ⟨_, rfl, executeHead_acts (fun r u => takeAction_moves r (resume_moves u)) s⟩
  | routeStop => exact ⟨_, rfl, executeHead_acts (fun r u => takeAction_moves r (stopRoute_moves u)) s⟩
  | positionFix => exact ⟨_, rfl, executeHead_acts fixRequest_moves s⟩
  | announce => exact ⟨_, rfl, executeHead_acts announceFromHead_moves s⟩
  | cancelByTicket => exact ⟨_, rfl, executeHead_acts cancelByTicket_moves s⟩
  | cancelByClass => exact ⟨_, rfl, executeHead_acts cancelByClass_moves s⟩
  | liveOn => exact ⟨_, rfl, executeHead_acts liveOn_moves s⟩
  | liveOff => exact ⟨_, rfl, liveOffAround_acts (fun _ => .refl) s⟩
  | sceneForce => exact ⟨_, rfl, executeHead_acts forceScene_moves s⟩
  | senseStart => exact ⟨_, rfl, executeHead_acts senseStart_moves s⟩
  | senseStop => exact ⟨_, rfl, executeHead_acts (fun r u => takeAction_moves r (setScan_moves _ u)) s⟩
  | limitClear => exact ⟨_, rfl, executeHead_acts clearLimitRequest_moves s⟩
  | statusRead => exact ⟨_, rfl, executeHead_acts readStatus_moves s⟩
  | reset => exact ⟨_, rfl, resetRow_acts s⟩
  | odometerEdge turn => exact ⟨_, rfl, takeEvent_acts (takeOdometerEdge_moves turn.choice) _ s⟩
  | startDelayExpiry =>
    refine moved ?_
    split
    · exact beginLowest_moves s
    · exact .refl
  | inputGateOpen =>
    refine moved ?_
    split
    · exact .ite (setScan_moves _ s) .refl
    · exact .refl
  | refGateClose turn => exact ⟨_, rfl, takeEvent_acts (closeRefGate_moves turn.choice) _ s⟩
  | inputGateClose ticks turn => exact ⟨_, rfl, takeEvent_acts (closeInputGate_moves ticks turn.choice) _ s⟩
  | waitLimitTimeout turn => exact ⟨_, rfl, takeEvent_acts (reachWaitLimit_moves turn.choice) _ s⟩
  | resultStale channel => exact moved .refl
  | pollRoundBegin l =>
    refine moved (.ite ((setLine_keeps l _ s fun x => ?_).trans (servePoll_moves _ _ _ _)) .refl)
    unfold openRound
    split <;> rfl
  | roundTimerExpiry l =>
    refine moved ?_
    dsimp only
    split
    · exact .refl
    · exact .ite (setLine_keeps l _ s) .refl
  | answerWindowExpiry l =>
    refine moved ?_
    split
    · exact .refl
    · split
      · exact .refl
      · exact failAndGoOn_moves _ _ _ s
  | statusTransactionEnd l answer =>
    refine moved ?_
    split
    · exact .refl
    · split
      · split
        · exact failStatus_moves _ _ _ s
        · exact (actOnStatus_moves _ _ _ s).trans (afterStatus_moves _ _ _ _)
      · exact .refl
  | identTransactionEnd l answer =>
    refine moved ?_
    split
    · exact .refl
    · split
      · split
        · exact failAndGoOn_moves _ _ _ s
        · exact .ite ((activateBox_moves _ _ _ s).trans (endTurn_moves _ _ _)) (failAndGoOn_moves _ _ _ s)
      · exact .refl
  | displayTransactionEnd l =>
    refine moved ?_
    split
    · exact .refl
    · split
      · exact .ite (failAndGoOn_moves _ _ _ s) (endTurn_moves _ _ s)
      · exact .refl
  | echo l => exact moved (echoFailure_moves l s)
  | controlPairLow l sending => exact moved (pairLow_moves l sending s)
  | wakePulse l => exact moved (pairLow_moves l false s)
  | quietTimerExpiry l => exact moved (setLine_moves (quietExpiry_slots s.route.state) s)
  | startTimerExpiry => exact moved (startTimedOut_moves s)
  | maximumDurationExpiry => exact moved (durationRanOut_moves s)
  | fadeStep c => exact moved (.of (.lighting (.lamp c (.inl rfl))))
  | flashHalfExpiry c => exact moved (.of (.lighting (.lamp c (.inr rfl))))
  | senseInputEdge c => exact moved (senseEdge_moves c s)

/-- A reference tick is a run of moves, the commands it queues apart. -/
theorem passTick_moves (s : State) : ∃ t, Moves s t ∧ passTick s = setPending (passTick s).pending t := by
  have timers : Moves s (tickTimers s) := by
    have link : Moves s { s with link := { s.link with supervision := countDown s.link.supervision } } := .of (.link _)
    have lines (u : State) : Moves u { u with lines := { u.lines with lines := u.lines.lines.map tickLine } } :=
      .of (.lines (slotsFrom_map fun _ => rfl))
    exact (((link.trans (lines _)).trans (.of (.sense _))).trans (.of (.announce (.clock _ _ _)))).trans
      (.of (.lighting .tick))
  have frame (u : State) : Moves u (tickFrameTimer u) := by
    unfold tickFrameTimer
    dsimp only
    split
    · exact .of (.clockPhase _)
    · have timer : Moves u { u with playout := { u.playout with frameTimer := u.playout.frameTimer - 1 } } :=
        .of (.playout id)
      exact timer.trans (.of (.clockPhase _))
  exact ⟨_, timers.trans (frame _), rfl⟩

/-- A step is a run of acts, the queue of waiting commands apart. -/
theorem step_acts {t : State} (h : step s = .next t) : ∃ p q u, Acts (setPending p s) u ∧ t = setPending q u := by
  unfold step at h
  split at h
  · obtain rfl := Host.Outcome.next.inj h
    unfold idle
    split
    · obtain ⟨u, moved, eq⟩ := passTick_moves s
      exact ⟨s.pending, _, u, moved.acts, eq⟩
    · exact ⟨s.pending, _, s, .refl, rfl⟩
  · next c rest front =>
    obtain ⟨u, answer, acts⟩ := exec_acts c { s with pending := rest }
    obtain rfl := Host.Outcome.next.inj (answer.symm.trans h)
    exact ⟨rest, u.pending, u, acts, rfl⟩

/-- A property that says nothing of the queue of waiting commands is kept by every step where every act keeps it. -/
theorem step_keeps {P : State → Prop} (blind : ∀ p s, P s → P (setPending p s)) (closed : ∀ s t, Act s t → P s → P t)
    {t : State} (h : step s = .next t) (p : P s) : P t := by
  obtain ⟨p', q, u, acts, rfl⟩ := step_acts h
  exact blind q u (acts.keep closed (blind p' s p))

/-! ### The queue of waiting commands -/

theorem Moves.pending {t : State} (h : Moves s t) : t.pending = s.pending := by
  refine h.keep (P := fun u => u.pending = s.pending) (fun u v move same => ?_) rfl
  cases move with
  | notify n => rw [notify_pending]; exact same
  | _ => exact same

theorem Acts.pending {t : State} (h : Acts s t) : t.pending = s.pending := by
  refine h.keep (P := fun u => u.pending = s.pending) (fun u v act same => ?_) rfl
  cases act with
  | move moves => exact moves.pending.trans same
  | reply r _ => exact same
  | request r =>
    refine Eq.trans ?_ same
    unfold takeRequest
    split
    · rfl
    · split <;> rfl
  | reset => exact same
  | mix moves =>
    refine Eq.trans (b := (mixFrameWrites u).pending) moves.pending ?_
    rw [(mixFrameWrites_spec u).1]
    exact same

end

end Sys2Proof.Machine

namespace Sys2Proof.Proofs

open Sys2Proof Sys2Proof.Machine

/-- Settles O2: every command is a run of acts, and no act touches the queue. -/
theorem everyCommandAnswersAndKeepsQueue : Obligations.EveryCommandAnswersAndKeepsQueue := by
  intro c s
  obtain ⟨t, answer, acts⟩ := exec_acts c s
  exact ⟨t, answer, acts.pending⟩

end Sys2Proof.Proofs

/-! The properties that every step keeps, checked move by move. -/

namespace Sys2Proof.Machine

variable {s t : State}

/-- A property of the announcement controller, the route engine and the lighting controller alone is kept by every step
where the moves keep it and the reset state has it. -/
theorem step_keeps_of_moves {P : State → Prop} (moves : ∀ s t, Move s t → P s → P t) (reset : P State.reset)
    (blind : ∀ s t : State, t.announce = s.announce → t.route = s.route → t.lighting = s.lighting → P s → P t)
    (h : step s = .next t) (p : P s) : P t := by
  refine step_keeps (fun p s => blind s _ rfl rfl rfl) (fun u v act ok => ?_) h p
  cases act with
  | move run => exact run.keep moves ok
  | reply r _ => exact blind u _ rfl rfl rfl ok
  | request r =>
    unfold takeRequest
    split
    · exact blind u _ rfl rfl rfl ok
    · split
      · exact blind u _ rfl rfl rfl ok
      · exact blind u _ rfl rfl rfl ok
  | reset => exact blind State.reset _ rfl rfl rfl reset
  | @mix t run =>
    refine blind t (zoneSteps t) rfl rfl rfl (run.keep moves ?_)
    rw [(mixFrameWrites_spec u).1]
    exact blind u _ rfl rfl rfl ok

/-! ### The announcement queue -/

theorem insertRanked_perm (e : Entry) (l : List Entry) : (insertRanked e l).Perm (e :: l) := by
  induction l with
  | nil => exact .refl _
  | cons x xs ih =>
    rw [insertRanked]
    split
    · exact .refl _
    · exact (ih.cons x).trans (.swap e x xs)

theorem AnnClass.code_inj {a b : AnnClass} (h : a.code = b.code) : a = b := by
  revert h
  cases a <;> cases b <;> decide

theorem outranks_iff {a b : Entry} : outranks a b = true ↔ ranksBefore a b := by
  simp only [outranks, ranksBefore, Bool.or_eq_true, Bool.and_eq_true, decide_eq_true_eq]
  exact or_congr_right (and_congr_left' ⟨AnnClass.code_inj, congrArg _⟩)

theorem ranksBefore.trans {a b c : Entry} (h : ranksBefore a b) (k : ranksBefore b c) : ranksBefore a c := by
  rcases h with h | ⟨h, older⟩ <;> rcases k with k | ⟨k, younger⟩
  · exact .inl (h.trans k)
  · exact .inl (k ▸ h)
  · exact .inl (h ▸ k)
  · exact .inr ⟨h.trans k, older.trans younger⟩

theorem ranksBefore_of_not_outranks {a b : Entry} (h : ¬ outranks a b = true) (other : a.arrival ≠ b.arrival) :
    ranksBefore b a := by
  rw [outranks_iff, ranksBefore, not_or, not_and] at h
  obtain ⟨notBetter, notOlder⟩ := h
  rcases Nat.lt_trichotomy a.cls.code b.cls.code with lt | eq | gt
  · exact absurd lt notBetter
  · have same := AnnClass.code_inj eq
    have := notOlder same
    exact .inr ⟨same.symm, by omega⟩
  · exact .inl gt

/-- An entry with an arrival order of its own is put at its rank (R136). -/
theorem insertRanked_pairwise {e : Entry} {l : List Entry} (ranked : l.Pairwise ranksBefore)
    (own : ∀ x ∈ l, e.arrival ≠ x.arrival) : (insertRanked e l).Pairwise ranksBefore := by
  induction l with
  | nil => exact List.pairwise_singleton _ e
  | cons x xs ih =>
    obtain ⟨before, rest⟩ := List.pairwise_cons.1 ranked
    obtain ⟨own_x, own_xs⟩ := List.forall_mem_cons.1 own
    rw [insertRanked]
    split
    · next first =>
      have e_first := outranks_iff.1 first
      exact List.pairwise_cons.2 ⟨List.forall_mem_cons.2 ⟨e_first, fun y mem => e_first.trans (before y mem)⟩, ranked⟩
    · next later =>
      refine List.pairwise_cons.2 ⟨fun y mem => ?_, ih rest own_xs⟩
      rcases List.mem_cons.1 ((insertRanked_perm e xs).mem_iff.1 mem) with rfl | mem
      · exact ranksBefore_of_not_outranks later own_x
      · exact before y mem

/-- The arrival orders of the entries queued, the path entry's first. -/
def arrivals (a : Announcer) : List Nat := (a.path.toList ++ a.waiting).map Entry.arrival

/-- The entries queued stand in rank order, each with an arrival order of its own (R134, R136). -/
def Ranked (a : Announcer) : Prop :=
  a.waiting.Pairwise ranksBefore ∧ (arrivals a).Nodup ∧ ∀ n ∈ arrivals a, n < a.nextArrival

theorem waitingRanked_iff : waitingRanked s ↔ Ranked s.announce := by
  simp [waitingRanked, Ranked, arrivals, or_imp, forall_and]

/-- Entries that were all queued before keep their own orders of arrival. -/
theorem Ranked.of_subperm {a b : Announcer} (h : Ranked a) (waiting : b.waiting.Pairwise ranksBefore)
    (sub : (arrivals b).Subperm (arrivals a)) (next : b.nextArrival = a.nextArrival) : Ranked b := by
  obtain ⟨_, own, below⟩ := h
  obtain ⟨l, perm, less⟩ := sub
  exact ⟨waiting, perm.nodup_iff.1 (own.sublist less), fun n mem => next ▸ below n (less.subset (perm.mem_iff.2 mem))⟩

theorem Ranked.fewer {a : Announcer} {w : List Entry} (h : Ranked a) (sub : w.Sublist a.waiting) :
    Ranked { a with waiting := w } :=
  h.of_subperm (h.1.sublist sub) ((sub.append_left _).map _).subperm rfl

theorem AnnounceMove.ranked {a b : Announcer} (move : AnnounceMove a b) (h : Ranked a) : Ranked b := by
  obtain ⟨ranked, own, below⟩ := h
  have whole : Ranked a := ⟨ranked, own, below⟩
  cases move with
  | clock tickets start duration => exact whole
  | @phase e f path same =>
    refine whole.of_subperm ranked (List.Perm.subperm (.of_eq ?_)) rfl
    simp [arrivals, path, same.2.2]
  | free =>
    refine whole.of_subperm ranked (List.Sublist.subperm ?_) rfl
    exact (List.sublist_append_right _ _).map _
  | fewer sub => exact whole.fewer sub
  | @widen f same =>
    refine whole.of_subperm (List.pairwise_map.2 (ranked.imp fun {x y} before => ?_)) (List.Perm.subperm (.of_eq ?_)) rfl
    · simpa only [ranksBefore, (same x).1, (same y).1, (same x).2.2, (same y).2.2] using before
    · simp [arrivals, Function.comp_def, fun e => (same e).2.2]
  | @insert e base fresh sub room new =>
    obtain ⟨ranked, own, below⟩ := whole.fewer sub
    have perm : (arrivals { a with waiting := insertRanked e base, nextArrival := a.nextArrival + 1 }).Perm
        (e.arrival :: arrivals { a with waiting := base }) := by
      simp only [arrivals]
      exact (((insertRanked_perm e base).append_left _).trans List.perm_middle).map _
    have younger : ∀ n ∈ arrivals { a with waiting := base }, n < e.arrival := fun n mem => fresh ▸ below n mem
    refine ⟨insertRanked_pairwise ranked fun x mem => ?_, perm.nodup_iff.2 (List.nodup_cons.2 ⟨?_, own⟩), fun n mem => ?_⟩
    · exact Nat.ne_of_gt (younger _ (List.mem_map_of_mem (List.mem_append_right _ mem)))
    · exact fun mem => Nat.lt_irrefl _ (younger _ mem)
    · rcases List.mem_cons.1 (perm.mem_iff.1 mem) with rfl | mem
      · exact fresh ▸ Nat.lt_succ_self _
      · exact Nat.lt_succ_of_lt (below n mem)
  | @start w rest e path waiting same =>
    rw [waiting] at ranked
    refine whole.of_subperm (List.pairwise_cons.1 ranked).2 (List.Perm.subperm (.of_eq ?_)) rfl
    simp [arrivals, path, waiting, same.2.2]
  | @back e f path same =>
    have sub : (a.waiting.filter fun x => !alike e.clip e.cls x).Sublist a.waiting := List.filter_sublist
    have old : arrivals a = e.arrival :: a.waiting.map Entry.arrival := by simp [arrivals, path]
    have orders : (arrivals { a with
        path := none, waiting := insertRanked f (a.waiting.filter fun x => !alike e.clip e.cls x) }).Subperm
        (arrivals a) := by
      rw [old, ← same.2.2]
      exact ((insertRanked_perm f _).map _).subperm.trans ((sub.map _).cons_cons _).subperm
    refine whole.of_subperm (insertRanked_pairwise (ranked.sublist sub) fun x mem at_e => ?_) orders rfl
    rw [old] at own
    refine (List.nodup_cons.1 own).1 ?_
    rw [← same.2.2, at_e]
    exact List.mem_map_of_mem (sub.subset mem)

theorem Move.waitingRanked (move : Move s t) (h : waitingRanked s) : waitingRanked t := by
  rw [waitingRanked_iff] at h ⊢
  cases move with
  | notify n => rw [notify_announce]; exact h
  | announce m => exact m.ranked h
  | _ => exact h

/-- No two of the entries are for the same clip and class (R137). -/
def Distinct (l : List Entry) : Prop := l.Pairwise fun a b => ¬ (a.clip = b.clip ∧ a.cls = b.cls)

theorem Distinct.insert {e : Entry} {l : List Entry} (h : Distinct l)
    (new : ∀ x ∈ l, ¬ (x.clip = e.clip ∧ x.cls = e.cls)) : Distinct (insertRanked e l) := by
  refine (List.Perm.pairwise_iff (fun differ same => differ ⟨same.1.symm, same.2.symm⟩) (insertRanked_perm e l)).2 ?_
  exact List.pairwise_cons.2 ⟨fun x mem same => new x mem ⟨same.1.symm, same.2.symm⟩, h⟩

/-- The entries queued, the path entry among them, of an announcement controller (R137). -/
def Announcer.count (a : Announcer) : Nat := a.waiting.length + a.path.toList.length

theorem AnnounceMove.distinct {a b : Announcer} (move : AnnounceMove a b) (h : Distinct a.waiting) :
    Distinct b.waiting := by
  cases move with
  | clock tickets start duration => exact h
  | phase path same => exact h
  | free => exact h
  | fewer sub => exact h.sublist sub
  | @widen f same =>
    refine List.pairwise_map.2 (h.imp fun {x y} differ => ?_)
    simpa only [(same x).1, (same y).1, (same x).2.1, (same y).2.1] using differ
  | insert fresh sub room new => exact Distinct.insert (h.sublist sub) new
  | start path waiting same =>
    rw [waiting] at h
    exact (List.pairwise_cons.1 h).2
  | @back e f path same =>
    refine Distinct.insert (h.sublist List.filter_sublist) fun x mem alike_f => ?_
    have other := (List.mem_filter.1 mem).2
    simp [alike, alike_f, same.1, same.2.1] at other

theorem AnnounceMove.count_le {a b : Announcer} (move : AnnounceMove a b) (h : a.count ≤ 8) : b.count ≤ 8 := by
  unfold Announcer.count at *
  cases move with
  | clock tickets start duration => exact h
  | phase path same => simpa [path] using h
  | free => exact (Nat.le_add_right _ _).trans h
  | fewer sub => exact (Nat.add_le_add_right sub.length_le _).trans h
  | widen same => simpa using h
  | @insert e base fresh sub room new =>
    have size := (insertRanked_perm e base).length_eq
    simp only [List.length_cons] at size
    simp only [size]
    rcases room with room | shorter <;> omega
  | start path waiting same => simpa [path, waiting] using h
  | @back e f path same =>
    have size := (insertRanked_perm f (a.waiting.filter fun x => !alike e.clip e.cls x)).length_eq
    have fewer := List.length_filter_le (fun x => !alike e.clip e.cls x) a.waiting
    simp only [List.length_cons] at size
    simp only [path, Option.toList_some, List.length_singleton] at h
    simp only [size, Option.toList_none, List.length_nil]
    omega

/-! ### The route engine -/

@[simp] theorem Route.marked_cue_ne {r : Route} {i j : Nat} {x : CueState} (other : i ≠ j) :
    (r.marked i x).cue j = r.cue j := by
  simp [Route.marked, Route.cue, other]

/-- A cue outside the table stays the reset cue, whatever is written. -/
theorem Route.marked_cue_self (r : Route) (i : Nat) (x : CueState) :
    (r.marked i x).cue i = { r.cue i with state := x } ∨ (r.marked i x).cue i = r.cue i := by
  cases entry : r.cues[i]? with
  | none => exact .inr (by simp [Route.marked, Route.cue, entry])
  | some c => exact .inl (by simp [Route.marked, Route.cue, entry])

theorem Route.marked_cue_inUse {r : Route} {i : Nat} {x : CueState} (inUse : (r.cue i).inUse = true) :
    (r.marked i x).cue i = { r.cue i with state := x } := by
  cases entry : r.cues[i]? with
  | none => simp [Route.cue, entry, cueReset] at inUse
  | some c => simp [Route.marked, Route.cue, entry]

@[simp] theorem Route.left_cue (r : Route) (i j : Nat) (x : CueState) (q : Option StopRequest) :
    (r.left i x q).cue j = (r.marked i x).cue j := rfl

/-- A cue on the open-cue list may be PENDING or DEFERRED (R113). -/
def opened (c : Cue) : Prop := c.state = .pending ∨ c.state = .deferred

/-- The open-cue list holds no cue twice, and open cues alone (R113). -/
def Route.OpenSound (r : Route) : Prop := r.openCues.Nodup ∧ ∀ i ∈ r.openCues, opened (r.cue i)

theorem openCuesSound_iff : openCuesSound s ↔ s.route.OpenSound := Iff.rfl

theorem Route.OpenSound.left {r : Route} (h : r.OpenSound) (i : Nat) (x : CueState) (q : Option StopRequest) :
    (r.left i x q).OpenSound := by
  obtain ⟨once, open_⟩ := h
  refine ⟨once.filter _, fun j mem => ?_⟩
  obtain ⟨before, other⟩ := List.mem_filter.1 mem
  rw [Route.left_cue, Route.marked_cue_ne (Ne.symm (by simpa using other))]
  exact open_ j before

theorem Route.OpenSound.marked {r : Route} (h : r.OpenSound) (i : Nat) {x : CueState} (opens : x = .pending ∨ x = .deferred) :
    (r.marked i x).OpenSound := by
  obtain ⟨once, open_⟩ := h
  refine ⟨once, fun j mem => ?_⟩
  by_cases here : i = j
  · subst here
    rcases Route.marked_cue_self r i x with marked | same
    · rw [marked]; exact opens
    · rw [same]; exact open_ i mem
  · rw [Route.marked_cue_ne here]
    exact open_ j mem

/-- An open cue that is not on the list joins it. -/
theorem Route.OpenSound.append {r : Route} (h : r.OpenSound) {i : Nat} (new : i ∉ r.openCues) (open_ : opened (r.cue i)) :
    Route.OpenSound { r with openCues := r.openCues ++ [i] } := by
  refine ⟨List.nodup_append.2 ⟨h.1, List.nodup_singleton i, ?_⟩, fun j mem => ?_⟩
  · rintro a mem b one rfl
    exact new (List.mem_singleton.1 one ▸ mem)
  · rcases List.mem_append.1 mem with before | one
    · exact h.2 j before
    · exact List.mem_singleton.1 one ▸ open_

theorem rearmed_of_behind {m : Nat} {c : Cue} (behind : ¬ m < c.trigger) : rearmed m c = false := by
  simp [rearmed, behind]

/-- A backward fix leaves a cue, or arms it again (R119). -/
theorem Route.cue_map_rearmed (r : Route) (m i : Nat) :
    (r.cues.map fun c => if rearmed m c then { c with state := .armed } else c).getD i cueReset =
      if rearmed m (r.cue i) then { r.cue i with state := .armed } else r.cue i := by
  have outside : rearmed m cueReset = false := rearmed_of_behind (Nat.not_lt_zero m)
  simp only [Route.cue, List.getD_eq_getElem?_getD, List.getElem?_map]
  cases r.cues[i]? with
  | none => simp [outside]
  | some c => rfl

theorem writeAt_getElem?_of_outside {α : Type} {l records : List α} {first i : Nat}
    (outside : i < first ∨ first + records.length ≤ i) : (writeAt l first records)[i]? = l[i]? := by
  induction records generalizing l first with
  | nil => rfl
  | cons r rs ih =>
    simp only [List.length_cons] at outside
    rw [writeAt, ih (by omega), List.getElem?_set_ne (by omega)]

theorem RouteMove.openSound {r u : Route} (move : RouteMove r u) (h : r.OpenSound) : u.OpenSound := by
  cases move with
  | travel d n => exact h
  | leave follows => exact h.left _ _ _
  | defer pending => exact h.marked _ (.inr rfl)
  | @join i x armed inUse opens room =>
    refine (h.marked i opens).append (fun mem => ?_) ?_
    · rcases h.2 i mem with pending | deferred
      · exact nomatch armed.symm.trans pending
      · exact nomatch armed.symm.trans deferred
    · rw [Route.marked_cue_inUse inUse]; exact opens
  | @overflow i x j rest q armed inUse opens list follows =>
    have new : i ∉ r.openCues := fun mem => by
      rcases h.2 i mem with pending | deferred
      · exact nomatch armed.symm.trans pending
      · exact nomatch armed.symm.trans deferred
    have other : j ≠ i := fun same => new (same ▸ list ▸ List.mem_cons_self)
    refine ((h.marked i opens).left j .skipped q).append (fun mem => new (List.mem_filter.1 mem).1) ?_
    rw [Route.left_cue, Route.marked_cue_ne other, Route.marked_cue_inUse inUse]
    exact opens
  | backward m n =>
    refine ⟨h.1.filter _, fun i mem => ?_⟩
    obtain ⟨before, behind⟩ := List.mem_filter.1 mem
    refine (congrArg opened ((Route.cue_map_rearmed r m i).trans (if_neg ?_))).mpr (h.2 i before)
    rw [rearmed_of_behind (by simpa using behind)]
    exact Bool.false_ne_true
  | start => exact ⟨List.nodup_nil, fun _ mem => nomatch mem⟩
  | run moving => exact h
  | stop => exact h
  | request moving targets => exact h
  | write first records stopped =>
    refine ⟨h.1.filter _, fun i mem => ?_⟩
    obtain ⟨before, outside⟩ := List.mem_filter.1 mem
    have unwritten : i < first ∨ first + records.length ≤ i := by
      simp only [Bool.not_eq_true', Bool.and_eq_false_iff, decide_eq_false_iff_not] at outside
      omega
    have same : (writeAt r.cues first records).getD i cueReset = r.cue i := by
      rw [List.getD_eq_getElem?_getD, writeAt_getElem?_of_outside unwritten]
      rfl
    exact (congrArg opened same).mpr (h.2 i before)

theorem RouteMove.openCues_length_le {r u : Route} (move : RouteMove r u) (h : r.openCues.length ≤ 16) :
    u.openCues.length ≤ 16 := by
  cases move with
  | travel d n => exact h
  | leave follows => exact (List.length_filter_le _ _).trans h
  | defer pending => exact h
  | join armed inUse opens room => simpa using Nat.succ_le_of_lt room
  | @overflow i x j rest q armed inUse opens list follows =>
    rw [list] at h
    have fewer := List.length_filter_le (fun k => !decide (k = j)) rest
    simp only [List.length_cons] at h
    simp only [Route.left, Route.marked, list, List.length_append, List.length_singleton, List.filter_cons,
      decide_true, Bool.not_true, Bool.false_eq_true, if_false]
    omega
  | backward m n => exact (List.length_filter_le _ _).trans h
  | start => exact Nat.zero_le _
  | run moving => exact h
  | stop => exact h
  | request moving targets => exact h
  | write first records stopped => exact (List.length_filter_le _ _).trans h

/-- A requested stop names a cue that a stop press may target, and a STOPPED route has none (R107, R120). -/
def Route.RequestSound (r : Route) : Prop :=
  (r.state = .stopped → r.requested = none) ∧
    ∀ q, r.requested = some q → stopTargets (r.cue q.cue) ∧ (r.cue q.cue).stop = q.stop

theorem requestedSound_iff : requestedSound s ↔ s.route.RequestSound := Iff.rfl

theorem stopTargets_marked {c : Cue} {x : CueState} (h : stopTargets c) (opens : x = .pending ∨ x = .deferred) :
    stopTargets { c with state := x } := ⟨h.1, h.2.1, .inr opens⟩

theorem Route.RequestSound.marked {r : Route} (h : r.RequestSound) (i : Nat) {x : CueState}
    (opens : x = .pending ∨ x = .deferred) : (r.marked i x).RequestSound := by
  refine ⟨h.1, fun q requested => ?_⟩
  obtain ⟨targets, stop⟩ := h.2 q requested
  by_cases here : i = q.cue
  · subst here
    rcases Route.marked_cue_self r q.cue x with marked | same
    · rw [marked]; exact ⟨stopTargets_marked targets opens, stop⟩
    · rw [same]; exact ⟨targets, stop⟩
  · rw [Route.marked_cue_ne here]
    exact ⟨targets, stop⟩

theorem Route.RequestSound.left {r : Route} (h : r.RequestSound) {i : Nat} {q : Option StopRequest} (x : CueState)
    (follows : stopFollows r i q) : (r.left i x q).RequestSound := by
  obtain ⟨stands, gone⟩ := follows
  refine ⟨fun stopped => ?_, fun z requested => ?_⟩
  · rcases stands with same | none
    · exact same.trans (h.1 stopped)
    · exact none
  · have requested : q = some z := requested
    have before : r.requested = some z := by
      rcases stands with same | none
      · exact same.symm.trans requested
      · exact nomatch none.symm.trans requested
    obtain ⟨targets, stop⟩ := h.2 z before
    have other : i ≠ z.cue := by
      rintro rfl
      exact nomatch (gone z before rfl targets.2.1 stop).symm.trans requested
    rw [Route.left_cue, Route.marked_cue_ne other]
    exact ⟨targets, stop⟩

theorem RouteMove.requestSound {r u : Route} (move : RouteMove r u) (h : r.RequestSound) : u.RequestSound := by
  cases move with
  | travel d n => exact h
  | leave follows => exact h.left _ follows
  | defer pending => exact h.marked _ (.inr rfl)
  | join armed inUse opens room => exact h.marked _ opens
  | overflow armed inUse opens list follows => exact (h.marked _ opens).left _ follows
  | backward m n =>
    refine ⟨h.1, fun q requested => ?_⟩
    obtain ⟨targets, stop⟩ := h.2 q requested
    have cue : Route.cue { r with
        openCues := r.openCues.filter fun i => !decide (m < (r.cue i).trigger)
        cues := r.cues.map (fun c => if rearmed m c then { c with state := .armed } else c)
        cursor := n } q.cue = _ := Route.cue_map_rearmed r m q.cue
    rw [cue]
    split
    · exact ⟨⟨targets.1, targets.2.1, .inl rfl⟩, stop⟩
    · exact ⟨targets, stop⟩
  | start => exact ⟨fun _ => rfl, fun _ requested => nomatch requested⟩
  | run moving => exact ⟨fun stopped => absurd stopped moving, h.2⟩
  | stop => exact ⟨fun _ => rfl, fun _ requested => nomatch requested⟩
  | request moving targets =>
    refine ⟨fun stopped => absurd stopped moving, fun q requested => ?_⟩
    obtain rfl := Option.some.inj requested
    exact ⟨targets, rfl⟩
  | write first records stopped =>
    have none : r.requested = none := h.1 stopped
    exact ⟨fun _ => none, fun q requested => nomatch none.symm.trans requested⟩

theorem Move.openCuesSound (move : Move s t) (h : openCuesSound s) : openCuesSound t := by
  rw [openCuesSound_iff] at h ⊢
  cases move with
  | notify n => rw [notify_route]; exact h
  | route m => exact m.openSound h
  | _ => exact h

theorem Move.requestedSound (move : Move s t) (h : requestedSound s) : requestedSound t := by
  rw [requestedSound_iff] at h ⊢
  cases move with
  | notify n => rw [notify_route]; exact h
  | route m => exact m.requestSound h
  | _ => exact h

/-! ### The bounds of the lists -/

theorem Move.bounded (move : Move s t) (h : bounded s) : bounded t := by
  obtain ⟨frames, cues, entries, requests, replies, notices⟩ := h
  cases move with
  | notify n =>
    refine ⟨?_, ?_, ?_, ?_, ?_, notify_notices_le s n notices⟩
    · rw [notify_playout]; exact frames
    · rw [notify_route]; exact cues
    · rw [queuedCount, notify_announce]; exact entries
    · rw [notify_requests]; exact requests
    · rw [notify_replies]; exact replies
  | announce m => exact ⟨frames, cues, m.count_le entries, requests, replies, notices⟩
  | route m => exact ⟨frames, m.openCues_length_le cues, entries, requests, replies, notices⟩
  | playout m => exact ⟨m frames, cues, entries, requests, replies, notices⟩
  | manage fewerRequests fewerReplies fewerNotices =>
    exact ⟨frames, cues, entries, fewerRequests.trans requests, fewerReplies.trans replies, fewerNotices.trans notices⟩
  | _ => exact ⟨frames, cues, entries, requests, replies, notices⟩

theorem Move.waitingDistinct (move : Move s t) (h : waitingDistinct s) : waitingDistinct t := by
  have whole : Distinct s.announce.waiting := h
  show Distinct t.announce.waiting
  cases move with
  | notify n => rw [notify_announce]; exact h
  | announce m => exact m.distinct h
  | _ => exact h

theorem takeRequest_bounded (r : Request) (h : bounded s) : bounded (takeRequest r s) := by
  obtain ⟨frames, cues, entries, requests, replies, notices⟩ := h
  unfold takeRequest
  split
  · next room =>
    exact ⟨frames, cues, entries, by simpa using Nat.succ_le_of_lt (show s.manage.requests.length < 4 from room),
      replies, notices⟩
  · split
    · next room =>
      exact ⟨frames, cues, entries, requests,
        by simpa using Nat.succ_le_of_lt (show s.manage.replies.length < 8 from room), notices⟩
    · exact ⟨frames, cues, entries, requests, replies, notices⟩

theorem Act.bounded (act : Act s t) (h : bounded s) : bounded t := by
  cases act with
  | move run => exact run.keep (fun _ _ => Move.bounded) h
  | reply r room =>
    obtain ⟨frames, cues, entries, requests, replies, notices⟩ := h
    exact ⟨frames, cues, entries, requests, by simpa [addReply] using Nat.succ_le_of_lt room, notices⟩
  | request r => exact takeRequest_bounded r h
  | reset => exact ⟨Nat.zero_le _, Nat.zero_le _, Nat.zero_le _, Nat.zero_le _, Nat.zero_le _, Nat.zero_le _⟩
  | mix run =>
    refine run.keep (P := Machine.bounded) (fun _ _ => Move.bounded) ?_
    rw [(mixFrameWrites_spec s).1]
    exact h

end Sys2Proof.Machine

namespace Sys2Proof.Proofs

open Sys2Proof Sys2Proof.Machine

/-- Settles O56: each part is kept by every move of its block, and the bounds by the replies and requests that the
other acts add where there is room. -/
theorem stepKeepsBounds : Obligations.StepKeepsBounds := by
  intro s t h
  refine ⟨fun bounds distinct => ⟨?bounds, ?distinct⟩, ?ranked, ?cues, ?stop⟩
  case bounds => exact step_keeps (P := bounded) (fun _ _ ok => ok) (fun _ _ => Act.bounded) h bounds
  case distinct =>
    exact step_keeps_of_moves (P := waitingDistinct) (fun _ _ => Move.waitingDistinct) List.Pairwise.nil
      (fun _ _ announce _ _ ok => (congrArg (fun a : Announcer => Distinct a.waiting) announce).mpr ok) h distinct
  case ranked =>
    refine step_keeps_of_moves (P := waitingRanked) (fun _ _ => Move.waitingRanked)
      ⟨List.Pairwise.nil, List.nodup_nil, fun _ mem => nomatch mem⟩ (fun _ _ announce _ _ ok => ?_) h
    rw [waitingRanked_iff, announce]
    exact waitingRanked_iff.1 ok
  case cues =>
    refine step_keeps_of_moves (P := openCuesSound) (fun _ _ => Move.openCuesSound)
      ⟨List.nodup_nil, fun _ mem => nomatch mem⟩ (fun _ _ _ route _ ok => ?_) h
    rw [openCuesSound_iff, route]
    exact ok
  case stop =>
    refine step_keeps_of_moves (P := requestedSound) (fun _ _ => Move.requestedSound)
      ⟨fun _ => rfl, fun _ requested => nomatch requested⟩ (fun _ _ _ route _ ok => ?_) h
    rw [requestedSound_iff, route]
    exact ok

end Sys2Proof.Proofs

/-! The ranges that every step keeps: the lamp levels, the ducks, the seat samples and the seats' languages. -/

namespace Sys2Proof.Machine

variable {s t : State}

/-! ### The lamps (R159 to R162) -/

/-- A lamp channel as it stood before the changes of a moment keeps to the range of lamp levels. -/
def startInRange (b : LampStart) : Prop :=
  b.level ≤ 1000 ∧ b.setting.target ≤ 1000 ∧ transitionInRange b.transition

/-- The range of lamp levels, said of the lighting controller alone. -/
def Lighting.InRange (g : Lighting) : Prop :=
  (∀ scene ∈ g.scenes, ∀ p ∈ scene, p.target ≤ 1000) ∧ g.params.indicatorLevel ≤ 1000 ∧ ∀ x ∈ g.lamps, lampInRange x

theorem lightingInRange_iff : lightingInRange s ↔ s.lighting.InRange := Iff.rfl

theorem transitionInRange_settled (x : Setting) : transitionInRange (settled x) := by
  unfold settled
  split <;> trivial

theorem transitionInRange_tickTransition {x : Transition} (h : transitionInRange x) :
    transitionInRange (tickTransition x) := by
  cases x with
  | fading start steps taken next => exact h
  | steady => trivial
  | flashOn left => trivial
  | flashOff left => trivial

/-- A level between two levels in the range is in the range (R161). -/
theorem fadeLevel_le {start target i k : Nat} (from_ok : start ≤ 1000) (to_ok : target ≤ 1000) (step : i ≤ k) :
    fadeLevel start target i k ≤ 1000 := by
  rcases Nat.eq_zero_or_pos k with rfl | some
  · simpa [fadeLevel] using from_ok
  have within : (((target : Int) - start) * i).tdiv k ≤ max ((target : Int) - start) 0 := by
    rcases Int.le_total 0 ((target : Int) - start) with up | down
    · rw [Int.tdiv_eq_ediv_of_nonneg (by positivity), max_eq_left up]
      refine Int.ediv_le_of_le_mul (by omega) ?_
      exact mul_le_mul_of_nonneg_left (by omega) up
    · rw [max_eq_right down]
      have falls : 0 ≤ ((start : Int) - target) * i := mul_nonneg (by omega) (by positivity)
      rw [← Int.neg_sub, Int.neg_mul, Int.neg_tdiv]
      exact Int.neg_nonpos_of_nonneg (Int.tdiv_nonneg falls (by positivity))
  unfold fadeLevel
  omega

theorem lampStart_inRange {x : Lamp} (h : lampInRange x) : startInRange (lampStart x) := by
  obtain ⟨level, target, transition, before⟩ := h
  cases began : x.began with
  | none => rw [lampStart_eq_iff.2 (.inr ⟨began, rfl⟩)]; exact ⟨level, target, transition⟩
  | some b => rw [lampStart_eq_iff.2 (.inl began)]; exact before b began

theorem beginTransition_inRange {new : Setting} {b : LampStart} (target : new.target ≤ 1000) (start : startInRange b) :
    lampInRange (beginTransition new b) := by
  have before : ∀ c, some b = some c → startInRange c := fun c same => Option.some.inj same ▸ start
  unfold beginTransition
  split
  · next long => exact ⟨start.1, target, ⟨start.1, by omega⟩, before⟩
  · exact ⟨target, target, transitionInRange_settled new, before⟩

theorem takeSetting_inRange {new : Setting} {x : Lamp} (target : new.target ≤ 1000) (h : lampInRange x) :
    lampInRange (takeSetting new x) := by
  rcases takeSetting_cases new x with ⟨_, keeps⟩ | ⟨_, _, returns⟩ | ⟨_, _, begins⟩
  · rw [keeps]; exact h
  · obtain ⟨level, held, transition⟩ := lampStart_inRange h
    rw [returns]
    exact ⟨level, held, transition, fun _ began => nomatch began⟩
  · rw [begins]; exact beginTransition_inRange target (lampStart_inRange h)

/-- A governing target comes from a scene, from the parameters, or is 0 (R159). -/
theorem governing_target_le {g : Lighting} (scenes : ∀ scene ∈ g.scenes, ∀ p ∈ scene, p.target ≤ 1000)
    (indicator : g.params.indicatorLevel ≤ 1000) (c : Nat) : (governing g c).target ≤ 1000 := by
  rcases governs_governing (g := g) (c := c) with ⟨l, claims, _⟩ | ⟨_, unclaimed⟩
  · rcases claims with ⟨n, parts, p, scene, part, _, _, eq⟩ | ⟨_, _, _, eq⟩
    · rw [eq]
      exact scenes parts (List.mem_of_getElem? scene) p (List.mem_of_getElem? part)
    · rw [eq]
      exact indicator
  · rw [unclaimed]
    exact Nat.zero_le _

theorem resolve_inRange {g : Lighting} (h : g.InRange) : (resolve g).InRange := by
  obtain ⟨scenes, indicator, lamps⟩ := h
  refine ⟨scenes, indicator, fun y mem => ?_⟩
  obtain ⟨c, at_c⟩ := List.mem_iff_getElem?.1 mem
  rw [resolve_getElem?] at at_c
  obtain ⟨x, old, rfl⟩ := Option.map_eq_some_iff.1 at_c
  exact takeSetting_inRange (governing_target_le scenes indicator c) (lamps x (List.mem_of_getElem? old))

theorem stepFade_inRange {x : Lamp} (h : lampInRange x) : lampInRange (stepFade x) := by
  unfold stepFade
  split
  · next start steps taken fading =>
    obtain ⟨_, target, transition, _⟩ := h
    rw [fading] at transition
    obtain ⟨from_ok, left⟩ := transition
    refine ⟨fadeLevel_le from_ok target left, target, ?_, fun _ began => nomatch began⟩
    split
    · exact transitionInRange_settled _
    · next more => exact ⟨from_ok, Nat.lt_of_not_le more⟩
  · exact h

theorem flipFlash_inRange {x : Lamp} (h : lampInRange x) : lampInRange (flipFlash x) := by
  have ⟨_, target, _⟩ := h
  unfold flipFlash
  split
  · exact ⟨Nat.zero_le _, target, trivial, fun _ began => nomatch began⟩
  · exact ⟨target, target, trivial, fun _ began => nomatch began⟩
  · exact h

theorem tickLamp_inRange {x : Lamp} (h : lampInRange x) : lampInRange (tickLamp x) := by
  obtain ⟨level, target, transition, _⟩ := h
  have passed : lampInRange (passMoment x) := ⟨level, target, transition, fun _ began => nomatch began⟩
  unfold tickLamp
  split
  · exact passed
  · dsimp only
    split
    · exact ⟨level, target, transition, fun _ began => nomatch began⟩
    · exact ⟨level, target, transitionInRange_tickTransition transition, fun _ began => nomatch began⟩

theorem LightMove.inRange {g h : Lighting} (move : LightMove g h) (ok : g.InRange) : h.InRange := by
  obtain ⟨scenes, indicator, lamps⟩ := ok
  cases move with
  | layers same_scenes same_params same_lamps =>
    refine resolve_inRange ⟨?_, ?_, ?_⟩
    · rw [same_scenes]; exact scenes
    · rw [same_params]; exact indicator
    · rw [same_lamps]; exact lamps
  | scenes keeps => exact resolve_inRange ⟨keeps scenes, indicator, lamps⟩
  | params level => exact resolve_inRange ⟨scenes, level, lamps⟩
  | @lamp c f step =>
    refine ⟨scenes, indicator, fun y mem => ?_⟩
    have keeps : ∀ x, lampInRange x → lampInRange (f x) := by
      rcases step with rfl | rfl
      · exact fun x => stepFade_inRange
      · exact fun x => flipFlash_inRange
    obtain ⟨i, at_i⟩ := List.mem_iff_getElem?.1 mem
    rw [List.getElem?_modify] at at_i
    obtain ⟨x, old, rfl⟩ := Option.map_eq_some_iff.1 at_i
    have ok := lamps x (List.mem_of_getElem? old)
    split
    · exact keeps x ok
    · exact ok
  | tick =>
    refine ⟨scenes, indicator, fun y mem => ?_⟩
    obtain ⟨x, old, rfl⟩ := List.mem_map.1 mem
    exact tickLamp_inRange (lamps x old)

theorem Move.lightingInRange (move : Move s t) (h : lightingInRange s) : lightingInRange t := by
  rw [lightingInRange_iff] at h ⊢
  cases move with
  | notify n => rw [notify_lighting]; exact h
  | lighting m => exact m.inRange h
  | _ => exact h

theorem lightingInRange_reset : lightingInRange State.reset := by
  refine ⟨by decide +kernel, by decide, fun x mem => ?_⟩
  obtain rfl : x = _ := List.eq_of_mem_replicate mem
  exact ⟨by decide, by decide, trivial, fun _ began => nomatch began⟩

/-! ### The ducks (R42) -/

/-- The moves leave the ducks, and the parameters of the mix engine, which are written at a frame start. -/
theorem Moves.ducks (run : Moves s t) :
    t.mix.zones.map Zone.duck = s.mix.zones.map Zone.duck ∧ t.mix.params = s.mix.params := by
  refine run.keep (P := fun u => u.mix.zones.map Zone.duck = s.mix.zones.map Zone.duck ∧ u.mix.params = s.mix.params)
    (fun u v move same => ?_) ⟨rfl, rfl⟩
  cases move with
  | notify n => rw [notify_mix]; exact same
  | zones keeps => exact ⟨keeps.trans same.1, same.2⟩
  | _ => exact same

theorem ducksInRange_iff : ducksInRange s ↔
    ∀ d ∈ s.mix.zones.map Zone.duck, -(s.mix.params.duckDepth : Int) ≤ d ∧ d ≤ 0 :=
  by
  rw [ducksInRange, List.forall_mem_map]

/-- A duck step ends in range from any attenuation, also where the depth has become less (R42). -/
theorem duckStep_inRange {p : MixParams} {ducked : Bool} {z : Zone} (h : z.duck ≤ 0) :
    -(p.duckDepth : Int) ≤ (duckStep p ducked z).duck ∧ (duckStep p ducked z).duck ≤ 0 := by
  unfold duckStep
  cases ducked <;> simp only [if_true, Bool.false_eq_true, if_false] <;> split <;> omega

theorem mem_stepZones {y : Zone} {z : Nat} {xs : List Zone} (mem : y ∈ stepZones s z xs) :
    ∃ x ∈ xs, ∃ ducked, y = duckStep s.mix.params ducked (slewStep s.mix.params.noiseSlew x) := by
  induction xs generalizing z with
  | nil => exact nomatch mem
  | cons x xs ih =>
    rcases List.mem_cons.1 mem with rfl | mem
    · exact ⟨x, List.mem_cons_self, _, rfl⟩
    · obtain ⟨x, mem, rest⟩ := ih mem
      exact ⟨x, List.mem_cons_of_mem _ mem, rest⟩

@[simp] theorem slewStep_duck (slew : Nat) (z : Zone) : (slewStep slew z).duck = z.duck := by
  unfold slewStep
  split
  · rfl
  · split
    · split <;> rfl
    · rfl

theorem zoneSteps_ducksInRange (h : ∀ d ∈ s.mix.zones.map Zone.duck, d ≤ 0) : ducksInRange (zoneSteps s) := by
  intro y mem
  obtain ⟨x, old, ducked, rfl⟩ := mem_stepZones mem
  refine duckStep_inRange ?_
  rw [slewStep_duck]
  exact h _ (List.mem_map_of_mem old)

theorem ducksInRange_reset : ducksInRange State.reset := by unfold ducksInRange; decide +kernel

theorem takeRequest_mix (r : Request) (s : State) : (takeRequest r s).mix = s.mix := by
  unfold takeRequest
  split
  · rfl
  · split <;> rfl

theorem Act.ducksInRange (act : Act s t) (h : ducksInRange s) : ducksInRange t := by
  cases act with
  | move run =>
    obtain ⟨ducks, params⟩ := run.ducks
    rw [ducksInRange_iff] at h ⊢
    rw [ducks, params]
    exact h
  | reply r room => exact h
  | request r =>
    unfold Machine.ducksInRange
    rw [takeRequest_mix]
    exact h
  | reset => exact ducksInRange_reset
  | mix run =>
    refine zoneSteps_ducksInRange ?_
    rw [run.ducks.1, (mixFrameWrites_spec s).2.1]
    exact fun d mem => (ducksInRange_iff.1 h d mem).2

/-! ### The samples (R50) -/

theorem samplesInRange_iff : samplesInRange s ↔ ∀ x ∈ s.lines.lines, ∀ slot ∈ x.slots, ∀ y ∈ slot, sampleOk y := Iff.rfl

theorem Move.samplesInRange (move : Move s t) (h : samplesInRange s) : samplesInRange t := by
  rw [samplesInRange_iff] at h ⊢
  cases move with
  | notify n => rw [notify_lines]; exact h
  | lines slots =>
    intro y mem
    rcases slots y mem with ⟨x, old, same⟩ | ok
    · rw [same]; exact h x old
    · exact ok
  | _ => exact h

theorem samplesInRange_reset : samplesInRange State.reset := by unfold samplesInRange; decide +kernel

theorem takeRequest_lines (r : Request) (s : State) : (takeRequest r s).lines = s.lines := by
  unfold takeRequest
  split
  · rfl
  · split <;> rfl

theorem Act.samplesInRange (act : Act s t) (h : samplesInRange s) : samplesInRange t := by
  cases act with
  | move run => exact run.keep (fun _ _ => Move.samplesInRange) h
  | reply r room => exact h
  | request r =>
    unfold Machine.samplesInRange
    rw [takeRequest_lines]
    exact h
  | reset => exact samplesInRange_reset
  | mix run =>
    refine run.keep (P := Machine.samplesInRange) (fun _ _ => Move.samplesInRange) ?_
    rw [(mixFrameWrites_spec s).1]
    exact h

/-! ### The seats (R22, R24, R28) -/

theorem Move.seatsOnOffer (move : Move s t) (h : seatsOnOffer s) : seatsOnOffer t := by
  cases move with
  | notify n =>
    unfold Machine.seatsOnOffer
    rw [notify_seats, notify_mix]
    exact h
  | seats keeps => exact keeps h
  | @heldMix w ok =>
    obtain ⟨size, seats, held, step, heldMix⟩ := h
    refine ⟨size, seats, held, step, fun x mem => ?_⟩
    rcases List.mem_append.1 mem with before | new
    · exact heldMix x before
    · exact List.mem_singleton.1 new ▸ ok
  | _ => exact h

theorem seatsOnOffer_reset : seatsOnOffer State.reset := by
  have seats : ∀ x ∈ State.reset.seats.seats, x.volume ≤ 15 ∧ x.language = none := by decide +kernel
  refine ⟨by decide +kernel, fun x mem => ?_, (fun _ mem => nomatch mem), by decide,
    fun _ mem => nomatch mem⟩
  obtain ⟨volume, language⟩ := seats x mem
  unfold seatOnOffer
  rw [language]
  exact ⟨volume, by decide +kernel⟩

theorem takeRequest_seats (r : Request) (s : State) : (takeRequest r s).seats = s.seats := by
  unfold takeRequest
  split
  · rfl
  · split <;> rfl

/-- The held writes of the mix engine take effect with a default volume step in range (R24, R44). -/
theorem mixFrameWrites_seatsOnOffer (h : seatsOnOffer s) : seatsOnOffer (mixFrameWrites s) := by
  obtain ⟨frame, _, held, _, params⟩ := mixFrameWrites_spec s
  have seats : (mixFrameWrites s).seats = s.seats := by rw [frame]
  obtain ⟨size, offered, heldSeats, step, heldMix⟩ := h
  refine ⟨?_, ?_, ?_, ?_, ?_⟩
  · rw [seats]; exact size
  · rw [seats]; exact offered
  · rw [seats]; exact heldSeats
  · rw [params]; exact foldl_mixWritten_defaultStep_le heldMix step
  · rw [held]; exact fun _ mem => nomatch mem

theorem Act.seatsOnOffer (act : Act s t) (h : seatsOnOffer s) : seatsOnOffer t := by
  cases act with
  | move run => exact run.keep (fun _ _ => Move.seatsOnOffer) h
  | reply r room => exact h
  | request r =>
    unfold Machine.seatsOnOffer
    rw [takeRequest_mix, takeRequest_seats]
    exact h
  | reset => exact seatsOnOffer_reset
  | mix run => exact run.keep (P := Machine.seatsOnOffer) (fun _ _ => Move.seatsOnOffer) (mixFrameWrites_seatsOnOffer h)

end Sys2Proof.Machine

namespace Sys2Proof.Proofs

open Sys2Proof Sys2Proof.Machine

/-- Settles O57: every move keeps the targets, the fades and the levels before a moment in range, and so the levels. -/
theorem stepKeepsLampLevels : Obligations.StepKeepsLampLevels := by
  intro s t h
  refine step_keeps_of_moves (P := lightingInRange) (fun _ _ => Move.lightingInRange) lightingInRange_reset
    (fun _ _ _ _ lighting ok => ?_) h
  rw [lightingInRange_iff, lighting]
  exact ok

/-- Settles O58: the ducks change in the zone steps alone, whose clamp holds under a depth just written. -/
theorem stepKeepsMixRanges : Obligations.StepKeepsMixRanges := by
  intro s t h ducks samples
  exact ⟨step_keeps (P := ducksInRange) (fun _ _ ok => ok) (fun _ _ => Act.ducksInRange) h ducks,
    step_keeps (P := samplesInRange) (fun _ _ ok => ok) (fun _ _ => Act.samplesInRange) h samples⟩

/-- Settles O59: every act keeps the seats on offer, with what is held for them in range. -/
theorem stepKeepsSeatsOnOffer : Obligations.StepKeepsSeatsOnOffer := fun _ _ h =>
  step_keeps (P := seatsOnOffer) (fun _ _ ok => ok) (fun _ _ => Act.seatsOnOffer) h

/-- Settles O60: the reset lists are empty, and the reset records are in range. -/
theorem resetHasEveryProperty : Obligations.ResetHasEveryProperty := by
  refine ⟨?bounded, List.Pairwise.nil, ?ranked, ?cues, ?stop, lightingInRange_reset, ducksInRange_reset,
    samplesInRange_reset, seatsOnOffer_reset⟩
  case bounded => exact ⟨Nat.zero_le _, Nat.zero_le _, Nat.zero_le _, Nat.zero_le _, Nat.zero_le _, Nat.zero_le _⟩
  case ranked => exact ⟨List.Pairwise.nil, List.nodup_nil, fun _ mem => nomatch mem⟩
  case cues => exact ⟨List.nodup_nil, fun _ mem => nomatch mem⟩
  case stop => exact ⟨fun _ => rfl, fun _ requested => nomatch requested⟩

end Sys2Proof.Proofs

/-! The step, the resets, and the rows of requests whose owners are simple: STATUS-READ, SCENE-FORCE, SENSE; the lamp
timers, the averaging blocks, the language deltas and the quiet timers. -/

namespace Sys2Proof.Machine

variable {s : State}

/-! ### The head request and its reply (R168) -/

/-- The reply to request `r` that an execution gives joins the reply list (R168). -/
def replied (r : Request) (x : Executed) : State :=
  addReply { tag := r.tag, kind := r.kind, code := x.code, data := x.data } x.state

theorem executeHead_replied {accepts : Request → Bool} {run : Request → State → Executed} {r : Request}
    {rest : List Request} (head : headIs r rest s) (accepted : accepts r = true) :
    executeHead accepts run s = replied r (run r (setRequests rest s)) := executeHead_head head accepted

theorem replied_refuse (r : Request) (rest : List Request) (code : ReplyCode) (s : State) :
    replied r (refuse code (setRequests rest s)) = answered r rest code [] s := rfl

theorem isKind_iff {n : Nat} {r : Request} : isKind n r = true ↔ r.kind.toNat = n := decide_eq_true_iff

/-- A request of kind `kind` with `size` parameter bytes and a known action is executed by its action's row (R169). -/
theorem isAction_of_action {kind size last action : Nat} {r : Request} (ofKind : r.kind.toNat = kind)
    (named : byteAt r.params 0 = action) : isAction kind size last action r = true := by
  simp [isAction, kindOf, paramAt, ofKind, named]

theorem badAction_eq_false {size last : Nat} {r : Request} (length : r.params.length = size)
    (known : byteAt r.params 0 ≤ last) : badAction size last r = false := by
  rw [badAction, Bool.or_eq_false_iff, decide_eq_false_iff_not, decide_eq_false_iff_not]
  exact ⟨not_not.2 length, Nat.not_lt.2 known⟩

/-! ### Bytes (R182) -/

theorem natBytes_one (n : Nat) : natBytes 1 n = [BitVec.ofNat 8 n] := rfl

theorem natBytes_flagCode (b : Bool) : natBytes 1 (flagCode b) = [yesNo b] := by cases b <;> rfl

theorem natBytes_optCode (x : Option Nat) : natBytes 1 (optCode x) = [orNone x] := by cases x <;> rfl

theorem natBytes_layerCode (x : Option Layer) : natBytes 1 (optCode (x.map Layer.code)) = [layerByte x] := by
  cases x with
  | none => rfl
  | some l => cases l <;> rfl

theorem natBytes_transitionCode (x : Transition) : natBytes 1 x.code = [transitionByte x] := by cases x <;> rfl

theorem flatMap_singleton {α β : Type} (f : α → β) (l : List α) : l.flatMap (fun x => [f x]) = l.map f := by
  induction l with
  | nil => rfl
  | cons x xs ih => simp [ih]

theorem encodeLamp_eq : encodeLamp = fun x => natBytes 2 x.level ++
    [layerByte x.setting.layer, orNone x.setting.scene, transitionByte x.transition] := by
  funext x
  rw [encodeLamp, natBytes_layerCode, natBytes_optCode, natBytes_transitionCode, List.append_assoc, List.append_assoc]
  rfl

/-- STATUS-READ's values, byte by byte (R172, R182). -/
theorem statusData_eq (s : State) : statusData s = s.mix.zones.map (fun z => yesNo z.clip) ++
    [yesNo s.manage.noticesLost, BitVec.ofNat 8 s.manage.notices.length] ++
    natBytes 2 s.segment.liveMask.toNat ++ natBytes 2 s.segment.heldMask.toNat ++
    s.lighting.lamps.flatMap (fun x => natBytes 2 x.level ++ [layerByte x.setting.layer, orNone x.setting.scene,
      transitionByte x.transition]) ++
    [orNone s.lighting.alert, yesNo s.lighting.indicator, orNone s.lighting.force, orNone s.lighting.cue,
     orNone s.lighting.base] := by
  simp only [statusData, encodeLamp_eq, encodeLayers, natBytes_flagCode, natBytes_optCode, flatMap_singleton,
    List.append_assoc, List.cons_append, List.nil_append]
  rfl

/-! ### The lowest channel of a scan (R87) -/

theorem mem_channelsInOrder (c : SenseChan) : c ∈ channelsInOrder := by cases c <;> decide

theorem channelsInOrder_ordered : channelsInOrder.Pairwise fun c d => chanNumber c < chanNumber d := by decide

/-- The channel found is the lowest of those for which `p` holds. -/
theorem find?_channels_eq_some_iff {p : SenseChan → Bool} {c : SenseChan} :
    channelsInOrder.find? p = some c ↔ p c = true ∧ ∀ d, chanNumber d < chanNumber c → p d = false := by
  rw [List.find?_eq_some_iff_append]
  refine and_congr_right fun _ => ⟨?_, fun lower => ?_⟩
  · rintro ⟨before, after, split, none⟩ d below
    have ⟨_, ordered, _⟩ := List.pairwise_append.1 (split ▸ channelsInOrder_ordered)
    rcases List.mem_append.1 (split ▸ mem_channelsInOrder d) with mem | mem
    · simpa using none d mem
    · rcases List.mem_cons.1 mem with rfl | mem
      · exact absurd below (Nat.lt_irrefl _)
      · exact absurd (List.rel_of_pairwise_cons ordered mem) (Nat.lt_asymm below)
  · obtain ⟨before, after, split⟩ := List.append_of_mem (mem_channelsInOrder c)
    have ⟨_, _, ordered⟩ := List.pairwise_append.1 (split ▸ channelsInOrder_ordered)
    exact ⟨before, after, split, fun d mem => by rw [lower d (ordered d mem c List.mem_cons_self)]; rfl⟩

theorem isEnabled_of_record {c : SenseChan} {record : SenseRec} (entry : s.sense.channels[chanNumber c]? = some record) :
    isEnabled c s = record.enabled := by simp [isEnabled, channelRecord, entry]

/-- A channel whose record, where it has one, is disabled is disabled. -/
theorem isEnabled_eq_false {c : SenseChan} (disabled : ∀ x, s.sense.channels[chanNumber c]? = some x → x.enabled = false) :
    isEnabled c s = false := by
  cases entry : s.sense.channels[chanNumber c]? with
  | none => simp [isEnabled, channelRecord, entry]
  | some x => rw [isEnabled_of_record entry, disabled x entry]

theorem beginConversion_of_record {c : SenseChan} {record : SenseRec}
    (entry : s.sense.channels[chanNumber c]? = some record) :
    beginConversion c s = setScan (conversionBegun c record) s := by
  simp [beginConversion, channelRecord, entry, conversionBegun]

/-- The scan begins at the lowest enabled channel (R87). -/
theorem beginLowest_of_lowest {c : SenseChan} {record : SenseRec}
    (entry : s.sense.channels[chanNumber c]? = some record) (enabled : record.enabled = true)
    (lowest : ∀ i x, i < chanNumber c → s.sense.channels[i]? = some x → x.enabled = false) :
    beginLowest s = setScan (conversionBegun c record) s := by
  have found : channelsInOrder.find? (fun c => isEnabled c s) = some c :=
    find?_channels_eq_some_iff.2 ⟨by rw [isEnabled_of_record entry, enabled],
      fun d below => isEnabled_eq_false fun x at_d => lowest _ x below at_d⟩
  rw [beginLowest, found]
  exact beginConversion_of_record entry

/-- With no channel enabled, the scan waits (R87). -/
theorem beginLowest_of_none (none : ∀ x ∈ s.sense.channels, x.enabled = false) :
    beginLowest s = setScan .scanWait s := by
  have missing : channelsInOrder.find? (fun c => isEnabled c s) = Option.none :=
    List.find?_eq_none.2 fun c _ =>
      Bool.not_eq_true _ ▸ isEnabled_eq_false fun x entry => none x (List.mem_of_getElem? entry)
  rw [beginLowest, missing]

/-! ### The lamp timers (R161, R162) -/

theorem setLamp_of_entry {c : Nat} {x : Lamp} (f : Lamp → Lamp) (entry : s.lighting.lamps[c]? = some x) :
    setLamp c f s = { s with lighting := { s.lighting with lamps := s.lighting.lamps.set c (f x) } } := by
  obtain ⟨inside, at_c⟩ := List.getElem?_eq_some_iff.1 entry
  rw [setLamp, List.modify_eq_set_getElem?, entry]
  rfl

theorem setLamp_of_same {c : Nat} {x : Lamp} {f : Lamp → Lamp} (entry : s.lighting.lamps[c]? = some x) (same : f x = x) :
    setLamp c f s = s := by
  obtain ⟨inside, at_c⟩ := List.getElem?_eq_some_iff.1 entry
  rw [setLamp_of_entry f entry, same, ← at_c, List.set_getElem_self]

/-- Part of the way from `start` to `target` leaves from `start` and does not pass `target` (R161). -/
theorem fadeLevel_between {start target i k : Nat} (step : i ≤ k) :
    (fadeLevel start target i k : Int) = start + (((target : Int) - start) * i).tdiv k ∧
      min start target ≤ fadeLevel start target i k ∧ fadeLevel start target i k ≤ max start target := by
  have up (a b : Nat) (rise : a ≤ b) : 0 ≤ (((b : Int) - a) * i).tdiv k ∧ (((b : Int) - a) * i).tdiv k ≤ (b : Int) - a := by
    have nonneg : 0 ≤ ((b : Int) - a) * i := mul_nonneg (by omega) (by positivity)
    refine ⟨Int.tdiv_nonneg nonneg (by positivity), ?_⟩
    rcases Nat.eq_zero_or_pos k with rfl | some
    · simpa using rise
    rw [Int.tdiv_eq_ediv_of_nonneg nonneg]
    exact Int.ediv_le_of_le_mul (by omega) (mul_le_mul_of_nonneg_left (by omega) (by omega))
  have moved : min (0 : Int) (target - start) ≤ (((target : Int) - start) * i).tdiv k ∧
      (((target : Int) - start) * i).tdiv k ≤ max (0 : Int) (target - start) := by
    rcases Nat.le_total start target with rise | fall
    · have := up start target rise
      omega
    · have := up target start fall
      rw [show (target : Int) - start = -(start - target) by omega, Int.neg_mul, Int.neg_tdiv]
      omega
  unfold fadeLevel
  omega

/-- The last step of a fade gives the target (R161). -/
theorem fadeLevel_last (start target : Nat) {k : Nat} (some : 0 < k) : fadeLevel start target k k = target := by
  unfold fadeLevel
  rw [Int.mul_tdiv_cancel _ (by omega)]
  omega

theorem stepFade_of_due {x : Lamp} {start k i : Nat} (due : x.transition = .fading start k i 0) : stepFade x = { x with
    level := fadeLevel start x.setting.target (i + 1) k
    transition := if k ≤ i + 1 then settled x.setting else .fading start k (i + 1) Config.fadeStepTime
    began := none } := by
  rw [stepFade, due]
  rfl

theorem stepFade_of_not_due {x : Lamp} (other : ∀ start k i, x.transition ≠ .fading start k i 0) : stepFade x = x := by
  unfold stepFade
  split
  · next due => exact absurd due (other _ _ _)
  · rfl

theorem flipFlash_of_on {x : Lamp} (due : x.transition = .flashOn 0) :
    flipFlash x = { x with level := 0, transition := .flashOff (x.setting.period / 2), began := none } := by
  rw [flipFlash, due]
  rfl

theorem flipFlash_of_off {x : Lamp} (due : x.transition = .flashOff 0) : flipFlash x = { x with
    level := x.setting.target, transition := .flashOn (x.setting.period / 2), began := none } := by
  rw [flipFlash, due]
  rfl

theorem flipFlash_of_not_due {x : Lamp} (lit : x.transition ≠ .flashOn 0) (dark : x.transition ≠ .flashOff 0) :
    flipFlash x = x := by
  unfold flipFlash
  split
  · exact absurd ‹_› lit
  · exact absurd ‹_› dark
  · rfl

/-! ### Language deltas (R28) -/

/-- The enabled entries of a map, in index order (R28). -/
def enabledOf (map : List LangEntry) : List Nat := indicesFrom LangEntry.enabled 0 map

theorem mem_enabledOf {map : List LangEntry} {i : Nat} : i ∈ enabledOf map ↔ languageEnabled map i = true := by
  rw [enabledOf, mem_indicesFrom, languageEnabled_iff]
  constructor
  · rintro ⟨k, e, rfl, entry, enabled⟩
    exact ⟨e, by rwa [Nat.zero_add], enabled⟩
  · rintro ⟨e, entry, enabled⟩
    exact ⟨i, e, (Nat.zero_add i).symm, entry, enabled⟩

theorem indicesFrom_ordered {α : Type} (p : α → Bool) (first : Nat) (l : List α) :
    (indicesFrom p first l).Pairwise (· < ·) := by
  induction l generalizing first with
  | nil => exact List.Pairwise.nil
  | cons x xs ih =>
    rw [indicesFrom]
    split
    · refine List.pairwise_cons.2 ⟨fun j mem => ?_, ih _⟩
      obtain ⟨k, _, rfl, _⟩ := mem_indicesFrom.1 mem
      omega
    · exact ih _

theorem indicesFrom_length {α : Type} (p : α → Bool) (first : Nat) (l : List α) :
    (indicesFrom p first l).length = (l.filter p).length := by
  induction l generalizing first with
  | nil => rfl
  | cons x xs ih =>
    rw [indicesFrom, List.filter_cons]
    split
    · exact congrArg (· + 1) (ih _)
    · exact ih _

theorem enabledOf_lt_iff {map : List LangEntry} {p q : Nat} (hp : p < (enabledOf map).length)
    (hq : q < (enabledOf map).length) : (enabledOf map)[p] < (enabledOf map)[q] ↔ p < q := by
  have increasing : (enabledOf map).SortedLT := (indicesFrom_ordered _ _ _).sortedLT
  exact increasing.getElem_lt_getElem_iff

/-- The place of an index in a list that holds it once. -/
theorem findFrom_place {l : List Nat} {p : Nat} (once : l.Pairwise (· < ·)) (inside : p < l.length) (first : Nat) :
    findFrom (fun j => decide (j = l[p])) first l = some (first + p) := by
  induction l generalizing first p with
  | nil => exact absurd inside (Nat.not_lt_zero _)
  | cons x xs ih =>
    obtain ⟨before, rest⟩ := List.pairwise_cons.1 once
    cases p with
    | zero => simp [findFrom]
    | succ p =>
      have inside : p < xs.length := Nat.lt_of_succ_lt_succ inside
      have other : x ≠ xs[p] := Nat.ne_of_lt (before _ (List.getElem_mem inside))
      rw [findFrom, List.getElem_cons_succ, if_neg (by simpa using other), ih rest inside]
      congr 1
      omega

/-- A language delta walks the enabled entries from the seat's own place, over and over (R28). -/
theorem stepLanguage_place {map : List LangEntry} {p : Nat} (delta : Nat) (inside : p < (enabledOf map).length) :
    stepLanguage map delta (some (enabledOf map)[p]) =
      some ((enabledOf map)[(p + delta) % (enabledOf map).length]'(Nat.mod_lt _ (by omega))) := by
  have place := findFrom_place (indicesFrom_ordered LangEntry.enabled 0 map) inside 0
  rw [Nat.zero_add] at place
  show (match findFrom (fun j => decide (j = (enabledOf map)[p])) 0 (enabledOf map) with
    | some place => (enabledOf map)[(place + delta) % (enabledOf map).length]?
    | none => some (enabledOf map)[p]) = _
  rw [show findFrom (fun j => decide (j = (enabledOf map)[p])) 0 (enabledOf map) = some p from place]
  exact List.getElem?_eq_getElem _

/-- One unit of a delta goes to the next place, and from the last to the first (R28). -/
theorem stepLanguage_one {map : List LangEntry} {p : Nat} (inside : p < (enabledOf map).length) :
    ∃ j, stepLanguage map 1 (some (enabledOf map)[p]) = some j ∧ languageEnabled map j = true ∧
      (((enabledOf map)[p] < j ∧ ∀ m, (enabledOf map)[p] < m → m < j → languageEnabled map m = false) ∨
        (j ≤ (enabledOf map)[p] ∧ ∀ m, (enabledOf map)[p] < m ∨ m < j → languageEnabled map m = false)) := by
  refine ⟨_, stepLanguage_place 1 inside, mem_enabledOf.1 (List.getElem_mem _), ?_⟩
  have disabled {m : Nat} (absent : ∀ q (hq : q < (enabledOf map).length), (enabledOf map)[q] ≠ m) :
      languageEnabled map m = false := by
    rw [← Bool.not_eq_true, ← mem_enabledOf]
    intro mem
    obtain ⟨q, hq, at_q⟩ := List.mem_iff_getElem.1 mem
    exact absent q hq at_q
  rcases Nat.lt_or_ge (p + 1) (enabledOf map).length with more | last
  · simp only [Nat.mod_eq_of_lt more]
    refine .inl ⟨(enabledOf_lt_iff inside more).2 (Nat.lt_succ_self p), fun m above below => disabled ?_⟩
    rintro q hq rfl
    have := (enabledOf_lt_iff inside hq).1 above
    have := (enabledOf_lt_iff hq more).1 below
    omega
  · have wraps : (p + 1) % (enabledOf map).length = 0 := by
      rw [show p + 1 = (enabledOf map).length by omega, Nat.mod_self]
    simp only [wraps]
    refine .inr ⟨Nat.le_of_not_lt fun above => Nat.not_lt_zero p ((enabledOf_lt_iff inside (by omega)).1 above),
      fun m outside => disabled ?_⟩
    rintro q hq rfl
    rcases outside with above | below
    · have := (enabledOf_lt_iff inside hq).1 above
      omega
    · exact Nat.not_lt_zero q ((enabledOf_lt_iff hq (by omega)).1 below)

/-! ### A line's quiet timer (R74) -/

theorem setLine_of_entry {l : Nat} {x : Line} (f : Line → Line) (entry : s.lines.lines[l]? = some x) :
    setLine l f s = putLine l (f x) s := by
  obtain ⟨inside, at_l⟩ := List.getElem?_eq_some_iff.1 entry
  rw [setLine, List.modify_eq_set_getElem?, entry]
  rfl

theorem setLine_of_same {l : Nat} {x : Line} {f : Line → Line} (entry : s.lines.lines[l]? = some x) (same : f x = x) :
    setLine l f s = s := by
  obtain ⟨inside, at_l⟩ := List.getElem?_eq_some_iff.1 entry
  rw [setLine_of_entry f entry, same, putLine, ← at_l, List.set_getElem_self]

theorem quietExpiry_of_other {x : Line} {route : RouteState} (other : x.state = .sleeping ∨ x.quiet ≠ some 0) :
    quietExpiry x route = x := by
  unfold quietExpiry
  split
  · next awake due =>
    rcases other with sleeping | left
    · exact nomatch sleeping.symm.trans awake
    · exact absurd due left
  · rfl

theorem quietExpiry_of_due {x : Line} {route : RouteState} (awake : x.state = .awake) (due : x.quiet = some 0) :
    quietExpiry x route =
      if route = .running ∨ x.sleepEnable = false then { x with quiet := some Config.quietTime }
      else
        match x.transaction with
        | none => sleepLine x
        | some _ => { x with sleepPending := true, quiet := none } := by
  rw [quietExpiry, awake, due]
  rfl

end Sys2Proof.Machine

namespace Sys2Proof.Proofs

open Sys2Proof Sys2Proof.Machine

/-- Settles O1. -/
theorem stepTakesFrontCommand : Obligations.StepTakesFrontCommand := by
  intro c rest s front
  rw [step, front]

/-- Settles O4: the reset tables, entry by entry. -/
theorem powerOnResetGivesResetState : Obligations.PowerOnResetGivesResetState := by
  refine ⟨fun _ => rfl, rfl, rfl, rfl, rfl, rfl, rfl, ?map, ?seats, ?zones, rfl, ?lines, ?channels, rfl, ?results,
    ?limits, rfl, rfl, rfl, rfl, rfl, ?cues, rfl, rfl, rfl, rfl, rfl, rfl, ?lamps, rfl⟩
  case lines =>
    intro x mem
    obtain rfl : x = lineReset := List.eq_of_mem_replicate mem
    refine ⟨rfl, rfl, rfl, fun b mem => ?_⟩
    obtain rfl : b = boxReset := List.eq_of_mem_replicate mem
    exact ⟨rfl, rfl⟩
  all_goals decide +kernel

/-- Settles O5: the reset is of every block, and the reply is the only one left. -/
theorem resetRequestKeepsLinkOnly : Obligations.ResetRequestKeepsLinkOnly := by
  intro s r rest head kind params
  have row : exec .reset s = .next (executeHead (isKind 11) resetRequest s) := rfl
  have ran : resetRequest r (setRequests rest s) = done (resetBlocks (setRequests rest s)) := by
    simp [resetRequest, params]
  rw [row, executeHead_replied head (isKind_iff.2 (by rw [kind]; rfl)), ran]
  rfl

/-- Settles O24: the values, and the flags after them. -/
theorem statusReadReportsThenClears : Obligations.StatusReadReportsThenClears := by
  refine ⟨statusData_eq, fun s r rest head kind => ?_⟩
  have row : exec .statusRead s = .next (replied r (readStatus r (setRequests rest s))) :=
    congrArg Host.Outcome.next (executeHead_replied head (isKind_iff.2 (by rw [kind]; rfl)))
  have data : statusData (setRequests rest s) = statusData s := rfl
  have read (clear : Bool) (params : flagOf (paramAt r 0) = some clear ∧ r.params.length = 1) :
      readStatus r (setRequests rest s) =
        { state := if clear then clearStatusFlags (setRequests rest s) else setRequests rest s, code := .done
          data := statusData s } := by
    rw [readStatus, if_neg (not_not.2 params.2), params.1]
    rfl
  refine ⟨fun params => ?keep, fun params => ?clear, fun b params high => ?badField⟩
  case keep => rw [row, read false (by simp [params, paramAt, byteAt, flagOf])]; rfl
  case clear =>
    rw [row, read true (by simp [params, paramAt, byteAt, flagOf])]
    exact ⟨_, rfl, rfl, rfl, rfl⟩
  case badField =>
    have none : flagOf (paramAt r 0) = none := by
      match at_0 : paramAt r 0 with
      | 0 | 1 => simp [params, paramAt, byteAt] at at_0; omega
      | n + 2 => rfl
    rw [row, readStatus, none]
    simp only [params, List.length_singleton, ne_eq, not_true, if_false]
    rfl

/-- Settles O36: a scene already held changes nothing, and any other is resolved. -/
theorem sceneForceSetsLayer : Obligations.SceneForceSetsLayer := by
  intro s r rest b head kind params
  have row : exec .sceneForce s = .next (replied r (forceScene r (setRequests rest s))) :=
    congrArg Host.Outcome.next (executeHead_replied head (isKind_iff.2 (by rw [kind]; rfl)))
  have named : paramAt r 0 = b.toNat := by simp [params, paramAt, byteAt]
  refine ⟨fun low high => ?badField, fun scene named_scene => ?taken⟩
  case badField =>
    have none : optOf 15 (paramAt r 0) = none := by
      rw [named, optOf, if_neg (by omega), if_neg (by omega)]
    rw [row, forceScene, none]
    rfl
  case taken =>
    have some : optOf 15 (paramAt r 0) = some scene := by
      rcases named_scene with ⟨low, rfl⟩ | ⟨release, rfl⟩
      · rw [named, optOf, if_neg (by omega), if_pos low]
      · rw [named, optOf, if_pos release]
    have ran : forceScene r (setRequests rest s) = done (setForce scene (setRequests rest s)) := by
      rw [forceScene, some]
      exact if_neg (by simp [params])
    rw [row, ran]
    refine ⟨fun held => ?_, fun other => ?_⟩
    · have same : setForce scene (setRequests rest s) = setRequests rest s := if_pos held
      rw [same]
      rfl
    · have changed : setForce scene (setRequests rest s) = { setRequests rest s with
          lighting := resolve { s.lighting with force := scene } } := if_neg other
      rw [changed]
      exact ⟨_, rfl, rfl, resolve_resolvedFrom { s.lighting with force := scene }, rfl⟩

/-- Settles O38: a step or half that is due by its formula, and a lamp that has none due. -/
theorem lampTimersStepAndFlip : Obligations.LampTimersStepAndFlip := by
  intro s c x entry
  have fade : exec (.fadeStep c) s = .next (setLamp c stepFade s) := rfl
  have flash : exec (.flashHalfExpiry c) s = .next (setLamp c flipFlash s) := rfl
  refine ⟨fun start k i due _ _ => ⟨fun more => ?step, fun last => ?last⟩, fun due => ?lit, fun due => ?dark,
    fun other => ?noStep, fun lit dark => ?noHalf⟩
  case step =>
    obtain ⟨level, least, most⟩ := fadeLevel_between (start := start) (target := x.setting.target) (Nat.le_of_lt more)
    refine ⟨_, level, least, most, ?_⟩
    rw [fade, setLamp_of_entry _ entry, stepFade_of_due due, if_neg (by omega)]
    rfl
  case last =>
    subst last
    rw [fade, setLamp_of_entry _ entry, stepFade_of_due due, if_pos le_rfl, fadeLevel_last _ _ (Nat.succ_pos i)]
    rfl
  case lit => rw [flash, setLamp_of_entry _ entry, flipFlash_of_on due]
  case dark => rw [flash, setLamp_of_entry _ entry, flipFlash_of_off due]
  case noStep => rw [fade, setLamp_of_same entry (stepFade_of_not_due other)]
  case noHalf => rw [flash, setLamp_of_same entry (flipFlash_of_not_due lit dark)]

/-- Settles O39: STOP whatever the scan does, and START by its delay. -/
theorem senseStartAndStop : Obligations.SenseStartAndStop := by
  intro s r rest m d head kind
  have ofKind : r.kind.toNat = 8 := by rw [kind]; rfl
  have started (params : r.params = [0#8, m, d]) :
      exec .senseStart s = .next (replied r (senseStart r (setRequests rest s))) ∧
        badAction 3 1 r = false ∧ paramAt r 1 = m.toNat ∧ paramAt r 2 = d.toNat := by
    have action : byteAt r.params 0 = 0 := by rw [params]; rfl
    refine ⟨congrArg Host.Outcome.next (executeHead_replied head (isAction_of_action ofKind action)),
      badAction_eq_false (by rw [params]; rfl) (by omega), ?_, ?_⟩
    · simp [paramAt, byteAt, params]
    · simp [paramAt, byteAt, params]
  refine ⟨fun params => ?stop, fun params unknown => ?badField, fun mode params known => ?start⟩
  case stop =>
    have action : byteAt r.params 0 = 1 := by rw [params]; rfl
    have row : exec .senseStop s = .next (replied r (takeAction 3 1 senseStop r (setRequests rest s))) :=
      congrArg Host.Outcome.next (executeHead_replied head (isAction_of_action ofKind action))
    rw [row, takeAction, badAction_eq_false (by rw [params]; rfl) (by omega)]
    rfl
  case badField =>
    obtain ⟨row, taken, mode, _⟩ := started params
    have none : ScanMode.ofCode (paramAt r 1) = none := by
      rw [mode]
      match m.toNat, unknown with
      | n + 2, _ => rfl
    rw [row, senseStart, taken, none]
    rfl
  case start =>
    obtain ⟨row, taken, named, delay⟩ := started params
    have ran : senseStart r (setRequests rest s) = done (startSense mode d.toNat (setRequests rest s)) := by
      rw [senseStart, taken, named, known, delay]
      rfl
    have atOnce (zero : d = 0#8) : startSense mode d.toNat (setRequests rest s) =
        beginLowest { setRequests rest s with sense := { s.sense with mode := mode } } := by
      rw [zero]
      rfl
    rw [row, ran]
    refine ⟨fun later => ?delay, fun zero none => ?none, fun c record zero entry enabled lowest => ?lowest⟩
    case delay =>
      have some : d.toNat ≠ 0 := fun zero => later (BitVec.eq_of_toNat_eq zero)
      rw [startSense, if_neg some]
      rfl
    case none =>
      rw [atOnce zero, beginLowest_of_none (s := { setRequests rest s with sense := { s.sense with mode := mode } }) none]
      rfl
    case lowest =>
      rw [atOnce zero, beginLowest_of_lowest
        (s := { setRequests rest s with sense := { s.sense with mode := mode } }) entry enabled lowest]
      rfl

/-- Settles O43: a result within the block, and the one that completes it. -/
theorem averagingBlocks : Obligations.AveragingBlocks := by
  intro k o r x completed stored
  have split : (k ≤ r.blockCount + 1 ∧ completed = true) ∨ (r.blockCount + 1 < k ∧ completed = false) := by
    unfold storeResult at stored
    dsimp only at stored
    split at stored
    · next complete => exact .inl ⟨complete, (Prod.mk.inj stored).2⟩
    · next more => exact .inr ⟨Nat.lt_of_not_le more, (Prod.mk.inj stored).2⟩
  rcases split with ⟨complete, rfl⟩ | ⟨more, rfl⟩
  · rw [storeResult, if_pos complete] at stored
    obtain ⟨rfl, _⟩ := Prod.mk.inj stored
    refine ⟨rfl, rfl, rfl, rfl, rfl, rfl, fun more => by omega, fun _ => ⟨rfl, rfl, rfl, rfl, rfl, ?_, ?_⟩⟩
    · exact Bool.not_or _ _ |>.trans (by rw [Bool.not_not])
    · cases r.blockInvalid <;> cases o.valid <;> simp
  · rw [storeResult, if_neg (Nat.not_le.2 more)] at stored
    obtain ⟨rfl, _⟩ := Prod.mk.inj stored
    exact ⟨rfl, rfl, rfl, rfl, rfl, rfl, fun _ => ⟨rfl, rfl, rfl, rfl, rfl, rfl, rfl⟩, fun complete => by omega⟩

/-- Settles O48: a seat's language has a place among the enabled ones, and a delta moves the place. -/
theorem languageDeltaStepsEnabled : Obligations.LanguageDeltaStepsEnabled := by
  intro map d i
  refine ⟨rfl, fun enabled => ?_⟩
  obtain ⟨p, inside, rfl⟩ := List.mem_iff_getElem.1 (mem_enabledOf.2 enabled)
  have size : (map.filter LangEntry.enabled).length = (enabledOf map).length := (indicesFrom_length _ _ _).symm
  refine ⟨?zero, ?succ, stepLanguage_one inside, ?around⟩
  case zero =>
    rw [stepLanguage_place 0 inside]
    simp only [Nat.add_zero, Nat.mod_eq_of_lt inside]
  case succ =>
    rw [stepLanguage_place (d + 1) inside, stepLanguage_place d inside, stepLanguage_place 1 (Nat.mod_lt _ (by omega))]
    simp only [Nat.mod_add_mod, Nat.add_assoc]
  case around =>
    rw [size, stepLanguage_place _ inside]
    simp only [Nat.add_mul_mod_self_right, Nat.mod_eq_of_lt inside]

/-- Settles O51: the expiry by whether it is one, and then by the route, the sleep enable and the transaction. -/
theorem quietTimerSleepsLine : Obligations.QuietTimerSleepsLine := by
  intro s l x entry
  have row : exec (.quietTimerExpiry l) s = .next (setLine l (fun x => quietExpiry x s.route.state) s) := rfl
  refine ⟨fun other => ?none, fun awake due => ?due⟩
  case none => rw [row, setLine_of_same entry (quietExpiry_of_other other)]
  case due =>
    rw [row, setLine_of_entry _ entry, quietExpiry_of_due awake due]
    refine ⟨fun stays => ?stays, fun route enabled idle => ?sleeps, fun route enabled busy => ?pends⟩
    case stays => rw [if_pos stays]; rfl
    case sleeps => rw [if_neg (by simp [route, enabled]), idle]; rfl
    case pends =>
      obtain ⟨tx, busy⟩ := Option.ne_none_iff_exists'.1 busy
      rw [if_neg (by simp [route, enabled]), busy]

end Sys2Proof.Proofs

/-! The rows that execute a request: which row takes the head request, what its execution is, and the checks that come
before the owner's (R168 to R170, R183). -/

namespace Sys2Proof.Machine

variable {s t : State} {r : Request} {rest : List Request}

/-! ### The row of a request -/

/-- Command `c` executes a head request `r` by `run`. -/
def Takes (c : Instr) (r : Request) (run : State → Executed) : Prop :=
  ∃ accepts f, (∀ s, exec c s = .next (executeHead accepts f s)) ∧ accepts r = true ∧ f r = run

theorem Takes.exec {c : Instr} {run : State → Executed} (takes : Takes c r run) (head : headIs r rest s) :
    exec c s = .next (replied r (run (setRequests rest s))) := by
  obtain ⟨accepts, f, row, accepted, rfl⟩ := takes
  rw [row, executeHead_replied head accepted]

/-- The execution of a TABLE-WRITE (R169, R170). -/
def runOfWrite (r : Request) : State → Executed :=
  if r.params.length < 3 then refuseWrite r
  else
    match paramAt r 0 with
    | 0 => tableWrite languageForm r | 1 => tableWrite seatForm r | 2 => tableWrite zoneForm r
    | 3 => tableWrite curveForm r | 4 => tableWrite mixForm r | 5 => tableWrite bandsForm r
    | 6 => tableWrite classForm r | 7 => tableWrite chimeForm r | 8 => tableWrite seatLineForm r
    | 9 => tableWrite senseForm r | 10 => tableWrite limitForm r | 11 => tableWrite cueForm r
    | 12 => tableWrite sceneForm r | 13 => tableWrite lightingForm r | _ => refuseWrite r

/-- The execution of a ROUTE request. -/
def runOfRoute (r : Request) : State → Executed :=
  match paramAt r 0 with
  | 1 => takeAction 1 3 holdRoute r
  | 2 => takeAction 1 3 resume r
  | 3 => takeAction 1 3 (fun x => done (stopRoute x)) r
  | _ => takeAction 1 3 (fun x => done (startRoute x)) r

/-- The execution of a request by its kind (section 11.4). -/
def runOf (r : Request) : State → Executed :=
  match kindOf r with
  | 0 => runOfWrite r
  | 1 => readTable r
  | 2 => runOfRoute r
  | 3 => fixRequest r
  | 4 => announceFromHead r
  | 5 => if paramAt r 0 = 1 then cancelByClass r else cancelByTicket r
  | 6 => if paramAt r 0 = 1 then takeAction 3 1 (fun x => done (endLiveAround (fun y => y) x)) r else liveOn r
  | 7 => forceScene r
  | 8 => if paramAt r 0 = 1 then takeAction 3 1 senseStop r else senseStart r
  | 9 => clearLimitRequest r
  | 10 => readStatus r
  | 11 => resetRequest r
  | _ => refuse .unknownKind

theorem writesTable_iff {table : Nat} :
    writesTable table r = true ↔ kindOf r = 0 ∧ 3 ≤ r.params.length ∧ paramAt r 0 = table := by
  rw [writesTable, Bool.and_eq_true, Bool.and_eq_true, decide_eq_true_iff, decide_eq_true_iff, decide_eq_true_iff,
    and_assoc]

theorem writesNoTable_iff : writesNoTable r = true ↔ kindOf r = 0 ∧ (r.params.length < 3 ∨ 13 < paramAt r 0) := by
  rw [writesNoTable, Bool.and_eq_true, Bool.or_eq_true, decide_eq_true_iff, decide_eq_true_iff, decide_eq_true_iff]

/-- A request whose action its kind does not know is taken by every row of the kind (R169). -/
theorem isAction_of_unknown {kind size last action : Nat} (ofKind : kindOf r = kind) (unknown : last < paramAt r 0) :
    isAction kind size last action r = true := by
  rw [isAction, Bool.and_eq_true, Bool.or_eq_true, Bool.or_eq_true, decide_eq_true_iff, decide_eq_true_iff,
    decide_eq_true_iff, decide_eq_true_iff]
  exact ⟨ofKind, .inl (.inr unknown)⟩

/-- Each table has a row of its own, and what names none is refused. -/
theorem rowOfWrite_takes (kind : kindOf r = 0) : Takes (rowOfWrite r) r (runOfWrite r) := by
  have named (table : Nat) (long : ¬ r.params.length < 3) (here : paramAt r 0 = table) : writesTable table r = true :=
    writesTable_iff.2 ⟨kind, Nat.le_of_not_lt long, here⟩
  unfold rowOfWrite runOfWrite
  split
  · next short => exact ⟨_, _, fun _ => rfl, writesNoTable_iff.2 ⟨kind, .inl short⟩, rfl⟩
  · next long =>
    match table : paramAt r 0 with
    | 0 => exact ⟨_, _, fun _ => rfl, named 0 long table, rfl⟩
    | 1 => exact ⟨_, _, fun _ => rfl, named 1 long table, rfl⟩
    | 2 => exact ⟨_, _, fun _ => rfl, named 2 long table, rfl⟩
    | 3 => exact ⟨_, _, fun _ => rfl, named 3 long table, rfl⟩
    | 4 => exact ⟨_, _, fun _ => rfl, named 4 long table, rfl⟩
    | 5 => exact ⟨_, _, fun _ => rfl, named 5 long table, rfl⟩
    | 6 => exact ⟨_, _, fun _ => rfl, named 6 long table, rfl⟩
    | 7 => exact ⟨_, _, fun _ => rfl, named 7 long table, rfl⟩
    | 8 => exact ⟨_, _, fun _ => rfl, named 8 long table, rfl⟩
    | 9 => exact ⟨_, _, fun _ => rfl, named 9 long table, rfl⟩
    | 10 => exact ⟨_, _, fun _ => rfl, named 10 long table, rfl⟩
    | 11 => exact ⟨_, _, fun _ => rfl, named 11 long table, rfl⟩
    | 12 => exact ⟨_, _, fun _ => rfl, named 12 long table, rfl⟩
    | 13 => exact ⟨_, _, fun _ => rfl, named 13 long table, rfl⟩
    | n + 14 => exact ⟨_, _, fun _ => rfl, writesNoTable_iff.2 ⟨kind, .inr (by omega)⟩, rfl⟩

theorem rowOfRoute_takes (kind : kindOf r = 2) : Takes (rowOfRoute r) r (runOfRoute r) := by
  unfold rowOfRoute runOfRoute
  match action : paramAt r 0 with
  | 0 => exact ⟨_, _, fun _ => rfl, isAction_of_action kind action, rfl⟩
  | 1 => exact ⟨_, _, fun _ => rfl, isAction_of_action kind action, rfl⟩
  | 2 => exact ⟨_, _, fun _ => rfl, isAction_of_action kind action, rfl⟩
  | 3 => exact ⟨_, _, fun _ => rfl, isAction_of_action kind action, rfl⟩
  | n + 4 => exact ⟨_, _, fun _ => rfl, isAction_of_unknown kind (by omega), rfl⟩

/-- With the actions 0 and 1, a request of any other action is taken by the row of action 0. -/
theorem isAction_zero {kind size : Nat} (ofKind : kindOf r = kind) (other : paramAt r 0 ≠ 1) :
    isAction kind size 1 0 r = true := by
  rcases Nat.eq_zero_or_pos (paramAt r 0) with zero | some
  · exact isAction_of_action ofKind zero
  · exact isAction_of_unknown ofKind (by omega)

theorem rowOf_takes (r : Request) : Takes (rowOf r) r (runOf r) := by
  have byKind {n : Nat} (kind : kindOf r = n) : isKind n r = true := isKind_iff.2 kind
  unfold rowOf runOf
  match kind : kindOf r with
  | 0 => exact rowOfWrite_takes kind
  | 1 => exact ⟨_, _, fun _ => rfl, byKind kind, rfl⟩
  | 2 => exact rowOfRoute_takes kind
  | 3 => exact ⟨_, _, fun _ => rfl, byKind kind, rfl⟩
  | 4 => exact ⟨_, _, fun _ => rfl, byKind kind, rfl⟩
  | 5 =>
    show Takes (if paramAt r 0 = 1 then .cancelByClass else .cancelByTicket) r
      (if paramAt r 0 = 1 then cancelByClass r else cancelByTicket r)
    split
    · next action => exact ⟨_, _, fun _ => rfl, isAction_of_action kind action, rfl⟩
    · next other => exact ⟨_, _, fun _ => rfl, isAction_zero kind other, rfl⟩
  | 6 =>
    show Takes (if paramAt r 0 = 1 then .liveOff else .liveOn) r
      (if paramAt r 0 = 1 then takeAction 3 1 (fun x => done (endLiveAround (fun y => y) x)) r else liveOn r)
    split
    · next action => exact ⟨_, _, fun _ => rfl, isAction_of_action kind action, rfl⟩
    · next other => exact ⟨_, _, fun _ => rfl, isAction_zero kind other, rfl⟩
  | 7 => exact ⟨_, _, fun _ => rfl, byKind kind, rfl⟩
  | 8 =>
    show Takes (if paramAt r 0 = 1 then .senseStop else .senseStart) r
      (if paramAt r 0 = 1 then takeAction 3 1 senseStop r else senseStart r)
    split
    · next action => exact ⟨_, _, fun _ => rfl, isAction_of_action kind action, rfl⟩
    · next other => exact ⟨_, _, fun _ => rfl, isAction_zero kind other, rfl⟩
  | 9 => exact ⟨_, _, fun _ => rfl, byKind kind, rfl⟩
  | 10 => exact ⟨_, _, fun _ => rfl, byKind kind, rfl⟩
  | 11 => exact ⟨_, _, fun _ => rfl, byKind kind, rfl⟩
  | n + 12 =>
    exact ⟨fun r => decide (11 < kindOf r), _, fun _ => rfl, decide_eq_true (by omega), rfl⟩

/-- The head request's row executes it (R168). -/
theorem exec_rowOf (head : headIs r rest s) :
    exec (rowOf r) s = .next (replied r (runOf r (setRequests rest s))) := (rowOf_takes r).exec head

/-- Every request row is the execution of the head request. -/
theorem requestRows_execute {c : Instr} (row : c ∈ requestRows) :
    ∃ accepts f, ∀ s, exec c s = .next (executeHead accepts f s) := by
  suffices all : ∀ c ∈ requestRows, ∃ accepts f, ∀ s, exec c s = .next (executeHead accepts f s) from all c row
  unfold requestRows
  iterate 33 refine List.forall_mem_cons.2 ⟨⟨_, _, fun _ => rfl⟩, ?_⟩
  exact List.forall_mem_nil _

theorem rowOfWrite_mem (r : Request) : rowOfWrite r ∈ requestRows := by
  unfold rowOfWrite
  split
  · decide
  · split <;> decide

theorem rowOf_mem (r : Request) : rowOf r ∈ requestRows := by
  unfold rowOf
  split
  · exact rowOfWrite_mem r
  · decide
  · unfold rowOfRoute
    split <;> decide
  · decide
  · decide
  · split <;> decide
  · split <;> decide
  · decide
  · split <;> decide
  all_goals decide

/-! ### What an execution leaves of the queues (R168) -/

/-- The request queue and the reply list of `t` are those of `s`. -/
def ListsStay (s t : State) : Prop :=
  t.manage.requests = s.manage.requests ∧ t.manage.replies = s.manage.replies

theorem ListsStay.refl (s : State) : ListsStay s s := ⟨rfl, rfl⟩

theorem ListsStay.trans {u : State} (h : ListsStay s t) (k : ListsStay t u) : ListsStay s u :=
  ⟨k.1.trans h.1, k.2.trans h.2⟩

theorem PathFrame.listsStay (frame : PathFrame s t) : ListsStay s t := ⟨frame.requests, frame.replies⟩

theorem RouteFrame.listsStay (frame : RouteFrame s t) : ListsStay s t := ⟨frame.requests, frame.replies⟩

theorem SenseFrame.listsStay (frame : SenseFrame s t) : ListsStay s t := ⟨frame.requests, frame.replies⟩

/-- An execution that leaves the queues as they are. -/
def KeepsLists (run : State → Executed) : Prop := ∀ s, ListsStay s (run s).state

theorem keepsLists_refuse (code : ReplyCode) : KeepsLists (refuse code) := fun s => .refl s

theorem tableWrite_keepsLists {α : Type} {form : TableForm α}
    (apply : ∀ first records u, ListsStay u (form.apply first records u)) : KeepsLists (tableWrite form r) := by
  intro s
  unfold tableWrite ownWrite
  dsimp only
  split
  · exact .refl s
  · split
    · exact .refl s
    · split
      · exact .refl s
      · split
        · exact .refl s
        · split
          · exact .refl s
          · split
            · exact .refl s
            · exact apply _ _ s

theorem runOfWrite_keepsLists (r : Request) : KeepsLists (runOfWrite r) := by
  have held (first : Nat) (records : List MixParams) (u : State) : ListsStay u (holdMixRecord records u) := by
    cases records <;> exact .refl _
  have light (first : Nat) (records : List LightParams) (u : State) : ListsStay u (takeLightParams records u) := by
    cases records <;> exact .refl _
  have atRest {α : Type} {form : TableForm α} (apply : ∀ first records u,
      (form.apply first records u).manage = u.manage) : KeepsLists (tableWrite form r) :=
    tableWrite_keepsLists fun _ _ u => ⟨congrArg _ (apply _ _ u), congrArg _ (apply _ _ u)⟩
  unfold runOfWrite
  split
  · exact fun s => .refl s
  · split
    · exact atRest fun _ _ _ => rfl
    · exact atRest fun _ _ _ => rfl
    · exact atRest fun _ _ _ => rfl
    · exact atRest fun _ _ _ => rfl
    · exact tableWrite_keepsLists held
    · exact atRest fun _ _ _ => rfl
    · exact atRest fun _ _ _ => rfl
    · exact atRest fun _ _ _ => rfl
    · exact atRest fun _ _ _ => rfl
    · exact tableWrite_keepsLists fun _ _ u => (writeChannels_senseFrame u _ _).listsStay
    · exact tableWrite_keepsLists fun _ _ u => (writeLimits_senseFrame u _ _).listsStay
    · exact atRest fun _ _ _ => rfl
    · exact atRest fun _ _ _ => rfl
    · exact tableWrite_keepsLists light
    · exact fun s => .refl s

theorem takeAction_keepsLists {size last : Nat} {act : State → Executed} (acts : KeepsLists act) :
    KeepsLists (takeAction size last act r) := by
  intro s
  unfold takeAction
  split
  · exact .refl s
  · exact acts s

theorem wakeLines_listsStay (s : State) : ListsStay s (wakeLines s) := ⟨rfl, rfl⟩

theorem startRoute_listsStay (s : State) : ListsStay s (startRoute s) := by
  have opened (u : State) (same : ListsStay s u) : ListsStay s (positionStep (wakeLines
      { routeClearsStop u with route := { (routeClearsStop u).route with state := .running } })) :=
    ((same.trans (routeClearsStop_routeFrame u).listsStay).trans (wakeLines_listsStay
      { routeClearsStop u with route := { (routeClearsStop u).route with state := .running } })).trans
      (positionStep_routeFrame _).listsStay
  exact opened _ (.refl s)

theorem runOfRoute_keepsLists (r : Request) : KeepsLists (runOfRoute r) := by
  unfold runOfRoute
  split
  · refine takeAction_keepsLists fun s => ?_
    unfold holdRoute
    split <;> exact .refl s
  · refine takeAction_keepsLists fun s => ?_
    unfold resume
    split
    · have woken : ListsStay s (wakeLines { s with route := { s.route with state := .running } }) := ⟨rfl, rfl⟩
      exact (woken.trans (positionStep_routeFrame _).listsStay).trans (retry_routeFrame _).listsStay
    · exact .refl s
  · exact takeAction_keepsLists fun s => (stopRoute_routeFrame s).listsStay
  · exact takeAction_keepsLists startRoute_listsStay

theorem readTable_keepsLists (r : Request) : KeepsLists (readTable r) := by
  intro s
  unfold readTable
  dsimp only
  split
  · exact .refl s
  · split
    · exact .refl s
    · split <;> exact .refl s

theorem readStatus_keepsLists (r : Request) : KeepsLists (readStatus r) := by
  intro s
  unfold readStatus
  split
  · exact .refl s
  · split
    · exact .refl s
    · dsimp only
      split <;> exact .refl s

theorem fixRequest_keepsLists (r : Request) : KeepsLists (fixRequest r) := by
  intro s
  unfold fixRequest
  dsimp only
  split
  · exact .refl s
  · split
    · exact .refl s
    · exact (fixPosition_routeFrame s _).listsStay

theorem announceFromHead_keepsLists (r : Request) : KeepsLists (announceFromHead r) := by
  intro s
  unfold announceFromHead
  split
  · split
    · exact .refl s
    · exact (announceRequest_pathFrame s _).listsStay
  · exact .refl s

theorem cancelByTicket_keepsLists (r : Request) : KeepsLists (cancelByTicket r) := by
  intro s
  unfold cancelByTicket
  split
  · exact .refl s
  · rw [cancelled_state]
    exact (cancelTicket_pathFrame s _).listsStay

theorem cancelByClass_keepsLists (r : Request) : KeepsLists (cancelByClass r) := by
  intro s
  unfold cancelByClass
  split
  · exact .refl s
  · split
    · rw [cancelled_state]
      exact (cancelClass_pathFrame s _).listsStay
    · exact .refl s

theorem liveOn_keepsLists (r : Request) : KeepsLists (liveOn r) := by
  intro s
  unfold liveOn
  split
  · exact .refl s
  · exact (askLive_routeFrame s _).listsStay

theorem forceScene_keepsLists (r : Request) : KeepsLists (forceScene r) := by
  intro s
  unfold forceScene
  split
  · split
    · exact .refl s
    · exact (setForce_pathFrame s _).listsStay
  · exact .refl s

theorem senseStart_keepsLists (r : Request) : KeepsLists (senseStart r) := by
  intro s
  unfold senseStart
  split
  · exact .refl s
  · split
    · exact (startSense_senseFrame s _ _).listsStay
    · exact .refl s

theorem clearLimitRequest_keepsLists (r : Request) : KeepsLists (clearLimitRequest r) := by
  intro s
  unfold clearLimitRequest
  dsimp only
  split
  · exact .refl s
  · split
    · rw [done_state]
      exact (clearLimits_senseFrame s _).listsStay
    · split
      · rw [done_state]
        exact (clearLimit_senseFrame s _).listsStay
      · exact .refl s

/-- A request leaves the queues as they are, but for a RESET (R168, R176). -/
theorem runOf_keepsLists (r : Request) (notReset : r.kind ≠ 11#8 ∨ r.params ≠ []) : KeepsLists (runOf r) := by
  unfold runOf
  split
  · exact runOfWrite_keepsLists r
  · exact readTable_keepsLists r
  · exact runOfRoute_keepsLists r
  · exact fixRequest_keepsLists r
  · exact announceFromHead_keepsLists r
  · split
    · exact cancelByClass_keepsLists r
    · exact cancelByTicket_keepsLists r
  · split
    · exact takeAction_keepsLists fun s => (endLive_routeFrame s).listsStay
    · exact liveOn_keepsLists r
  · exact forceScene_keepsLists r
  · split
    · exact takeAction_keepsLists fun s => .refl s
    · exact senseStart_keepsLists r
  · exact clearLimitRequest_keepsLists r
  · exact readStatus_keepsLists r
  · next kind =>
    have kind : r.kind = 11#8 := BitVec.eq_of_toNat_eq kind
    have some : r.params.length ≠ 0 :=
      fun none => notReset.elim (fun other => other kind) (fun some => some (List.eq_nil_of_length_eq_zero none))
    intro s
    rw [resetRequest, if_pos some]
    exact .refl s
  · exact keepsLists_refuse _

/-! ### The checks before the owner's (R169, R170) -/

theorem badAction_of_length {size last : Nat} (other : r.params.length ≠ size) : badAction size last r = true := by
  rw [badAction, Bool.or_eq_true, decide_eq_true_iff]
  exact .inl other

theorem badAction_of_unknown {size last : Nat} (unknown : last < paramAt r 0) : badAction size last r = true := by
  rw [badAction, Bool.or_eq_true, decide_eq_true_iff, decide_eq_true_iff]
  exact .inr unknown

theorem takeAction_of_bad {size last : Nat} {act : State → Executed} (bad : badAction size last r = true) :
    takeAction size last act r = refuse .badField := funext fun _ => if_pos bad

theorem runOfRoute_of_bad (bad : badAction 1 3 r = true) : runOfRoute r = refuse .badField := by
  unfold runOfRoute
  split <;> exact takeAction_of_bad bad

theorem cancelByTicket_of_bad (bad : badAction 2 1 r = true) : cancelByTicket r = refuse .badField := by
  funext s
  rw [cancelByTicket, bad]
  rfl

theorem cancelByClass_of_bad (bad : badAction 2 1 r = true) : cancelByClass r = refuse .badField := funext fun _ => if_pos bad

theorem liveOn_of_bad (bad : badAction 3 1 r = true) : liveOn r = refuse .badField := by
  funext s
  rw [liveOn, bad]
  rfl

theorem senseStart_of_bad (bad : badAction 3 1 r = true) : senseStart r = refuse .badField := funext fun _ => if_pos bad

theorem announceFromHead_of_length (other : r.params.length ≠ 5) : announceFromHead r = refuse .badField := by
  funext s
  unfold announceFromHead
  split
  · exact if_pos (.inl other)
  · rfl

theorem forceScene_of_length (other : r.params.length ≠ 1) : forceScene r = refuse .badField := by
  funext s
  unfold forceScene
  split
  · exact if_pos other
  · rfl

/-- A parameter length other than the kind's is refused (R169). -/
theorem runOf_of_length (least : 1 ≤ kindOf r) (most : kindOf r ≤ 11) (other : r.params.length ≠ paramLength (kindOf r)) :
    runOf r = refuse .badField := by
  unfold runOf
  split
  · next kind => omega
  · next kind => rw [kind] at other; exact funext fun _ => if_pos other
  · next kind => rw [kind] at other; exact runOfRoute_of_bad (badAction_of_length other)
  · next kind => rw [kind] at other; exact funext fun _ => if_pos (.inl other)
  · next kind => rw [kind] at other; exact announceFromHead_of_length other
  · next kind =>
    rw [kind] at other
    split
    · exact cancelByClass_of_bad (badAction_of_length other)
    · exact cancelByTicket_of_bad (badAction_of_length other)
  · next kind =>
    rw [kind] at other
    split
    · exact takeAction_of_bad (badAction_of_length other)
    · exact liveOn_of_bad (badAction_of_length other)
  · next kind => rw [kind] at other; exact forceScene_of_length other
  · next kind =>
    rw [kind] at other
    split
    · exact takeAction_of_bad (badAction_of_length other)
    · exact senseStart_of_bad (badAction_of_length other)
  · next kind => rw [kind] at other; exact funext fun _ => if_pos other
  · next kind => rw [kind] at other; exact funext fun _ => if_pos other
  · next kind => rw [kind] at other; exact funext fun _ => if_pos other
  · grind

/-- An action outside its kind's set is refused (R169). -/
theorem runOf_of_unknownAction
    (unknown : (kindOf r = 2 ∧ 3 < paramAt r 0) ∨ ((kindOf r = 5 ∨ kindOf r = 6 ∨ kindOf r = 8) ∧ 1 < paramAt r 0)) :
    runOf r = refuse .badField := by
  unfold runOf
  rcases unknown with ⟨kind, above⟩ | ⟨kind | kind | kind, above⟩
  · rw [kind]
    exact runOfRoute_of_bad (badAction_of_unknown above)
  · rw [kind]
    exact (if_neg (by omega)).trans (cancelByTicket_of_bad (badAction_of_unknown above))
  · rw [kind]
    exact (if_neg (by omega)).trans (liveOn_of_bad (badAction_of_unknown above))
  · rw [kind]
    exact (if_neg (by omega)).trans (senseStart_of_bad (badAction_of_unknown above))

/-- What every owner of a table does before it looks at the records: the size and the number of its entries, and its
check before the index range (R170). -/
def tableGate (table : Nat) (s : State) : Option ReplyCode :=
  if table = 11 ∧ s.route.state ≠ .stopped then some .routeActive else none

/-- A TABLE-WRITE to a table of the catalogue is its owner's (R169). -/
theorem runOfWrite_of_table (long : 3 ≤ r.params.length) (named : paramAt r 0 ≤ 13) :
    ∃ (α : Type) (form : TableForm α), runOfWrite r = tableWrite form r ∧ form.size = recordSize (paramAt r 0) ∧
      tableEntries (paramAt r 0) = some form.entries ∧ ∀ s, form.gate s = tableGate (paramAt r 0) s := by
  unfold runOfWrite
  rw [if_neg (Nat.not_lt.2 long)]
  match paramAt r 0, named with
  | 0, _ => exact ⟨_, languageForm, rfl, rfl, rfl, fun _ => rfl⟩
  | 1, _ => exact ⟨_, seatForm, rfl, rfl, rfl, fun _ => rfl⟩
  | 2, _ => exact ⟨_, zoneForm, rfl, rfl, rfl, fun _ => rfl⟩
  | 3, _ => exact ⟨_, curveForm, rfl, rfl, rfl, fun _ => rfl⟩
  | 4, _ => exact ⟨_, mixForm, rfl, rfl, rfl, fun _ => rfl⟩
  | 5, _ => exact ⟨_, bandsForm, rfl, rfl, rfl, fun _ => rfl⟩
  | 6, _ => exact ⟨_, classForm, rfl, rfl, rfl, fun _ => rfl⟩
  | 7, _ => exact ⟨_, chimeForm, rfl, rfl, rfl, fun _ => rfl⟩
  | 8, _ => exact ⟨_, seatLineForm, rfl, rfl, rfl, fun _ => rfl⟩
  | 9, _ => exact ⟨_, senseForm, rfl, rfl, rfl, fun _ => rfl⟩
  | 10, _ => exact ⟨_, limitForm, rfl, rfl, rfl, fun _ => rfl⟩
  | 11, _ =>
    refine ⟨_, cueForm, rfl, rfl, rfl, fun s => ?_⟩
    cases state : s.route.state <;> simp [cueForm, tableGate, state]
  | 12, _ => exact ⟨_, sceneForm, rfl, rfl, rfl, fun _ => rfl⟩
  | 13, _ => exact ⟨_, lightingForm, rfl, rfl, rfl, fun _ => rfl⟩

theorem tableWrite_of_count {α : Type} {form : TableForm α} (bad : paramAt r 2 = 0 ∨ 16 < paramAt r 2) :
    tableWrite form r s = refuse .badIndex s := if_pos bad

theorem tableWrite_of_length {α : Type} {form : TableForm α} (least : 1 ≤ paramAt r 2) (most : paramAt r 2 ≤ 16)
    (bad : r.params.length ≠ 3 + paramAt r 2 * form.size) : tableWrite form r s = refuse .badField s := by
  rw [tableWrite]
  rw [if_neg (by omega), if_pos bad]

theorem tableWrite_of_sized {α : Type} {form : TableForm α} (least : 1 ≤ paramAt r 2) (most : paramAt r 2 ≤ 16)
    (sized : r.params.length = 3 + paramAt r 2 * form.size) :
    tableWrite form r s = ownWrite form (paramAt r 1) (paramAt r 2) (r.params.drop 3) s := by
  rw [tableWrite]
  rw [if_neg (by omega), if_neg (not_not.2 sized)]

theorem ownWrite_of_gate {α : Type} {form : TableForm α} {first count : Nat} {bytes : List Byte} {code : ReplyCode}
    (gate : form.gate s = some code) : ownWrite form first count bytes s = refuse code s := by
  rw [ownWrite, gate]

theorem ownWrite_of_range {α : Type} {form : TableForm α} {first count : Nat} {bytes : List Byte}
    (gate : form.gate s = none) (outside : form.entries < first + count) :
    ownWrite form first count bytes s = refuse .badIndex s := by
  rw [ownWrite, gate]
  exact if_pos outside

end Sys2Proof.Machine

namespace Sys2Proof.Proofs

open Sys2Proof Sys2Proof.Machine

/-- Settles O15: each check on the execution of the request by its own row. -/
theorem requestsAreCheckedInOrder : Obligations.RequestsAreCheckedInOrder := by
  intro s r rest head
  have row {code : ReplyCode} (ran : runOf r (setRequests rest s) = refuse code (setRequests rest s)) :
      exec (rowOf r) s = .next (answered r rest code [] s) := by
    rw [exec_rowOf head, ran]
    rfl
  have write (kind : r.kind = 0#8) : runOf r = runOfWrite r := by
    have : kindOf r = 0 := congrArg BitVec.toNat kind
    rw [runOf, this]
    rfl
  have none (kind : r.kind = 0#8) (unnamed : r.params.length < 3 ∨ 13 < paramAt r 0) :
      exec .tableWriteUnknownTable s = .next (replied r (refuseWrite r (setRequests rest s))) :=
    Takes.exec ⟨_, _, fun _ => rfl, writesNoTable_iff.2 ⟨congrArg BitVec.toNat kind, unnamed⟩, rfl⟩ head
  refine ⟨fun above => ?kind, fun least most other => row (congrFun (runOf_of_length least most other) _),
    fun kind short => ?short, fun kind long unnamed => ?table, fun kind long named bad => ?count,
    fun kind long named least most other => ?length, fun entries kind named least most sized size => ?owner,
    fun action tail params length unknown => row (congrFun (runOf_of_unknownAction ?action) _)⟩
  case kind =>
    have takes : Takes .unknownKind r (refuse .unknownKind) :=
      ⟨fun r => decide (11 < kindOf r), fun _ => refuse .unknownKind, fun _ => rfl, decide_eq_true above, rfl⟩
    exact takes.exec head
  case short =>
    rw [none kind (.inl short), refuseWrite, if_pos short]
    rfl
  case table =>
    rw [none kind (.inr unnamed), refuseWrite, if_neg (Nat.not_lt.2 long)]
    rfl
  case count =>
    obtain ⟨α, form, owner, -⟩ := runOfWrite_of_table long named
    exact row (by rw [write kind, owner, tableWrite_of_count bad])
  case length =>
    obtain ⟨α, form, owner, size, -⟩ := runOfWrite_of_table long named
    exact row (by rw [write kind, owner, tableWrite_of_length least most (size ▸ other)])
  case owner =>
    obtain ⟨α, form, owner, size', entries', gate⟩ := runOfWrite_of_table (r := r) (by omega) named
    have inside : form.entries = entries := Option.some.inj (entries'.symm.trans size)
    have ran : runOf r (setRequests rest s) =
        ownWrite form (paramAt r 1) (paramAt r 2) (r.params.drop 3) (setRequests rest s) := by
      rw [write kind, owner, tableWrite_of_sized least most (size' ▸ sized)]
    refine ⟨fun cue active => row ?_, fun stopped outside => row ?_⟩
    · rw [ran]
      exact ownWrite_of_gate ((gate _).trans (if_pos ⟨cue, active⟩))
    · have free : form.gate (setRequests rest s) = Option.none :=
        (gate _).trans (if_neg fun ⟨cue, active⟩ => active (stopped cue))
      rw [ran, ownWrite_of_range free (inside ▸ outside)]
  case action =>
    have named : paramAt r 0 = action.toNat := by rw [paramAt, params]; rfl
    rw [named]
    exact unknown.imp (fun ⟨kind, above⟩ => ⟨congrArg BitVec.toNat kind, above⟩) fun ⟨kind, above⟩ =>
      ⟨kind.imp (congrArg BitVec.toNat) (Or.imp (congrArg BitVec.toNat) (congrArg BitVec.toNat)), above⟩

/-- Settles O16: a request's row adds its reply to what its execution leaves of the queues. -/
theorem requestRowsWaitForReplyPlace : Obligations.RequestRowsWaitForReplyPlace := by
  refine ⟨fun s r rest head => ⟨rowOf_mem r, _,
    (runOf r (setRequests rest s)).code, (runOf r (setRequests rest s)).data, exec_rowOf head, fun notReset => ?stay, fun kind params => ?reset⟩,
    fun c s row waits => ?waits⟩
  case stay =>
    obtain ⟨requests, replies⟩ := runOf_keepsLists r notReset (setRequests rest s)
    exact ⟨requests, congrArg (· ++ [_]) replies⟩
  case reset =>
    have ran : runOf r (setRequests rest s) = done (resetBlocks (setRequests rest s)) := by
      have : kindOf r = 11 := congrArg BitVec.toNat kind
      rw [runOf, this]
      exact if_neg (by simp [params])
    rw [ran]
    exact ⟨rfl, rfl⟩
  case waits =>
    obtain ⟨accepts, f, executes⟩ := requestRows_execute row
    rw [executes, executeHead_waits waits]

end Sys2Proof.Proofs

/-! The records that each table's decoder takes, by the sets of their fields (R17, R22, R36 to R40, R52, R57, R83, R97,
R108, R109, R154 to R156). -/

namespace Sys2Proof.Machine

variable {n : Nat} {b : List Byte}

/-! ### Codes -/

/-- A field of two members, from its code. -/
theorem twoCodes_eq_some {α : Type} {f : Nat → Option α} {p q x : α} (zero : f 0 = some p) (one : f 1 = some q)
    (more : ∀ n, f (n + 2) = none) : f n = some x ↔ n ≤ 1 ∧ x = if n = 0 then p else q := by
  match n with
  | 0 => simp [zero, eq_comm]
  | 1 => simp [one, eq_comm]
  | n + 2 => simp [more]

theorem flagOf_eq_some {x : Bool} : flagOf n = some x ↔ n ≤ 1 ∧ x = decide (n = 0) := by
  refine (twoCodes_eq_some (p := true) (q := false) rfl rfl fun _ => rfl).trans (and_congr_right fun _ => ?_)
  split <;> simp_all

theorem checkMode_eq_some {x : CheckMode} : CheckMode.ofCode n = some x ↔ n ≤ 1 ∧ x = if n = 0 then .short else .full :=
  twoCodes_eq_some rfl rfl fun _ => rfl

theorem gateMode_eq_some {x : GateMode} :
    GateMode.ofCode n = some x ↔ n ≤ 1 ∧ x = if n = 0 then .refGate else .inputGate :=
  twoCodes_eq_some rfl rfl fun _ => rfl

theorem limitSource_eq_some {x : LimitSource} : LimitSource.ofCode n = some x ↔ n ≤ 1 ∧ x = if n = 0 then .raw else .avg :=
  twoCodes_eq_some rfl rfl fun _ => rfl

theorem limitDirection_eq_some {x : LimitDirection} :
    LimitDirection.ofCode n = some x ↔ n ≤ 1 ∧ x = if n = 0 then .over else .under :=
  twoCodes_eq_some rfl rfl fun _ => rfl

theorem limitMode_eq_some {x : LimitMode} :
    LimitMode.ofCode n = some x ↔ n ≤ 1 ∧ x = if n = 0 then .latched else .transparent :=
  twoCodes_eq_some rfl rfl fun _ => rfl

theorem pattern_eq_some {x : Pattern} : Pattern.ofCode n = some x ↔ n ≤ 1 ∧ x = if n = 0 then .steady else .flash :=
  twoCodes_eq_some rfl rfl fun _ => rfl

theorem noiseSource_eq_some {x : Option NoiseSource} : NoiseSource.ofCode n = some x ↔
    (n ≤ 1 ∨ n = 255) ∧ x = if n = 0 then some .nfwd else if n = 1 then some .naft else none := by
  unfold NoiseSource.ofCode
  split
  · simp [eq_comm]
  · simp [eq_comm]
  · simp [eq_comm]
  · next not0 not1 not255 =>
    have outside : ¬ (n ≤ 1 ∨ n = 255) := by
      rintro (low | none)
      · rcases Nat.le_one_iff_eq_zero_or_eq_one.1 low with zero | one
        · exact not0 zero
        · exact not1 one
      · exact not255 none
    simp [outside]

theorem optOf_eq_some {top : Nat} {x : Option Nat} :
    optOf top n = some x ↔ (n ≤ top ∨ n = 255) ∧ x = if n = 255 then none else some n := by
  unfold optOf
  split
  · next none => simp [none, eq_comm]
  · next other =>
    split
    · next low => simp [low, eq_comm]
    · next high => simp [high, other]

theorem annClass_eq_some {x : AnnClass} : AnnClass.ofCode n = some x ↔ x.code = n := by
  constructor
  · match n with
    | 0 | 1 | 2 | 3 => exact fun h => Option.some.inj h ▸ rfl
    | n + 4 => exact fun h => nomatch h
  · rintro rfl
    cases x <;> rfl

theorem codeChar_iff : codeChar n = true ↔ codeLetter n := by simp [codeChar, codeLetter]

theorem flag_isSome : (flagOf n).isSome = true ↔ n ≤ 1 := by
  simp [Option.isSome_iff_exists, flagOf_eq_some]

theorem predicate_isSome : (Predicate.ofCode n).isSome = true ↔ n ≤ 8 := by
  match n with
  | 0 | 1 | 2 | 3 | 4 | 5 | 6 | 7 | 8 => simp [Predicate.ofCode]
  | n + 9 => simp [Predicate.ofCode]

/-! ### LANGUAGE and SEAT -/

theorem decodeLang_iff {x : LangEntry} : decodeLang b = some x ↔ langFields b x := by
  constructor
  · intro h
    unfold decodeLang at h
    split at h
    · next enabled live dflt =>
      obtain ⟨ok, rfl⟩ := guarded_eq_some.1 h
      obtain ⟨enabled_ok, rfl⟩ := flagOf_eq_some.1 enabled
      obtain ⟨live_ok, rfl⟩ := flagOf_eq_some.1 live
      obtain ⟨dflt_ok, rfl⟩ := flagOf_eq_some.1 dflt
      simp only [Bool.and_eq_true, decide_eq_true_eq, codeChar_iff] at ok
      exact ⟨enabled_ok, ok.1.1, ok.1.2, ok.2, live_ok, dflt_ok, rfl⟩
    · exact nomatch h
  · rintro ⟨enabled, tag, first, second, live, dflt, rfl⟩
    rw [decodeLang, flagOf_eq_some.2 ⟨enabled, rfl⟩, flagOf_eq_some.2 ⟨live, rfl⟩, flagOf_eq_some.2 ⟨dflt, rfl⟩]
    refine guarded_eq_some.2 ⟨?_, rfl⟩
    simp only [Bool.and_eq_true, decide_eq_true_eq, codeChar_iff]
    exact ⟨⟨tag, first⟩, second⟩

theorem decodeSeat_iff {x : SeatWrite} : decodeSeat b = some x ↔ seatFields b x := by
  rw [decodeSeat, guarded_eq_some, seatFields]
  simp only [Bool.and_eq_true, decide_eq_true_eq, and_assoc, eq_comm (b := x)]

/-! ### The mix engine's tables and SEAT-LINE -/

theorem decodeZone_iff {x : ZoneWrite} : decodeZone b = some x ↔ zoneFields b x := by
  constructor
  · intro h
    unfold decodeZone at h
    split at h
    · next source notice =>
      obtain ⟨source_ok, rfl⟩ := noiseSource_eq_some.1 source
      obtain ⟨notice_ok, rfl⟩ := flagOf_eq_some.1 notice
      exact ⟨source_ok, notice_ok, (Option.some.inj h).symm⟩
    · exact nomatch h
  · rintro ⟨source, notice, rfl⟩
    rw [decodeZone, noiseSource_eq_some.2 ⟨source, rfl⟩, flagOf_eq_some.2 ⟨notice, rfl⟩]

theorem decodeCurve_iff {x : Int} : decodeCurve b = some x ↔ curveFields b x := by
  rw [decodeCurve, guarded_eq_some, curveFields]
  simp only [Bool.and_eq_true, decide_eq_true_eq]
  constructor
  · rintro ⟨⟨least, most⟩, rfl⟩
    exact ⟨least, most, rfl⟩
  · rintro ⟨least, most, rfl⟩
    exact ⟨⟨least, most⟩, rfl⟩

theorem decodeMix_iff {x : MixParams} : decodeMix b = some x ↔ mixFields b x := by
  rw [decodeMix, guarded_eq_some, mixFields]
  simp only [Bool.and_eq_true, decide_eq_true_eq, and_assoc, eq_comm (b := x)]

theorem decodeBand_iff {x : Band} : decodeBand b = some x ↔ bandFields b x := by
  rw [decodeBand, guarded_eq_some, bandFields]
  simp only [decide_eq_true_eq, eq_comm (b := x)]

theorem decodeClass_iff {x : ClassRec} : decodeClass b = some x ↔ classFields b x := by
  constructor
  · intro h
    unfold decodeClass at h
    split at h
    · next chime mute =>
      obtain ⟨ok, rfl⟩ := guarded_eq_some.1 h
      obtain ⟨chime_ok, rfl⟩ := optOf_eq_some.1 chime
      obtain ⟨mute_ok, rfl⟩ := flagOf_eq_some.1 mute
      simp only [Bool.and_eq_true, decide_eq_true_eq, and_assoc] at ok
      obtain ⟨floor_least, floor_most, trim_least, trim_most, chime_least, chime_most, seconds⟩ := ok
      exact ⟨⟨floor_least, floor_most⟩, ⟨trim_least, trim_most⟩, chime_ok, ⟨chime_least, chime_most⟩, seconds, mute_ok, rfl⟩
    · exact nomatch h
  · rintro ⟨floor, trim, chime, chimeTrim, seconds, mute, eq⟩
    rw [decodeClass, optOf_eq_some.2 ⟨chime, rfl⟩, flagOf_eq_some.2 ⟨mute, rfl⟩]
    refine guarded_eq_some.2 ⟨?_, eq.symm⟩
    rw [eq] at floor trim chimeTrim
    simp only [Bool.and_eq_true, decide_eq_true_eq, and_assoc]
    exact ⟨floor.1, floor.2, trim.1, trim.2, chimeTrim.1, chimeTrim.2, seconds⟩

theorem decodeTone_iff {i : Nat} {x : Tone} : decodeTone b i = some x ↔ toneFields b i x := by
  rw [decodeTone, guarded_eq_some, toneFields]
  simp only [Bool.and_eq_true, Bool.or_eq_true, decide_eq_true_eq, and_assoc, eq_comm (b := x), Nat.dvd_iff_mod_eq_zero]

theorem decodeChime_iff {x : Chime} : decodeChime b = some x ↔ chimeFields b x := by
  constructor
  · intro h
    unfold decodeChime at h
    split at h
    · next t0 t1 t2 t3 =>
      obtain ⟨ok, rfl⟩ := guarded_eq_some.1 h
      simp only [Bool.and_eq_true, decide_eq_true_eq] at ok
      refine ⟨ok, rfl, rfl, fun i tone entry => ?_⟩
      match i with
      | 0 => exact decodeTone_iff.1 (t0.trans entry)
      | 1 => exact decodeTone_iff.1 (t1.trans entry)
      | 2 => exact decodeTone_iff.1 (t2.trans entry)
      | 3 => exact decodeTone_iff.1 (t3.trans entry)
      | i + 4 => exact nomatch entry
    · exact nomatch h
  · rintro ⟨count, count_eq, size, tones⟩
    obtain ⟨c, l⟩ := x
    obtain ⟨t0, t1, t2, t3, rfl⟩ := List.length_eq_four.1 size
    rw [decodeChime, decodeTone_iff.2 (tones 0 t0 rfl), decodeTone_iff.2 (tones 1 t1 rfl),
      decodeTone_iff.2 (tones 2 t2 rfl), decodeTone_iff.2 (tones 3 t3 rfl)]
    refine guarded_eq_some.2 ⟨?_, congrArg (Chime.mk · _) count_eq.symm⟩
    simpa only [Bool.and_eq_true, decide_eq_true_eq] using count

theorem decodeSeatLine_iff {x : LineWrite} : decodeSeatLine b = some x ↔ lineFields b x := by
  constructor
  · intro h
    unfold decodeSeatLine at h
    split at h
    · next mode sleep =>
      obtain ⟨mode_ok, rfl⟩ := checkMode_eq_some.1 mode
      obtain ⟨sleep_ok, rfl⟩ := flagOf_eq_some.1 sleep
      exact ⟨mode_ok, sleep_ok, (Option.some.inj h).symm⟩
    · exact nomatch h
  · rintro ⟨mode, sleep, rfl⟩
    rw [decodeSeatLine, checkMode_eq_some.2 ⟨mode, rfl⟩, flagOf_eq_some.2 ⟨sleep, rfl⟩]

/-! ### SENSE-CHANNEL and LIMIT -/

theorem decodeSense_iff {channel : Nat} {x : SenseRec} : decodeSense channel b = some x ↔ senseFields channel b x := by
  have pulse : (decide (channel ≠ 0) || decide (1 ≤ wordAt b 10)) = true ↔ (channel = 0 → 1 ≤ wordAt b 10) := by
    rw [Bool.or_eq_true, decide_eq_true_eq, decide_eq_true_eq]
    exact ⟨fun h zero => h.resolve_left (not_not.2 zero), fun h => (ne_or_eq channel 0).imp_right h⟩
  constructor
  · intro h
    unfold decodeSense at h
    split at h
    · next enabled mode =>
      obtain ⟨ok, rfl⟩ := guarded_eq_some.1 h
      obtain ⟨enabled_ok, rfl⟩ := flagOf_eq_some.1 enabled
      obtain ⟨mode_ok, rfl⟩ := gateMode_eq_some.1 mode
      simp only [Bool.and_eq_true, pulse, decide_eq_true_eq, List.contains_iff_mem, and_assoc] at ok
      obtain ⟨length, edges, wait, averaging, least, most, pulse⟩ := ok
      exact ⟨enabled_ok, mode_ok, length, edges, wait, averaging, ⟨least, most⟩, pulse, rfl⟩
    · exact nomatch h
  · rintro ⟨enabled, mode, length, edges, wait, averaging, ⟨least, most⟩, pulsed, rfl⟩
    rw [decodeSense, flagOf_eq_some.2 ⟨enabled, rfl⟩, gateMode_eq_some.2 ⟨mode, rfl⟩]
    refine guarded_eq_some.2 ⟨?_, rfl⟩
    simp only [Bool.and_eq_true, pulse, decide_eq_true_eq, List.contains_iff_mem, and_assoc]
    exact ⟨length, edges, wait, averaging, least, most, pulsed⟩

theorem decodeAction_iff {x : LimitAction} : decodeAction b 9 = some x ↔ actionFields b x := by
  constructor
  · intro h
    unfold decodeAction at h
    split at h
    · next nothing => exact .inl ⟨nothing, (Option.some.inj h).symm⟩
    · next scene =>
      obtain ⟨ok, rfl⟩ := guarded_eq_some.1 h
      exact .inr (.inl ⟨scene, of_decide_eq_true ok, rfl⟩)
    · next announce =>
      split at h
      · next cls named =>
        obtain ⟨ok, rfl⟩ := guarded_eq_some.1 h
        exact .inr (.inr ⟨announce, of_decide_eq_true ok, cls, annClass_eq_some.1 named, rfl⟩)
      · exact nomatch h
    · exact nomatch h
  · rintro (⟨nothing, rfl⟩ | ⟨scene, low, rfl⟩ | ⟨announce, low, cls, named, rfl⟩)
    · rw [decodeAction, nothing]
      rfl
    · rw [decodeAction, scene]
      exact guarded_eq_some.2 ⟨decide_eq_true low, rfl⟩
    · rw [decodeAction, announce, annClass_eq_some.2 named]
      exact guarded_eq_some.2 ⟨decide_eq_true low, rfl⟩

theorem decodeLimit_iff {x : Limit} : decodeLimit b = some x ↔ limitFields b x := by
  constructor
  · intro h
    unfold decodeLimit at h
    split at h
    · next inUse source direction mode action =>
      obtain ⟨ok, rfl⟩ := guarded_eq_some.1 h
      obtain ⟨inUse_ok, rfl⟩ := flagOf_eq_some.1 inUse
      obtain ⟨source_ok, rfl⟩ := limitSource_eq_some.1 source
      obtain ⟨direction_ok, rfl⟩ := limitDirection_eq_some.1 direction
      obtain ⟨mode_ok, rfl⟩ := limitMode_eq_some.1 mode
      exact ⟨inUse_ok, of_decide_eq_true ok, source_ok, direction_ok, mode_ok, decodeAction_iff.1 action, rfl⟩
    · exact nomatch h
  · rintro ⟨inUse, channel, source, direction, mode, action, eq⟩
    rw [decodeLimit, flagOf_eq_some.2 ⟨inUse, rfl⟩, limitSource_eq_some.2 ⟨source, rfl⟩,
      limitDirection_eq_some.2 ⟨direction, rfl⟩, limitMode_eq_some.2 ⟨mode, rfl⟩, decodeAction_iff.2 action]
    exact guarded_eq_some.2 ⟨decide_eq_true channel, eq.symm⟩

/-! ### CUE -/

theorem conditionOk_iff {x : Cue} :
    conditionOk x = true ↔ x.conditionChannel = 255 ∨ (x.conditionChannel ≤ 4 ∧ x.predicate ≤ 8) := by
  simp only [conditionOk, Bool.or_eq_true, Bool.and_eq_true, decide_eq_true_eq, predicate_isSome]

theorem sceneOrRelease_iff : sceneOrRelease n = true ↔ n ≤ 15 ∨ n = 255 := by
  simp only [sceneOrRelease, Bool.or_eq_true, decide_eq_true_eq]

theorem stopOk_iff : stopOk n = true ↔ 1 ≤ n ∧ n ≤ 63 := by
  simp only [stopOk, Bool.and_eq_true, decide_eq_true_eq]

theorem cueFieldsOk_iff {x : Cue} : cueFieldsOk x = true ↔ x.trigger ≤ 1048575 ∧ x.repeatable ≤ 1 ∧ cueKindFields x ∧
    (x.conditionChannel = 255 ∨ (x.conditionChannel ≤ 4 ∧ x.predicate ≤ 8)) := by
  have kind : (match CueKind.ofCode x.kind with
      | none => false
      | some .segment => decide (1 ≤ x.segment) && decide (x.segment ≤ 4095) && (flagOf x.preempt).isSome
      | some .stopApproach => decide (x.clip ≤ 1022) && stopOk x.stop
      | some .stopArrival => decide (x.clip ≤ 1023) && stopOk x.stop
      | some .clearance => decide (x.clip ≤ 1023) && sceneOrRelease x.scene
      | some .scene => sceneOrRelease x.scene
      | some .notice => true) = true ↔ cueKindFields x := by
    unfold cueKindFields
    match x.kind with
    | 0 => simp [CueKind.ofCode, flag_isSome, and_assoc]
    | 1 => simp [CueKind.ofCode, stopOk_iff]
    | 2 => simp [CueKind.ofCode, stopOk_iff]
    | 3 => simp [CueKind.ofCode, sceneOrRelease_iff]
    | 4 => simp [CueKind.ofCode, sceneOrRelease_iff]
    | 5 => simp [CueKind.ofCode]
    | k + 6 => simp [CueKind.ofCode]
  rw [cueFieldsOk, Bool.and_eq_true, Bool.and_eq_true, Bool.and_eq_true, decide_eq_true_eq, conditionOk_iff, flag_isSome]
  refine ⟨fun ⟨⟨⟨trigger, condition⟩, repeatable⟩, fields⟩ => ⟨trigger, repeatable, kind.1 fields, condition⟩,
    fun ⟨trigger, repeatable, fields, condition⟩ => ⟨⟨⟨trigger, condition⟩, repeatable⟩, kind.2 fields⟩⟩

theorem decodeCue_iff {x : Cue} : decodeCue b = some x ↔ cueFields b x := by
  have judged (inUse : Bool) (c : Cue) :
      (!inUse || cueFieldsOk c) = true ↔ (inUse = true → cueFieldsOk c = true) := by
    cases inUse <;> simp
  constructor
  · intro h
    unfold decodeCue at h
    split at h
    · exact nomatch h
    · next flag =>
      obtain ⟨ok, rfl⟩ := guarded_eq_some.1 h
      obtain ⟨inUse, rfl⟩ := flagOf_eq_some.1 flag
      rw [judged] at ok
      exact ⟨inUse, fun yes => cueFieldsOk_iff.1 (ok (decide_eq_true yes)), rfl⟩
  · rintro ⟨inUse, fields, eq⟩
    rw [decodeCue, flagOf_eq_some.2 ⟨inUse, rfl⟩]
    have read : cueOfBytes (decide (byteAt b 0 = 0)) b = x := eq.symm
    refine guarded_eq_some.2 ⟨?_, read⟩
    rw [judged, read, cueFieldsOk_iff, decide_eq_true_eq]
    exact fields

/-! ### SCENE and LIGHTING -/

theorem decodePart_iff {i : Nat} {x : ScenePart} : decodePart b i = some x ↔ partFields b i x := by
  constructor
  · intro h
    unfold decodePart at h
    split at h
    · next claim pattern =>
      obtain ⟨ok, rfl⟩ := guarded_eq_some.1 h
      obtain ⟨claim_ok, rfl⟩ := flagOf_eq_some.1 claim
      obtain ⟨pattern_ok, rfl⟩ := pattern_eq_some.1 pattern
      simp only [Bool.and_eq_true, decide_eq_true_eq, and_assoc, ← Nat.dvd_iff_mod_eq_zero] at ok
      obtain ⟨target, least, most, twenty, fade, ten⟩ := ok
      exact ⟨claim_ok, target, pattern_ok, ⟨least, most, twenty⟩, ⟨fade, ten⟩, rfl⟩
    · exact nomatch h
  · rintro ⟨claim, target, pattern, ⟨least, most, twenty⟩, ⟨fade, ten⟩, rfl⟩
    rw [decodePart, flagOf_eq_some.2 ⟨claim, rfl⟩, pattern_eq_some.2 ⟨pattern, rfl⟩]
    refine guarded_eq_some.2 ⟨?_, rfl⟩
    simp only [Bool.and_eq_true, decide_eq_true_eq, and_assoc, ← Nat.dvd_iff_mod_eq_zero]
    exact ⟨target, least, most, twenty, fade, ten⟩

theorem decodeParts_iff {count i : Nat} {ps : List ScenePart} : decodeParts b i count = some ps ↔
    ps.length = count ∧ ∀ k p, ps[k]? = some p → partFields b (i + 8 * k) p := by
  induction count generalizing i ps with
  | zero =>
    rw [decodeParts, List.length_eq_zero_iff]
    exact ⟨fun h => by simp [← Option.some.inj h], fun ⟨empty, _⟩ => by rw [empty]⟩
  | succ count ih =>
    constructor
    · intro h
      rw [decodeParts] at h
      split at h
      · next p ps first rest =>
        obtain rfl := Option.some.inj h
        obtain ⟨size, parts⟩ := ih.1 rest
        refine ⟨congrArg (· + 1) size, fun k q entry => ?_⟩
        cases k with
        | zero => exact Option.some.inj entry ▸ decodePart_iff.1 first
        | succ k =>
          have := parts k q entry
          rwa [show i + 8 * (k + 1) = i + 8 + 8 * k by omega]
      · exact nomatch h
    · rintro ⟨size, parts⟩
      cases ps with
      | nil => exact nomatch size
      | cons p ps =>
        have rest : decodeParts b (i + 8) count = some ps := ih.2 ⟨Nat.succ.inj size, fun k q entry => by
          have := parts (k + 1) q entry
          rwa [show i + 8 * (k + 1) = i + 8 + 8 * k by omega] at this⟩
        have first : decodePart b i = some p := decodePart_iff.2 (parts 0 p rfl)
        rw [decodeParts, first, rest]

theorem decodeScene_iff {x : List ScenePart} : decodeScene b = some x ↔ sceneFields b x := by
  rw [decodeScene, decodeParts_iff]
  simp only [Nat.zero_add]
  rfl

theorem decodeLighting_iff {x : LightParams} : decodeLighting b = some x ↔ lightingFields b x := by
  constructor
  · intro h
    unfold decodeLighting at h
    split at h
    · next indicator =>
      obtain ⟨ok, rfl⟩ := guarded_eq_some.1 h
      obtain ⟨indicator_ok, rfl⟩ := optOf_eq_some.1 indicator
      simp only [Bool.and_eq_true, decide_eq_true_eq, and_assoc] at ok
      obtain ⟨scene, level, chime⟩ := ok
      exact ⟨scene, indicator_ok, level, chime, rfl⟩
    · exact nomatch h
  · rintro ⟨scene, indicator, level, chime, rfl⟩
    rw [decodeLighting, optOf_eq_some.2 ⟨indicator, rfl⟩]
    refine guarded_eq_some.2 ⟨?_, rfl⟩
    simp only [Bool.and_eq_true, decide_eq_true_eq, and_assoc]
    exact ⟨scene, level, chime⟩

/-! ### The records of a write (R170) -/

theorem decodeAll_eq_some_iff {α : Type} {decode : List Byte → Option α} {records : List (List Byte)} {xs : List α} :
    decodeAll decode records = some xs ↔ xs.length = records.length ∧
      ∀ (i : Nat) b x, records[i]? = some b → xs[i]? = some x → decode b = some x := by
  induction records generalizing xs with
  | nil =>
    rw [decodeAll, List.length_nil, List.length_eq_zero_iff]
    exact ⟨fun h => by simp [← Option.some.inj h], fun ⟨empty, _⟩ => by rw [empty]⟩
  | cons r rs ih =>
    constructor
    · intro h
      rw [decodeAll] at h
      split at h
      · next y ys first rest =>
        obtain rfl := Option.some.inj h
        obtain ⟨size, all⟩ := ih.1 rest
        refine ⟨congrArg (· + 1) size, fun i b x at_b at_x => ?_⟩
        cases i with
        | zero => exact Option.some.inj at_b ▸ Option.some.inj at_x ▸ first
        | succ i => exact all i b x at_b at_x
      · exact nomatch h
    · rintro ⟨size, all⟩
      cases xs with
      | nil => exact nomatch size
      | cons y ys =>
        have rest : decodeAll decode rs = some ys := ih.2 ⟨Nat.succ.inj size, fun i b x => all (i + 1) b x⟩
        rw [decodeAll, all 0 r y rfl rfl, rest]

/-- The channels' records, each decoded for its own channel (R83). -/
theorem decodeSenses_eq_some_iff {first : Nat} {records : List (List Byte)} {xs : List SenseRec} :
    decodeSenses first records = some xs ↔ xs.length = records.length ∧
      ∀ (i : Nat) b x, records[i]? = some b → xs[i]? = some x → senseFields (first + i) b x := by
  induction records generalizing first xs with
  | nil =>
    rw [decodeSenses, List.length_nil, List.length_eq_zero_iff]
    exact ⟨fun h => by simp [← Option.some.inj h], fun ⟨empty, _⟩ => by rw [empty]⟩
  | cons r rs ih =>
    constructor
    · intro h
      rw [decodeSenses] at h
      split at h
      · next y ys decoded rest =>
        obtain rfl := Option.some.inj h
        obtain ⟨size, all⟩ := ih.1 rest
        refine ⟨congrArg (· + 1) size, fun i b x at_b at_x => ?_⟩
        cases i with
        | zero => exact Option.some.inj at_b ▸ Option.some.inj at_x ▸ decodeSense_iff.1 decoded
        | succ i =>
          have := all i b x at_b at_x
          rwa [show first + (i + 1) = first + 1 + i by omega]
      · exact nomatch h
    · rintro ⟨size, all⟩
      cases xs with
      | nil => exact nomatch size
      | cons y ys =>
        have rest : decodeSenses (first + 1) rs = some ys := ih.2 ⟨Nat.succ.inj size, fun i b x at_b at_x => by
          have := all (i + 1) b x at_b at_x
          rwa [show first + (i + 1) = first + 1 + i by omega] at this⟩
        have decoded : decodeSense first r = some y := decodeSense_iff.2 (all 0 r y rfl rfl)
        rw [decodeSenses, decoded, rest]

theorem cutRecords_length (size count : Nat) (bytes : List Byte) : (cutRecords size count bytes).length = count := by
  induction count generalizing bytes with
  | zero => rfl
  | succ count ih => exact congrArg (· + 1) (ih _)

theorem cutRecords_getElem? {size count i : Nat} {bytes : List Byte} (inside : i < count) :
    (cutRecords size count bytes)[i]? = some ((bytes.drop (size * i)).take size) := by
  induction count generalizing bytes i with
  | zero => exact absurd inside (Nat.not_lt_zero i)
  | succ count ih =>
    cases i with
    | zero => rfl
    | succ i =>
      rw [cutRecords, List.getElem?_cons_succ, ih (Nat.lt_of_succ_lt_succ inside), List.drop_drop, Nat.mul_succ,
        Nat.add_comm]

/-- A write puts its records in place of the entries from its first index on (R170). -/
theorem writeAt_getElem? {α : Type} {l records : List α} {first : Nat} (fits : first + records.length ≤ l.length)
    (i : Nat) : (writeAt l first records)[i]? =
      if first ≤ i ∧ i < first + records.length then records[i - first]? else l[i]? := by
  by_cases inside : first ≤ i ∧ i < first + records.length
  · rw [if_pos inside]
    obtain ⟨least, most⟩ := inside
    induction records generalizing l first with
    | nil => exact absurd most (Nat.not_lt.2 least)
    | cons r rs ih =>
      rw [List.length_cons] at fits most
      rw [writeAt]
      rcases Nat.eq_or_lt_of_le least with rfl | later
      · rw [writeAt_getElem?_of_outside (.inl (Nat.lt_succ_self first)), List.getElem?_set_self (by omega), Nat.sub_self]
        rfl
      · rw [ih (by rw [List.length_set]; omega) later (by omega), show i - first = i - (first + 1) + 1 by omega]
        rfl
  · rw [if_neg inside]
    exact writeAt_getElem?_of_outside (by omega)

end Sys2Proof.Machine

/-! The TABLE-WRITE rows: a write is refused for a record that its decoder does not take or by its owner's check, and is
otherwise held or taken at once (R20, R23, R44, R57, R84, R97, R109, R155, R156, R170). -/

namespace Sys2Proof.Machine

variable {s : State} {r : Request} {rest : List Request} {first count : Nat}

/-! ### A write that fits its table (R170) -/

section
variable {α : Type} {form : TableForm α} {table : Nat} {c : Instr}
  (row : ∀ s, exec c s = .next (executeHead (writesTable table) (tableWrite form) s)) (head : headIs r rest s)
  (write : isWrite table form.size form.entries first count r) (gate : form.gate (setRequests rest s) = none)
include row head write gate

theorem exec_write : exec c s = .next (replied r
    (match form.decode first (writtenRecords form.size count r) with
      | none => refuse .badField (setRequests rest s)
      | some records =>
        match form.check first records (setRequests rest s) with
        | some code => refuse code (setRequests rest s)
        | none => done (form.apply first records (setRequests rest s)))) := by
  rw [row, executeHead_replied head (writesTable_of_isWrite write), tableWrite_fits write rfl rfl gate] <;> rfl

/-- A record that the decoder does not take is BAD-FIELD. -/
theorem exec_write_undecoded (bad : form.decode first (writtenRecords form.size count r) = none) :
    exec c s = .next (answered r rest .badField [] s) := by
  rw [exec_write row head write gate, bad]
  rfl

/-- A write that its owner's check refuses. -/
theorem exec_write_refused {records : List α} {code : ReplyCode}
    (decoded : form.decode first (writtenRecords form.size count r) = some records)
    (bad : form.check first records (setRequests rest s) = some code) :
    exec c s = .next (answered r rest code [] s) := by
  rw [exec_write row head write gate, decoded]
  dsimp only
  rw [bad]
  rfl

/-- A write that is taken. -/
theorem exec_write_taken {records : List α}
    (decoded : form.decode first (writtenRecords form.size count r) = some records)
    (ok : form.check first records (setRequests rest s) = none) :
    exec c s = .next (replied r (done (form.apply first records (setRequests rest s)))) := by
  rw [exec_write row head write gate, decoded]
  dsimp only
  rw [ok]

end

/-- The one record of a write of one. -/
theorem writtenRecords_one (size : Nat) (r : Request) : writtenRecords size 1 r = [(r.params.drop 3).take size] := rfl

theorem decodeAll_singleton {α : Type} (decode : List Byte → Option α) (b : List Byte) :
    decodeAll decode [b] = (decode b).map fun x => [x] := by
  rw [decodeAll, decodeAll]
  cases decode b <;> rfl

/-- A write to a table of one entry has one record. -/
theorem count_of_single {table size : Nat} (write : isWrite table size 1 first count r) : first = 0 ∧ count = 1 := by
  obtain ⟨_, _, _, _, _, least, _, fits⟩ := write
  omega

/-! ### The held maps and tables (R19, R23, R40) -/

theorem heldMap_eq (held : List HeldSeatWrite) (map : List LangEntry) : heldMap held map = mapAfter held map := by
  induction held generalizing map with
  | nil => rfl
  | cons w ws ih => cases w <;> exact ih _

theorem heldBands_eq (held : List HeldMixWrite) (m : MixEngine) :
    heldBands held m.bands = (held.foldl mixWritten m).bands := by
  induction held generalizing m with
  | nil => rfl
  | cons w ws ih =>
    have rest := ih (mixWritten m w)
    cases w <;> exact rest

theorem mapOk_iff {map : List LangEntry} : mapOk map = true ↔
    ((map.filter LangEntry.enabled).map LangEntry.tag).Nodup ∧
      (map.filter fun e => e.enabled && e.isDefault).length ≤ 1 := by
  rw [mapOk, Bool.and_eq_true, decide_eq_true_eq, decide_eq_true_eq]
  rfl

theorem seatLanguageOk_iff {map : List LangEntry} {language : Option Nat} : seatLanguageOk map language = true ↔
    (∀ i, language = some i → ∃ e, map[i]? = some e ∧ e.enabled = true) ∧
      (language = none → ∀ e ∈ map, e.enabled = false) := by
  cases language with
  | none => simp [seatLanguageOk]
  | some i => simp [seatLanguageOk, languageEnabled_iff]

theorem bandsInOrder_iff {l : List Band} : bandsInOrder l = true ↔
    l.IsChain fun a b => a.threshold < b.threshold ∧ a.offset ≤ b.offset := by
  match l with
  | [] => simp [bandsInOrder]
  | [a] => simp [bandsInOrder]
  | a :: b :: rest =>
    rw [bandsInOrder, Bool.and_eq_true, Bool.and_eq_true, decide_eq_true_eq, decide_eq_true_eq, bandsInOrder_iff,
      List.isChain_cons_cons]

theorem failing_eq_none {code : ReplyCode} {ok : Bool} (passes : ok = true) : failing code ok = none := if_pos passes

theorem failing_eq_some {code : ReplyCode} {ok : Bool} (fails : ¬ ok = true) : failing code ok = some code :=
  if_neg fails

/-! ### The triggers of a CUE write (R109) -/

theorem triggersInOrder_iff {last : Nat} {l : List Cue} : triggersInOrder last l = true ↔
    (∀ c ∈ l.filter Cue.inUse, last ≤ c.trigger) ∧ (l.filter Cue.inUse).Pairwise fun a b => a.trigger ≤ b.trigger := by
  induction l generalizing last with
  | nil => simp [triggersInOrder]
  | cons c rest ih =>
    rw [triggersInOrder]
    split
    · next used =>
      rw [List.filter_cons_of_pos used, Bool.and_eq_true, decide_eq_true_eq, ih, List.forall_mem_cons,
        List.pairwise_cons]
      constructor
      · rintro ⟨least, above, ordered⟩
        exact ⟨⟨least, fun d mem => least.trans (above d mem)⟩, above, ordered⟩
      · rintro ⟨⟨least, _⟩, above, ordered⟩
        exact ⟨least, above, ordered⟩
    · next unused => rw [List.filter_cons_of_neg unused, ih]

theorem triggersInOrder_zero_iff {l : List Cue} : triggersInOrder 0 l = true ↔
    (l.filter Cue.inUse).Pairwise fun a b => a.trigger ≤ b.trigger := by
  rw [triggersInOrder_iff]
  exact and_iff_right fun _ _ => Nat.zero_le _

end Sys2Proof.Machine

namespace Sys2Proof.Proofs

open Sys2Proof Sys2Proof.Machine

/-- Settles O17: the two decoders, and the writes by the checks on the map that results. -/
theorem languageAndSeatWritesAreHeld : Obligations.LanguageAndSeatWritesAreHeld := by
  refine ⟨fun α list records first fits i => writeAt_getElem? fits i, fun α decode records xs => decodeAll_eq_some_iff,
    fun size count r => ⟨cutRecords_length _ _ _, fun i inside => ?cut⟩, heldMap_eq, fun b x => decodeLang_iff,
    fun b x => decodeSeat_iff, fun s r rest first count head => ?writes⟩
  case cut => rw [writtenRecords, cutRecords_getElem? inside, List.drop_drop]
  case writes =>
    refine ⟨fun records map write decoded result => ?language, fun write bad => ?badLanguage,
      fun records map write decoded result => ⟨fun ok => ?seat, fun bad => ?offOffer⟩, fun write bad => ?badSeat⟩
    case language =>
      subst result
      split
      · next ok =>
        exact exec_write_taken (form := languageForm) (fun _ => rfl) head write rfl decoded
          (failing_eq_none (mapOk_iff.2 ok))
      · next bad =>
        exact exec_write_refused (form := languageForm) (fun _ => rfl) head write rfl decoded
          (failing_eq_some fun ok => bad (mapOk_iff.1 ok))
    case badLanguage => exact exec_write_undecoded (form := languageForm) (fun _ => rfl) head write rfl bad
    case seat =>
      subst result
      exact exec_write_taken (form := seatForm) (fun _ => rfl) head write rfl decoded
        (failing_eq_none (List.all_eq_true.2 fun w mem => seatLanguageOk_iff.2 (ok w mem)))
    case offOffer =>
      subst result
      refine exec_write_refused (form := seatForm) (fun _ => rfl) head write rfl decoded (failing_eq_some fun ok => ?_)
      obtain ⟨w, mem, off⟩ := bad
      obtain ⟨offered, none⟩ := seatLanguageOk_iff.1 (List.all_eq_true.1 ok w mem)
      rcases off with ⟨i, language, disabled⟩ | ⟨language, e, mem, enabled⟩
      · obtain ⟨e, entry, enabled⟩ := offered i language
        exact absurd (disabled e entry) (by simp [enabled])
      · exact absurd (none language e mem) (by simp [enabled])
    case badSeat => exact exec_write_undecoded (form := seatForm) (fun _ => rfl) head write rfl bad

/-- Settles O18: the decoders, and the writes table by table. -/
theorem mixAndLineWritesAreHeld : Obligations.MixAndLineWritesAreHeld := by
  refine ⟨fun m => heldBands_eq _ _, fun b x => decodeZone_iff, fun b x => decodeCurve_iff, fun b x => decodeMix_iff,
    fun b x => decodeBand_iff, fun b x => decodeClass_iff, fun b x => decodeChime_iff, fun b x => decodeSeatLine_iff,
    fun s r rest first count head => ⟨fun write => ?zone, fun write => ?curve, fun write => ?mix, fun write => ?bands,
      fun write => ?cls, fun write => ?chime, fun write => ?line⟩⟩
  case zone =>
    split
    · next decoded => exact exec_write_taken (form := zoneForm) (fun _ => rfl) head write rfl decoded rfl
    · next bad => exact exec_write_undecoded (form := zoneForm) (fun _ => rfl) head write rfl bad
  case curve =>
    split
    · next decoded => exact exec_write_taken (form := curveForm) (fun _ => rfl) head write rfl decoded rfl
    · next bad => exact exec_write_undecoded (form := curveForm) (fun _ => rfl) head write rfl bad
  case mix =>
    obtain ⟨rfl, rfl⟩ := count_of_single write
    have all : decodeAll decodeMix (writtenRecords 5 1 r) = (decodeMix ((r.params.drop 3).take 5)).map fun x => [x] := by
      rw [writtenRecords_one, decodeAll_singleton]
    split
    · next record decoded =>
      exact exec_write_taken (c := .tableWriteMix) (form := mixForm) (fun _ => rfl) head write rfl (all.trans (by rw [decoded]; rfl)) rfl
    · next bad =>
      exact exec_write_undecoded (c := .tableWriteMix) (form := mixForm) (fun _ => rfl) head write rfl (all.trans (by rw [bad]; rfl))
  case bands =>
    split
    · next decoded =>
      split
      · next ordered =>
        exact exec_write_taken (form := bandsForm) (fun _ => rfl) head write rfl decoded
          (failing_eq_none (bandsInOrder_iff.2 ordered))
      · next falls =>
        exact exec_write_refused (form := bandsForm) (fun _ => rfl) head write rfl decoded
          (failing_eq_some fun ordered => falls (bandsInOrder_iff.1 ordered))
    · next bad => exact exec_write_undecoded (form := bandsForm) (fun _ => rfl) head write rfl bad
  case cls =>
    split
    · next decoded => exact exec_write_taken (form := classForm) (fun _ => rfl) head write rfl decoded rfl
    · next bad => exact exec_write_undecoded (form := classForm) (fun _ => rfl) head write rfl bad
  case chime =>
    split
    · next decoded => exact exec_write_taken (form := chimeForm) (fun _ => rfl) head write rfl decoded rfl
    · next bad => exact exec_write_undecoded (form := chimeForm) (fun _ => rfl) head write rfl bad
  case line =>
    split
    · next decoded => exact exec_write_taken (form := seatLineForm) (fun _ => rfl) head write rfl decoded rfl
    · next bad => exact exec_write_undecoded (form := seatLineForm) (fun _ => rfl) head write rfl bad

/-- Settles O21: the decoder gives ARMED records, and the triggers of the table that results decide. -/
theorem cueWriteArmsCues : Obligations.CueWriteArmsCues := by
  refine ⟨fun b x => decodeCue_iff, fun s r rest first count head write stopped => ?_⟩
  have gate : cueForm.gate (setRequests rest s) = none := if_pos stopped
  refine ⟨fun bad => exec_write_undecoded (form := cueForm) (fun _ => rfl) head write gate bad,
    fun records decoded => ⟨fun c mem => ?armed, ?taken⟩⟩
  case armed =>
    refine decodeAll_forall (p := fun c : Cue => c.state = .armed) (fun b c decoded => ?_) decoded c mem
    obtain ⟨_, _, eq⟩ := decodeCue_iff.1 decoded
    rw [eq]
  case taken =>
    have size : records.length = count := (decodeAll_eq_some_iff.1 decoded).1.trans (cutRecords_length _ _ _)
    split
    · next ordered =>
      refine (exec_write_taken (form := cueForm) (fun _ => rfl) head write gate decoded
        (failing_eq_none (triggersInOrder_zero_iff.2 ordered))).trans ?_
      have off : (fun i => !(decide (first ≤ i) && decide (i < first + records.length))) =
          fun i => decide (i < first ∨ first + count ≤ i) := by
        funext i
        rw [size, ← Bool.decide_and, ← decide_not]
        exact decide_eq_decide.2 (by omega)
      simp only [← off]
      rfl
    · next falls =>
      exact exec_write_refused (form := cueForm) (fun _ => rfl) head write gate decoded
        (failing_eq_some fun ordered => falls (triggersInOrder_zero_iff.1 ordered))

end Sys2Proof.Proofs

/-! The limits (R97 to R100): the base scene selection, the trip and the clear of a limit, LIMIT writes and
LIMIT-CLEAR. -/

namespace Sys2Proof.Machine

variable {s t : State}

/-! ### Notices, and the state without them -/

theorem notify_setSense (n : Notice) (x : Sense) (s : State) :
    notify n { s with sense := x } = { notify n s with sense := x } := by
  unfold notify
  split <;> rfl

/-- What a notice does to the management unit is a matter of that unit alone (R173). -/
theorem notify_manage_congr (n : Notice) (same : t.manage = s.manage) : (notify n t).manage = (notify n s).manage := by
  unfold notify
  rw [same]
  split <;> rfl

theorem notifyAll_manage_congr (ns : List Notice) (same : t.manage = s.manage) :
    (notifyAll ns t).manage = (notifyAll ns s).manage := by
  induction ns generalizing s t with
  | nil => exact same
  | cons n ns ih => exact ih (notify_manage_congr n same)

theorem notify_manage_only (n : Notice) (s : State) : notify n s = { s with manage := (notify n s).manage } := by
  unfold notify
  split <;> rfl

theorem notifyAll_manage_only (ns : List Notice) (s : State) :
    notifyAll ns s = { s with manage := (notifyAll ns s).manage } := by
  induction ns generalizing s with
  | nil => rfl
  | cons n ns ih =>
    rw [notifyAll, ih, notify_manage_only n s]

theorem notifyAll_append (ns ms : List Notice) (s : State) : notifyAll (ns ++ ms) s = notifyAll ms (notifyAll ns s) := by
  induction ns generalizing s with
  | nil => rfl
  | cons n ns ih => exact ih _

/-- A reply joins its list whatever notices are queued before it. -/
theorem notifyAll_setRequests (ns : List Notice) (rest : List Request) (s : State) :
    notifyAll ns (setRequests rest s) = setRequests rest (notifyAll ns s) := by
  induction ns generalizing s with
  | nil => rfl
  | cons n ns ih => rw [notifyAll, notify_setRequests, ih, notifyAll]

theorem replied_done_manage {r : Request} (same : s.manage = t.manage) :
    (replied r (done s)).manage = (replied r (done t)).manage := by
  simp only [replied, addReply, done, same]

/-! ### The base scene selection (R99) -/

theorem setBaseScene_relit (x : Option Nat) (s : State) :
    relit s.lighting { s.lighting with base := x } (setBaseScene x s).lighting := by
  by_cases held : s.lighting.base = x
  · subst held
    rw [setBaseScene, if_pos rfl]
    exact relit_refl _
  · rw [setBaseScene, if_neg held]
    exact relit_resolve (fun same => held (congrArg Lighting.base same).symm) rfl

theorem setBaseScene_lighting_only (x : Option Nat) (s : State) :
    setBaseScene x s = { s with lighting := (setBaseScene x s).lighting } := by
  unfold setBaseScene
  split <;> rfl

/-- The selection formed anew, and reported to the BASE layer where it changes (R99). -/
theorem reformSelection_spec (s : State) :
    reformSelection s = { s with
      sense := { s.sense with selection := baseSelection s.sense.limits }
      lighting := (reformSelection s).lighting } ∧
    (baseSelection s.sense.limits = s.sense.selection → (reformSelection s).lighting = s.lighting) ∧
    (baseSelection s.sense.limits ≠ s.sense.selection →
      relit s.lighting { s.lighting with base := baseSelection s.sense.limits } (reformSelection s).lighting) := by
  unfold reformSelection
  dsimp only
  split
  · next same =>
    rw [← same]
    exact ⟨rfl, fun _ => rfl, fun other => absurd rfl other⟩
  · next other =>
    rw [setBaseScene_lighting_only]
    exact ⟨rfl, fun same => absurd same.symm other, fun _ => setBaseScene_relit _
      { s with sense := { s.sense with selection := baseSelection s.sense.limits } }⟩

theorem baseSelection_cons (x : Limit) (l : List Limit) : baseSelection (x :: l) =
    match x.action with
    | .baseScene n => if x.inUse && x.tripped then some n else baseSelection l
    | _ => baseSelection l := rfl

theorem baseSelection_cons_of_selected {x : Limit} {l : List Limit} {n : Nat} (action : x.action = .baseScene n)
    (inUse : x.inUse = true) (tripped : x.tripped = true) : baseSelection (x :: l) = some n := by
  rw [baseSelection_cons, action, inUse, tripped]
  rfl

theorem baseSelection_cons_of_passed {x : Limit} {l : List Limit}
    (passed : ∀ m, x.action = .baseScene m → x.inUse = false ∨ x.tripped = false) :
    baseSelection (x :: l) = baseSelection l := by
  rw [baseSelection_cons]
  split
  · next m action =>
    rcases passed m action with unused | clear
    · rw [unused]
      rfl
    · rw [clear, Bool.and_false]
      rfl
  · rfl

/-- The selection is the scene of the lowest-indexed in-use TRIPPED entry with action BASE-SCENE (R99). -/
theorem baseSelection_eq_some_iff {limits : List Limit} {n : Nat} : baseSelection limits = some n ↔
    ∃ (i : Nat) (x : Limit), limits[i]? = some x ∧ x.inUse = true ∧ x.tripped = true ∧ x.action = .baseScene n ∧
      ∀ (j : Nat) (y : Limit) (m : Nat), j < i → limits[j]? = some y → y.action = .baseScene m →
        y.inUse = false ∨ y.tripped = false := by
  induction limits with
  | nil => exact ⟨(fun h => nomatch h), fun ⟨_, _, entry, _⟩ => nomatch entry⟩
  | cons x l ih =>
    by_cases selected : ∃ m, x.action = .baseScene m ∧ x.inUse = true ∧ x.tripped = true
    · obtain ⟨m, action, inUse, tripped⟩ := selected
      rw [baseSelection_cons_of_selected action inUse tripped]
      constructor
      · intro h
        obtain rfl := Option.some.inj h
        exact ⟨0, x, rfl, inUse, tripped, action, fun _ _ _ below => absurd below (Nat.not_lt_zero _)⟩
      · rintro ⟨i, y, entry, _, _, at_y, before⟩
        cases i with
        | zero =>
          obtain rfl := Option.some.inj entry
          rw [LimitAction.baseScene.inj (action.symm.trans at_y)]
        | succ i =>
          rcases before 0 x m (Nat.succ_pos i) rfl action with unused | clear
          · exact absurd (inUse.symm.trans unused) nofun
          · exact absurd (tripped.symm.trans clear) nofun
    · have passed (m : Nat) (action : x.action = .baseScene m) : x.inUse = false ∨ x.tripped = false := by
        by_contra both
        rw [not_or, Bool.not_eq_false, Bool.not_eq_false] at both
        exact selected ⟨m, action, both⟩
      rw [baseSelection_cons_of_passed passed, ih]
      constructor
      · rintro ⟨i, y, entry, inUse, tripped, at_y, before⟩
        refine ⟨i + 1, y, entry, inUse, tripped, at_y, fun j z m below entry action => ?_⟩
        cases j with
        | zero => exact Option.some.inj entry ▸ passed m (Option.some.inj entry ▸ action)
        | succ j => exact before j z m (Nat.lt_of_succ_lt_succ below) entry action
      · rintro ⟨i, y, entry, inUse, tripped, at_y, before⟩
        cases i with
        | zero =>
          obtain rfl := Option.some.inj entry
          exact absurd ⟨n, at_y, inUse, tripped⟩ selected
        | succ i =>
          exact ⟨i, y, entry, inUse, tripped, at_y, fun j z m below => before (j + 1) z m (Nat.succ_lt_succ below)⟩

/-! ### Trips and clears (R98) -/

theorem trips_iff {x : Limit} {v : Nat} : trips x v = true ↔ x.tripped = false ∧
    ((x.direction = .over ∧ x.threshold < v) ∨ (x.direction = .under ∧ v < x.threshold)) := by
  unfold trips
  cases x.direction <;> simp

theorem clears_iff {x : Limit} {v : Nat} :
    clears x v = true ↔ x.tripped = true ∧ x.mode = .transparent ∧
      ((x.direction = .over ∧ (v : Int) ≤ max 0 ((x.threshold : Int) - x.hysteresis)) ∨
        (x.direction = .under ∧ min 65535 (x.threshold + x.hysteresis) ≤ v)) := by
  unfold clears
  rw [Bool.and_eq_true, Bool.and_eq_true, decide_eq_true_eq, and_assoc]
  refine and_congr_right fun _ => and_congr_right fun _ => ?_
  cases x.direction
  · simp only [decide_eq_true_eq, true_and, reduceCtorEq, false_and, or_false]
    omega
  · simp only [decide_eq_true_eq, true_and, reduceCtorEq, false_and, false_or]
    omega

/-- A limit changes its state with its notice and the selection (R99). -/
theorem limitChanges_of_reform {i v : Nat} {x : Limit} {now : Bool} (entry : s.sense.limits[i]? = some x) :
    limitChanges i v x now s (reformSelection (notify (if now then .limitTripped i v else .limitCleared i)
      (setLimit i (fun y => { y with tripped := now }) s))) := by
  rintro limits rfl
  have written : setLimit i (fun y => { y with tripped := now }) s =
      { s with sense := { s.sense with limits := s.sense.limits.set i { x with tripped := now } } } := by
    rw [setLimit, List.modify_eq_set_getElem?, entry]
    rfl
  rw [written, notify_setSense, notify_manage_only]
  obtain ⟨frame, same, changed⟩ := reformSelection_spec { s with
    sense := { s.sense with limits := s.sense.limits.set i { x with tripped := now } }
    manage := (notify (if now then .limitTripped i v else .limitCleared i) s).manage }
  generalize reformSelection _ = u at frame same changed ⊢
  exact ⟨by rw [frame], by rw [frame], same, changed, by rw [frame]⟩

theorem tripLimit_changes {i v : Nat} {x : Limit} (entry : s.sense.limits[i]? = some x) :
    limitChanges i v x true s (tripLimit i v s) := limitChanges_of_reform entry

theorem clearLimit_of_tripped {i : Nat} {x : Limit} (entry : s.sense.limits[i]? = some x) (tripped : x.tripped = true)
    (v : Nat) : limitChanges i v x false s (clearLimit i s) := by
  have cleared := limitChanges_of_reform (now := false) (v := v) entry
  rw [clearLimit, entry]
  dsimp only
  rwa [if_pos tripped]

theorem clearLimit_of_clear {i : Nat} (clear : ∀ x, s.sense.limits[i]? = some x → x.tripped = false) :
    clearLimit i s = s := by
  unfold clearLimit
  split
  · rfl
  · next x entry =>
    rw [clear x entry]
    rfl

theorem limitRequest_eq (i : Nat) (x : Limit) : limitRequest i x = limitAsks i x.action := by
  cases action : x.action <;> simp only [limitRequest, limitAsks, action]

/-- A limit that changes nothing asks for nothing (R98). -/
theorem evaluateLimit_of_stays {i v : Nat} {x : Limit} (entry : s.sense.limits[i]? = some x) (stays : trips x v = false)
    (stays' : clears x v = false) (defer : Bool) : evaluateLimit defer i v s = (s, []) := by
  rw [evaluateLimit, entry]
  dsimp only
  rw [stays, stays']
  rfl

/-- A trip asks for the announcement of its action, at once or for later (R99). -/
theorem evaluateLimit_of_trips {i v : Nat} {x : Limit} (entry : s.sense.limits[i]? = some x) (trip : trips x v = true)
    (defer : Bool) : evaluateLimit defer i v s =
      if defer then (tripLimit i v s, limitAsks i x.action) else (announceAll (limitAsks i x.action) (tripLimit i v s), []) := by
  rw [evaluateLimit, entry]
  dsimp only
  rw [if_pos trip, limitRequest_eq]

theorem evaluateLimit_of_clears {i v : Nat} {x : Limit} (entry : s.sense.limits[i]? = some x) (stays : trips x v = false)
    (clear : clears x v = true) (defer : Bool) : evaluateLimit defer i v s = (clearLimit i s, []) := by
  rw [evaluateLimit, entry]
  dsimp only
  rw [stays, clear]
  rfl

theorem tripped_of_clears {x : Limit} {v : Nat} (clear : clears x v = true) : x.tripped = true := by
  unfold clears at clear
  simp only [Bool.and_eq_true] at clear
  exact clear.1.1

/-! ### LIMIT writes (R97) -/

/-- A write of one record reports the entry that it replaces where that was TRIPPED (R97). -/
theorem writeLimits_one {i : Nat} {old : Limit} (new : Limit) (entry : s.sense.limits[i]? = some old) :
    writeLimits i [new] s = reformSelection (notifyAll (if old.tripped then [.limitCleared i] else [])
      { s with sense := { s.sense with limits := s.sense.limits.set i new } }) := by
  obtain ⟨inside, at_i⟩ := List.getElem?_eq_some_iff.1 entry
  rw [writeLimits, List.drop_eq_getElem_cons inside, at_i]
  have none (olds : List Limit) : clearedByWrite (i + 1) olds [] = [] := by cases olds <;> rfl
  simp only [clearedByWrite, none, List.append_nil]
  rfl

/-- What a write of one record does (R97, R99). -/
theorem writeLimits_one_spec {i : Nat} {old : Limit} (new : Limit) (entry : s.sense.limits[i]? = some old) :
    writeLimits i [new] s = { s with
      sense := { s.sense with
        limits := s.sense.limits.set i new, selection := baseSelection (s.sense.limits.set i new) }
      manage := (notifyAll (if old.tripped then [.limitCleared i] else []) s).manage
      lighting := (writeLimits i [new] s).lighting } ∧
    (baseSelection (s.sense.limits.set i new) = s.sense.selection → (writeLimits i [new] s).lighting = s.lighting) ∧
    (baseSelection (s.sense.limits.set i new) ≠ s.sense.selection →
      relit s.lighting { s.lighting with base := baseSelection (s.sense.limits.set i new) }
        (writeLimits i [new] s).lighting) := by
  have noticed := notifyAll_manage_congr (if old.tripped then [.limitCleared i] else []) (s := s)
    (t := { s with sense := { s.sense with limits := s.sense.limits.set i new } }) rfl
  rw [writeLimits_one new entry, notifyAll_manage_only _ { s with sense := _ }, noticed]
  exact reformSelection_spec _

/-! ### LIMIT-CLEAR (R100) -/

/-- A limit in state CLEAR. -/
def Limit.cleared (x : Limit) : Limit := { x with tripped := false }

/-- The notice of limit `i`, where it is TRIPPED (R100). -/
def clearNotice (limits : List Limit) (i : Nat) : List Notice :=
  if (limits[i]?).map Limit.tripped = some true then [.limitCleared i] else []

/-- What a clear does, whatever the state of the limit (R100). -/
theorem clearLimit_spec (i : Nat) (s : State) :
    (clearLimit i s).sense.limits = s.sense.limits.modify i Limit.cleared ∧
    (clearLimit i s).manage = (notifyAll (clearNotice s.sense.limits i) s).manage ∧
    clearLimit i s = { s with
      sense := { s.sense with limits := (clearLimit i s).sense.limits, selection := (clearLimit i s).sense.selection }
      manage := (clearLimit i s).manage, lighting := (clearLimit i s).lighting } := by
  by_cases tripped : ∃ x, s.sense.limits[i]? = some x ∧ x.tripped = true
  · obtain ⟨x, entry, tripped⟩ := tripped
    obtain ⟨sense, manage, _, _, frame⟩ := clearLimit_of_tripped entry tripped 0 _ rfl
    have notice : clearNotice s.sense.limits i = [.limitCleared i] := by simp [clearNotice, entry, tripped]
    refine ⟨?_, ?_, ?_⟩
    · rw [sense, List.modify_eq_set_getElem?, entry]
      rfl
    · rw [manage, notice]
      rfl
    · rw [frame, sense]
  · have clear (x : Limit) (entry : s.sense.limits[i]? = some x) : x.tripped = false :=
      Bool.eq_false_iff.2 fun is => tripped ⟨x, entry, is⟩
    have notice : clearNotice s.sense.limits i = [] := by
      cases entry : s.sense.limits[i]? with
      | none => simp [clearNotice, entry]
      | some x => simp [clearNotice, entry, clear x entry]
    rw [clearLimit_of_clear clear, notice]
    refine ⟨?_, rfl, rfl⟩
    cases entry : s.sense.limits[i]? with
    | none => rw [List.modify_eq_set_getElem?, entry]; rfl
    | some x =>
      have same : x.cleared = x := by rw [Limit.cleared, ← clear x entry]
      obtain ⟨inside, at_i⟩ := List.getElem?_eq_some_iff.1 entry
      rw [List.modify_eq_set_getElem?, entry]
      show s.sense.limits = s.sense.limits.set i x.cleared
      rw [same, ← at_i, List.set_getElem_self]

/-- Each entry once, in the order of `l`: the notices, and what else changes (R100). -/
theorem clearLimits_spec {l : List Nat} (once : l.Nodup) (s : State) :
    (clearLimits l s).sense.limits = l.foldl (fun x i => x.modify i Limit.cleared) s.sense.limits ∧
    (clearLimits l s).manage = (notifyAll (l.flatMap (clearNotice s.sense.limits)) s).manage ∧
    clearLimits l s = { s with
      sense := { s.sense with limits := (clearLimits l s).sense.limits, selection := (clearLimits l s).sense.selection }
      manage := (clearLimits l s).manage, lighting := (clearLimits l s).lighting } := by
  induction l generalizing s with
  | nil => exact ⟨rfl, rfl, rfl⟩
  | cons i rest ih =>
    obtain ⟨apart, once⟩ := List.nodup_cons.1 once
    obtain ⟨limits, manage, frame⟩ := clearLimit_spec i s
    obtain ⟨limits', manage', frame'⟩ := ih once (clearLimit i s)
    have others : rest.flatMap (clearNotice (clearLimit i s).sense.limits) = rest.flatMap (clearNotice s.sense.limits) := by
      refine List.flatMap_congr fun j mem => ?_
      have other : i ≠ j := fun same => apart (same ▸ mem)
      rw [clearNotice, clearNotice, limits, List.getElem?_modify_ne _ _ other]
    refine ⟨limits'.trans (by rw [limits]; rfl), ?_, ?_⟩
    · rw [clearLimits, manage', others, List.flatMap_cons, notifyAll_append]
      exact notifyAll_manage_congr _ manage
    · rw [clearLimits, frame', frame]

theorem flatMap_ite_singleton {α β : Type} (p : α → Prop) [DecidablePred p] (f : α → β) (l : List α) :
    (l.flatMap fun i => if p i then [f i] else []) = l.filterMap fun i => if p i then some (f i) else none := by
  induction l with
  | nil => rfl
  | cons x xs ih => by_cases holds : p x <;> simp [holds, ih]

theorem foldl_modify_getElem? {α : Type} {f : α → α} (idem : ∀ x, f (f x) = f x) (l : List Nat) (xs : List α) (j : Nat) :
    (l.foldl (fun x i => x.modify i f) xs)[j]? = if j ∈ l then xs[j]?.map f else xs[j]? := by
  induction l generalizing xs with
  | nil => rfl
  | cons i rest ih =>
    rw [List.foldl_cons, ih, List.getElem?_modify]
    cases xs[j]? with
    | none => simp
    | some x =>
      by_cases here : i = j
      · subst here
        by_cases later : i ∈ rest <;> simp [later, idem]
      · by_cases later : j ∈ rest <;> simp [here, Ne.symm here, later]

/-- LIMIT-CLEAR of all puts every entry in state CLEAR (R100). -/
theorem clearLimits_all {limits : List Limit} (size : limits.length = 8) :
    (List.range 8).foldl (fun x i => x.modify i Limit.cleared) limits = limits.map Limit.cleared := by
  refine List.ext_getElem? fun j => ?_
  rw [foldl_modify_getElem? (f := Limit.cleared) (fun _ => rfl), List.getElem?_map]
  split
  · rfl
  · next outside =>
    rw [List.getElem?_eq_none (by rw [size]; simpa using outside)]
    rfl

theorem baseSelection_eq_none_of {limits : List Limit}
    (passed : ∀ x ∈ limits, ∀ m, x.action = .baseScene m → x.inUse = false ∨ x.tripped = false) :
    baseSelection limits = none := by
  cases selection : baseSelection limits with
  | none => rfl
  | some n =>
    obtain ⟨i, x, entry, inUse, tripped, action, _⟩ := baseSelection_eq_some_iff.1 selection
    rcases passed x (List.mem_of_getElem? entry) n action with unused | clear
    · exact absurd (inUse.symm.trans unused) nofun
    · exact absurd (tripped.symm.trans clear) nofun

/-- No clear selects a scene where none was selected (R99). -/
theorem baseSelection_modify_cleared {limits : List Limit} (none : baseSelection limits = none) (i : Nat) :
    baseSelection (limits.modify i Limit.cleared) = Option.none := by
  have passed : ∀ x ∈ limits, ∀ m, x.action = .baseScene m → x.inUse = false ∨ x.tripped = false := by
    intro x mem m action
    by_contra both
    rw [not_or, Bool.not_eq_false, Bool.not_eq_false] at both
    clear * - none mem action both
    induction limits with
    | nil => exact nomatch mem
    | cons y l ih =>
      by_cases selected : ∃ m, y.action = .baseScene m ∧ y.inUse = true ∧ y.tripped = true
      · obtain ⟨k, action, inUse, tripped⟩ := selected
        exact nomatch (baseSelection_cons_of_selected action inUse tripped).symm.trans none
      · have skip : ∀ k, y.action = .baseScene k → y.inUse = false ∨ y.tripped = false := by
          intro k action
          by_contra both
          rw [not_or, Bool.not_eq_false, Bool.not_eq_false] at both
          exact selected ⟨k, action, both⟩
        rcases List.mem_cons.1 mem with rfl | mem
        · exact selected ⟨m, action, both⟩
        · exact ih ((baseSelection_cons_of_passed skip).symm.trans none) mem
  refine baseSelection_eq_none_of fun y mem m action => ?_
  obtain ⟨j, entry⟩ := List.mem_iff_getElem?.1 mem
  rw [List.getElem?_modify] at entry
  obtain ⟨x, at_j, rfl⟩ := Option.map_eq_some_iff.1 entry
  by_cases here : i = j
  · rw [if_pos here]
    exact .inr rfl
  · rw [if_neg here] at action ⊢
    exact passed x (List.mem_of_getElem? at_j) m action

/-- What LIMIT-CLEAR of several entries keeps of the BASE layer, `s` being the state before it: nothing has changed, or
the selection stands in the layer, with every lamp resolved where the layer held the selection before (R99, R157). -/
def BaseFollows (s t : State) : Prop :=
  (t.sense.selection = s.sense.selection ∧ t.lighting = s.lighting) ∨
    (t.lighting.base = t.sense.selection ∧
      t.lighting = { s.lighting with base := t.lighting.base, lamps := t.lighting.lamps } ∧
      (s.lighting.base = s.sense.selection → ∀ (c : Nat) (y : Lamp), t.lighting.lamps[c]? = some y →
        y.setting = governing t.lighting c))

theorem takeSetting_setting (new : Setting) (x : Lamp) : (takeSetting new x).setting = new := by
  rcases takeSetting_cases new x with ⟨same, keeps⟩ | ⟨_, back, returns⟩ | ⟨_, _, begins⟩
  · rw [keeps, same]
  · rw [returns, asBefore_setting, back]
  · rw [begins, beginTransition_setting]

/-- After a resolution every lamp has its governing setting (R159). -/
theorem resolve_settings (g : Lighting) (c : Nat) (y : Lamp) (entry : (resolve g).lamps[c]? = some y) :
    y.setting = governing (resolve g) c := by
  rw [resolve_getElem?] at entry
  obtain ⟨x, _, rfl⟩ := Option.map_eq_some_iff.1 entry
  exact takeSetting_setting _ _

theorem BaseFollows.reform (h : BaseFollows s t) : BaseFollows s (reformSelection t) := by
  unfold reformSelection
  dsimp only
  split
  · exact h
  · next changed =>
    refine .inr ?_
    unfold setBaseScene
    dsimp only
    split
    · next same =>
      rcases h with ⟨selection, lighting⟩ | ⟨base, _⟩
      · refine ⟨same, by rw [lighting], fun held => ?_⟩
        rw [lighting, held] at same
        exact absurd (selection.trans same) changed
      · exact absurd (base.symm.trans same) changed
    · refine ⟨rfl, ?_, fun _ => resolve_settings _⟩
      rcases h with ⟨_, lighting⟩ | ⟨_, lighting, _⟩
      · rw [lighting]
        rfl
      · rw [lighting]
        rfl

theorem BaseFollows.clearLimit (h : BaseFollows s t) (i : Nat) : BaseFollows s (clearLimit i t) := by
  unfold Machine.clearLimit
  split
  · exact h
  · split
    · refine BaseFollows.reform ?_
      rw [setLimit, notify_setSense, notify_manage_only]
      exact h
    · exact h

theorem BaseFollows.clearLimits (l : List Nat) (h : BaseFollows s t) : BaseFollows s (clearLimits l t) := by
  induction l generalizing t with
  | nil => exact h
  | cons i rest ih => exact ih (h.clearLimit i)

theorem clearLimit_selection (selected : s.sense.selection = baseSelection s.sense.limits) (i : Nat) :
    (clearLimit i s).sense.selection = baseSelection (clearLimit i s).sense.limits := by
  unfold clearLimit
  split
  · exact selected
  · split
    · rw [(reformSelection_spec _).1]
    · exact selected

theorem clearLimits_selection (selected : s.sense.selection = baseSelection s.sense.limits) (l : List Nat) :
    (clearLimits l s).sense.selection = baseSelection (clearLimits l s).sense.limits := by
  induction l generalizing s with
  | nil => exact selected
  | cons i rest ih => exact ih (clearLimit_selection selected i)

/-- With no scene selected, LIMIT-CLEAR changes no lamp (R99). -/
theorem clearLimits_lighting_of_none (selected : s.sense.selection = baseSelection s.sense.limits)
    (none : s.sense.selection = none) (l : List Nat) : (clearLimits l s).lighting = s.lighting := by
  induction l generalizing s with
  | nil => rfl
  | cons i rest ih =>
    have limits := (clearLimit_spec i s).1
    have selection := clearLimit_selection selected i
    have still : (clearLimit i s).sense.selection = Option.none := by
      rw [selection, limits]
      exact baseSelection_modify_cleared (selected.symm.trans none) i
    refine (ih selection still).trans ?_
    by_cases tripped : ∃ x, s.sense.limits[i]? = some x ∧ x.tripped = true
    · obtain ⟨x, entry, tripped⟩ := tripped
      obtain ⟨sense, _, same, _⟩ := clearLimit_of_tripped entry tripped 0 _ rfl
      rw [sense] at still
      exact same (still.trans none.symm)
    · rw [clearLimit_of_clear fun x entry => Bool.eq_false_iff.2 fun is => tripped ⟨x, entry, is⟩]

end Sys2Proof.Machine

namespace Sys2Proof.Proofs

open Sys2Proof Sys2Proof.Machine

/-- Settles O20: the decoder, and the entry's notice and the selection after a write of one record. -/
theorem limitWriteReplacesEntry : Obligations.LimitWriteReplacesEntry := by
  refine ⟨fun b x => decodeLimit_iff, fun s r rest first count head write =>
    ⟨fun bad => exec_write_undecoded (form := limitForm) (fun _ => rfl) head write rfl bad,
      fun records decoded => exec_write_taken (form := limitForm) (fun _ => rfl) head write rfl decoded rfl⟩,
    fun s r rest i old new head write decoded entry => ⟨?clear, ?written⟩⟩
  case clear =>
    obtain ⟨_, _, _, _, _, _, eq⟩ := decodeLimit_iff.1 decoded
    rw [eq]
  case written =>
    have one : decodeAll decodeLimit (writtenRecords 15 1 r) = some [new] := by
      rw [writtenRecords_one, decodeAll_singleton, decoded]
      rfl
    have taken : exec .tableWriteLimit s = .next (replied r (done (writeLimits i [new] (setRequests rest s)))) :=
      exec_write_taken (form := limitForm) (fun _ => rfl) head write rfl one rfl
    obtain ⟨frame, same, changed⟩ := writeLimits_one_spec (s := setRequests rest s) new entry
    have noticed : (notifyAll (if old.tripped then [.limitCleared i] else []) (setRequests rest s)).manage =
        (setRequests rest (if old.tripped then notify (.limitCleared i) s else s)).manage := by
      rw [notifyAll_setRequests]
      cases old.tripped <;> rfl
    rw [noticed] at frame
    refine ⟨_, taken, ?_, ?_, same, changed, ?_⟩
    · exact congrArg State.sense frame
    · have manage : (writeLimits i [new] (setRequests rest s)).manage =
          (setRequests rest (if old.tripped then notify (.limitCleared i) s else s)).manage := by
        rw [frame]
      exact replied_done_manage manage
    · rw [frame]
      rfl

/-- Settles O37: LIMIT-CLEAR of one entry and of all, the evaluation, the selection, and the two tests. -/
theorem limitsTripAndClear : Obligations.LimitsTripAndClear := by
  refine ⟨fun s r rest b head kind params => ?clear, fun s i v x entry => ⟨fun trip clear defer =>
    evaluateLimit_of_stays entry trip clear defer, fun now change => ?changes⟩, fun limits n => baseSelection_eq_some_iff,
    fun x v => ⟨trips_iff, fun _ _ => clears_iff⟩⟩
  case clear =>
    have row : exec .limitClear s = .next (replied r (clearLimitRequest r (setRequests rest s))) :=
      congrArg Host.Outcome.next (executeHead_replied head (isKind_iff.2 (by rw [kind]; rfl)))
    have named : paramAt r 0 = b.toNat := by simp [params, paramAt, byteAt]
    have length : ¬ r.params.length ≠ 1 := by simp [params]
    have one (low : b.toNat ≤ 7) : clearLimitRequest r (setRequests rest s) =
        done (clearLimit b.toNat (setRequests rest s)) := by
      rw [clearLimitRequest, if_neg length, named, if_neg (by omega), if_pos low]
    refine ⟨fun high other => ?badIndex, fun x low entry => ⟨fun clear => ?left, fun tripped => ?one⟩,
      fun all size => ?all⟩
    case badIndex =>
      rw [row, clearLimitRequest, if_neg length, named, if_neg other, if_neg (by omega)]
      rfl
    case left =>
      have same : clearLimit b.toNat (setRequests rest s) = setRequests rest s :=
        clearLimit_of_clear fun y at_b => Option.some.inj (entry.symm.trans at_b) ▸ clear
      rw [row, one low, same]
      rfl
    case one =>
      rw [row, one low]
      obtain ⟨sense, manage, same, changed, frame⟩ :=
        clearLimit_of_tripped (s := setRequests rest s) entry tripped 0 _ rfl
      refine ⟨_, rfl, congrArg Sense.limits sense, ?_, ?_, ?_, ?_, ?_⟩
      · exact (congrArg Sense.selection sense).trans (congrArg baseSelection (congrArg Sense.limits sense).symm)
      · rw [if_neg Bool.false_ne_true, notify_setRequests] at manage
        exact replied_done_manage manage
      · exact fun still => same ((congrArg Sense.selection sense).symm.trans still)
      · intro moved
        have selection : (clearLimit b.toNat (setRequests rest s)).sense.selection = _ := congrArg Sense.selection sense
        have relit_base := changed fun still => moved (selection.trans still)
        exact (congrArg (fun x => relit s.lighting { s.lighting with base := x } _) selection).mpr relit_base
      · rw [frame, sense]
        rfl
    case all =>
      obtain ⟨limits, manage, frame⟩ := clearLimits_spec List.nodup_range (setRequests rest s)
      have cleared := limits.trans (clearLimits_all size)
      have noticed : (clearLimits (List.range 8) (setRequests rest s)).manage =
          (setRequests rest (notifyAll ((List.range 8).filterMap fun i =>
            if (s.sense.limits[i]?).map Limit.tripped = some true then some (.limitCleared i) else none) s)).manage := by
        rw [manage, notifyAll_setRequests, ← flatMap_ite_singleton]
        rfl
      have unselected (selected : s.sense.selection = baseSelection s.sense.limits) :
          (clearLimits (List.range 8) (setRequests rest s)).sense.selection = none := by
        rw [clearLimits_selection (s := setRequests rest s) selected, cleared]
        refine baseSelection_eq_none_of fun x mem m _ => .inr ?_
        obtain ⟨y, _, rfl⟩ := List.mem_map.1 mem
        rfl
      have unlit (selected : s.sense.selection = baseSelection s.sense.limits) (none : s.sense.selection = none) :
          (clearLimits (List.range 8) (setRequests rest s)).lighting = s.lighting :=
        clearLimits_lighting_of_none (s := setRequests rest s) selected none _
      have follows : BaseFollows (setRequests rest s) (clearLimits (List.range 8) (setRequests rest s)) :=
        BaseFollows.clearLimits _ (.inl ⟨rfl, rfl⟩)
      rw [row, clearLimitRequest, if_neg length, named, if_pos all]
      generalize clearLimits (List.range 8) (setRequests rest s) = u at frame cleared noticed unselected unlit follows ⊢
      refine ⟨_, rfl, cleared, ?_, congrArg Management.requests noticed, replied_done_manage noticed,
        fun selected => ⟨unselected selected, unlit selected, fun some => ?_⟩⟩
      · rw [frame]
        rfl
      · rcases follows with ⟨still, _⟩ | ⟨base, follows, resolved⟩
        · exact absurd (still.symm.trans (unselected selected)) some
        · refine ⟨base.trans (unselected selected), ?_, fun held c y entry => ?_⟩
          · rw [base.trans (unselected selected)] at follows
            exact follows
          · have setting := resolved held c y entry
            exact ⟨setting, setting ▸ governs_governing⟩
  case changes =>
    rcases change with ⟨trip, rfl⟩ | ⟨stays, clear, rfl⟩
    · refine ⟨tripLimit i v s, limitAsks i x.action, tripLimit_changes entry, ?_, ?_, ?_, ?_⟩
      · intro clip cls mask _ action
        rw [action]
        rfl
      · rintro (no | other)
        · exact nomatch no
        · unfold limitAsks
          split
          · next action => exact absurd action (other _ _ _)
          · rfl
      · exact evaluateLimit_of_trips entry trip true
      · rw [evaluateLimit_of_trips entry trip false, announceAll_eq_foldl]
        rfl
    · refine ⟨clearLimit i s, [], clearLimit_of_tripped entry (tripped_of_clears clear) v, ?_, fun _ => rfl, ?_, ?_⟩
      · exact fun _ _ _ no => nomatch no
      · exact evaluateLimit_of_clears entry stays clear true
      · exact evaluateLimit_of_clears entry stays clear false

end Sys2Proof.Proofs

/-! SCENE, LIGHTING and SENSE-CHANNEL writes: the resolution of every lamp, the changes of one moment, and the effects
of a channel's write on results, blocks and the scan (R84, R87, R88, R159, R160, R166). -/

namespace Sys2Proof.Machine

variable {s : State} {r : Request} {rest : List Request} {first count : Nat}

/-! ### The changes of one moment (R166) -/

/-- `y` is the lamp `x`, on which no transition began at the present moment, after changes of this moment: it has
another setting, begun from what `x` was, or is `x` itself. -/
def SameMoment (x y : Lamp) : Prop :=
  y = x ∨ (y.setting ≠ x.setting ∧ y = beginTransition y.setting (lampStart x))

theorem SameMoment.refl (x : Lamp) : SameMoment x x := .inl rfl

theorem lampStart_of_fresh {x : Lamp} (fresh : x.began = none) :
    lampStart x = { level := x.level, setting := x.setting, transition := x.transition, phase := x.phase } := by
  rw [lampStart, fresh]
  rfl

theorem asBefore_lampStart_of_fresh {x : Lamp} (fresh : x.began = none) : asBefore (lampStart x) = x := by
  rw [lampStart_of_fresh fresh, asBefore, ← fresh]

/-- A setting taken after other changes of the moment leaves the lamp that it alone would leave. -/
theorem SameMoment.takeSetting_eq {x y : Lamp} (h : SameMoment x y) (fresh : x.began = none) (new : Setting) :
    takeSetting new y = takeSetting new x := by
  rcases h with rfl | ⟨differs, begun⟩
  · rfl
  have start : lampStart y = lampStart x := by rw [begun, lampStart_beginTransition]
  have setting : (lampStart x).setting = x.setting := congrArg LampStart.setting (lampStart_of_fresh fresh)
  rcases takeSetting_cases new y with ⟨same, keeps⟩ | ⟨_, back, returns⟩ | ⟨_, away, begins⟩
  · have other : x.setting ≠ new := fun h => differs (same.trans h.symm)
    rw [keeps, begun, same, takeSetting, if_neg other, if_neg (setting ▸ other)]
  · have held : x.setting = new := setting ▸ start ▸ back
    rw [returns, start, asBefore_lampStart_of_fresh fresh, takeSetting, if_pos held]
  · have other : (lampStart x).setting ≠ new := start ▸ away
    rw [begins, start, takeSetting, if_neg (setting ▸ other), if_neg other]

theorem SameMoment.takeSetting {x y : Lamp} (h : SameMoment x y) (fresh : x.began = none) (new : Setting) :
    SameMoment x (takeSetting new y) := by
  rw [h.takeSetting_eq fresh]
  rcases takeSetting_cases new x with ⟨_, keeps⟩ | ⟨_, _, returns⟩ | ⟨differs, _, begins⟩
  · rw [keeps]
    exact .refl x
  · rw [returns, asBefore_lampStart_of_fresh fresh]
    exact .refl x
  · rw [begins]
    exact .inr ⟨fun same => differs (((beginTransition_setting _ _).symm.trans same).symm),
      congrArg (beginTransition · _) (beginTransition_setting _ _).symm⟩

/-- `g` has the lamps `old` after changes of one moment. -/
def LampsMoved (old : List Lamp) (g : Lighting) : Prop :=
  g.lamps.length = old.length ∧ ∀ (c : Nat) (x y : Lamp), old[c]? = some x → g.lamps[c]? = some y → SameMoment x y

theorem LampsMoved.refl (g : Lighting) : LampsMoved g.lamps g :=
  ⟨rfl, fun _ x _ at_x at_y => Option.some.inj (at_x.symm.trans at_y) ▸ SameMoment.refl x⟩

/-- A resolution is a change of the moment. -/
theorem LampsMoved.resolve {old : List Lamp} {g : Lighting} (h : LampsMoved old g) (fresh : ∀ x ∈ old, x.began = none) :
    LampsMoved old (resolve g) := by
  refine ⟨(resolveLamps_length g 0 g.lamps).trans h.1, fun c x y at_x at_y => ?_⟩
  rw [resolve_getElem?] at at_y
  obtain ⟨z, at_z, rfl⟩ := Option.map_eq_some_iff.1 at_y
  exact (h.2 c x z at_x at_z).takeSetting (fresh x (List.mem_of_getElem? at_x)) _

/-- So are the resolutions after any changes of the layers, the scenes and the parameters. -/
theorem LampsMoved.foldl {old : List Lamp} (fresh : ∀ x ∈ old, x.began = none)
    (changes : List (Lighting → Lighting)) {g : Lighting} (h : LampsMoved old g) :
    LampsMoved old
      (changes.foldl (fun h change => Machine.resolve { change h with lamps := h.lamps }) g) := by
  induction changes generalizing g with
  | nil => exact h
  | cons change rest ih =>
    have moved : LampsMoved old { change g with lamps := g.lamps } := h
    exact ih (moved.resolve fresh)

/-- The last resolution of a moment leaves the lamps that it alone would leave. -/
theorem LampsMoved.resolve_lamps {old : List Lamp} {g : Lighting} (h : LampsMoved old g)
    (fresh : ∀ x ∈ old, x.began = none) : (Machine.resolve g).lamps = (Machine.resolve { g with lamps := old }).lamps := by
  refine List.ext_getElem? fun c => ?_
  rw [resolve_getElem?, resolve_getElem?]
  cases at_y : g.lamps[c]? with
  | none =>
    have missing : old[c]? = none := List.getElem?_eq_none_iff.2 (h.1 ▸ List.getElem?_eq_none_iff.1 at_y)
    rw [missing]
    rfl
  | some y =>
    obtain ⟨inside, _⟩ := List.getElem?_eq_some_iff.1 at_y
    have at_x : old[c]? = some (old[c]'(h.1 ▸ inside)) := List.getElem?_eq_getElem _
    rw [at_x]
    exact congrArg some ((h.2 c _ y at_x at_y).takeSetting_eq (fresh _ (List.mem_of_getElem? at_x)) _)

/-! ### The scan chooses (R87) -/

/-- A channel found enabled has a record, which is enabled. -/
theorem record_of_isEnabled {c : SenseChan} (enabled : isEnabled c s = true) :
    ∃ record, s.sense.channels[chanNumber c]? = some record ∧ record.enabled = true := by
  cases entry : s.sense.channels[chanNumber c]? with
  | none => simp [isEnabled, channelRecord, entry] at enabled
  | some record => exact ⟨record, rfl, by rwa [isEnabled_of_record entry] at enabled⟩

theorem chooseNext_of_next {c d : SenseChan} {record : SenseRec} (above : chanNumber c < chanNumber d)
    (entry : s.sense.channels[chanNumber d]? = some record) (enabled : record.enabled = true)
    (lowest : ∀ i x, chanNumber c < i → i < chanNumber d → s.sense.channels[i]? = some x → x.enabled = false) :
    chooseNext c s = setScan (conversionBegun d record) s := by
  have found : channelsInOrder.find? (fun d => decide (chanNumber c < chanNumber d) && isEnabled d s) = some d := by
    refine find?_channels_eq_some_iff.2 ⟨?_, fun e below => ?_⟩
    · rw [isEnabled_of_record entry, enabled, decide_eq_true above]
      rfl
    · by_cases past : chanNumber c < chanNumber e
      · rw [isEnabled_eq_false fun x at_e => lowest _ x past below at_e, Bool.and_false]
      · rw [decide_eq_false past, Bool.false_and]
  rw [chooseNext, found]
  exact beginConversion_of_record entry

section
variable {c : SenseChan} (none : ∀ i x, chanNumber c < i → s.sense.channels[i]? = some x → x.enabled = false)
include none

theorem find?_above_of_none :
    channelsInOrder.find? (fun d => decide (chanNumber c < chanNumber d) && isEnabled d s) = Option.none := by
  refine List.find?_eq_none.2 fun d _ => ?_
  by_cases above : chanNumber c < chanNumber d
  · rw [isEnabled_eq_false fun x at_d => none _ x above at_d, Bool.and_false]
    exact Bool.false_ne_true
  · rw [decide_eq_false above, Bool.false_and]
    exact Bool.false_ne_true

theorem chooseNext_single (single : s.sense.mode = .single) : chooseNext c s = setScan .idle s := by
  rw [chooseNext, find?_above_of_none none, single]

theorem chooseNext_continuous (continuous : s.sense.mode = .continuous) : chooseNext c s = beginLowest s := by
  rw [chooseNext, find?_above_of_none none, continuous]

end

/-- What a choice of the scan leaves: the scan is the one thing that changes, and it waits only with no channel
enabled. -/
def ScanChosen (s t : State) : Prop :=
  t = { s with sense := { s.sense with scan := t.sense.scan } } ∧
    (t.sense.scan = .scanWait → channelsInOrder.find? (fun c => isEnabled c s) = none)

theorem beginConversion_chosen {c : SenseChan} (enabled : isEnabled c s = true) : ScanChosen s (beginConversion c s) := by
  obtain ⟨record, entry, _⟩ := record_of_isEnabled enabled
  rw [beginConversion_of_record entry]
  exact ⟨rfl, fun waits => nomatch waits⟩

theorem beginLowest_chosen (s : State) : ScanChosen s (beginLowest s) := by
  unfold beginLowest
  split
  · next c found => exact beginConversion_chosen (find?_channels_eq_some_iff.1 found).1
  · next missing => exact ⟨rfl, fun _ => missing⟩

theorem chooseNext_chosen (c : SenseChan) (s : State) : ScanChosen s (chooseNext c s) := by
  unfold chooseNext
  split
  · next d found =>
    exact beginConversion_chosen (Bool.and_eq_true_iff.1 (find?_channels_eq_some_iff.1 found).1).2
  · split
    · exact ⟨rfl, fun waits => nomatch waits⟩
    · exact beginLowest_chosen s

/-- The scan's choice is R87's. -/
theorem chooseNext_goesOn (c : SenseChan) (s : State) : scanGoesOn c s (chooseNext c s) := by
  refine ⟨(chooseNext_chosen c s).1, fun d record above entry enabled lowest => ?next, fun none => ?wraps⟩
  case next =>
    rw [chooseNext_of_next above entry enabled lowest]
    rfl
  case wraps =>
    refine ⟨fun single => ?_, fun continuous => ⟨fun d record entry enabled lowest => ?_, fun empty => ?_⟩⟩
    · rw [chooseNext_single none single]
      rfl
    · rw [chooseNext_continuous none continuous]
      exact congrArg (·.sense.scan) (beginLowest_of_lowest entry enabled lowest)
    · rw [chooseNext_continuous none continuous]
      exact congrArg (·.sense.scan) (beginLowest_of_none empty)

/-! ### A write of one channel (R84, R88) -/

/-- A scan that does not wait is not woken (R88). -/
theorem wakeScan_of_not_waiting (h : s.sense.scan ≠ .scanWait) : wakeScan s = s := by
  unfold wakeScan
  split
  · next waits => exact absurd waits h
  · rfl

/-- A scan that has just chosen is not woken: where it waits, no channel is enabled. -/
theorem wakeScan_chooseNext (c : SenseChan) (s : State) : wakeScan (chooseNext c s) = chooseNext c s := by
  obtain ⟨frame, waits⟩ := chooseNext_chosen c s
  by_cases waiting : (chooseNext c s).sense.scan = .scanWait
  · have missing : channelsInOrder.find? (fun d => isEnabled d (chooseNext c s)) = none := by
      rw [frame]
      exact waits waiting
    unfold wakeScan
    rw [waiting, missing]
  · exact wakeScan_of_not_waiting waiting

/-- In SCAN-WAIT, an enabled channel is begun to be converted (R88). -/
theorem wakeScan_of_lowest {c : SenseChan} {record : SenseRec} (waiting : s.sense.scan = .scanWait)
    (entry : s.sense.channels[chanNumber c]? = some record) (enabled : record.enabled = true)
    (lowest : ∀ i x, i < chanNumber c → s.sense.channels[i]? = some x → x.enabled = false) :
    wakeScan s = setScan (conversionBegun c record) s := by
  have found : channelsInOrder.find? (fun c => isEnabled c s) = some c :=
    find?_channels_eq_some_iff.2 ⟨by rw [isEnabled_of_record entry, enabled],
      fun d below => isEnabled_eq_false fun x at_d => lowest _ x below at_d⟩
  unfold wakeScan
  rw [waiting, found]
  exact beginConversion_of_record entry

/-- The state with the record of channel number `n` in force. -/
def putChannel (n : Nat) (record : SenseRec) (s : State) : State :=
  { s with sense := { s.sense with channels := s.sense.channels.set n record } }

theorem writeChannels_one {n : Nat} {old : SenseRec} (new : SenseRec) (entry : s.sense.channels[n]? = some old) :
    writeChannels n [new] s = wakeScan (channelWritten n old new (putChannel n new s)) := by
  obtain ⟨inside, at_n⟩ := List.getElem?_eq_some_iff.1 entry
  rw [writeChannels, List.drop_eq_getElem_cons inside, at_n]
  dsimp only [channelsWritten, writeAt]
  cases s.sense.channels.drop (n + 1) <;> rfl

/-- What a channel's write does while it does not disable the channel being converted: the result record is cleared, or
its block discarded, and the rest stays (R84 steps 2 and 3, R92, R93). -/
theorem channelWritten_of_unabandoned {n : Nat} {old new : SenseRec}
    (free : old.enabled = true → new.enabled = false → ∀ k, s.sense.scan = .converting k → chanNumber k.channel ≠ n) :
    channelWritten n old new s = { s with
      sense := { s.sense with
        results :=
          if old.enabled = false ∧ new.enabled = true then s.sense.results.modify n fun _ => resultCleared
          else if new.enabled = true ∧ settingsDiffer old new = true then
            s.sense.results.modify n fun x => { x with blockCount := 0, blockSum := 0, blockInvalid := false }
          else s.sense.results
        refGateRecord :=
          if n = 2 ∧ old.enabled = false ∧ new.enabled = true then .empty else s.sense.refGateRecord
        inputGateRecord :=
          if n = 2 ∧ old.enabled = false ∧ new.enabled = true then .empty else s.sense.inputGateRecord } } := by
  unfold channelWritten
  cases was : old.enabled <;> cases is : new.enabled
  case false.false => simp
  case false.true =>
    by_cases lref : n = 2 <;> simp [clearResult, setResult, lref]
  case true.false =>
    have kept := free was is
    cases scan : s.sense.scan with
    | converting k => simp [kept k scan]
    | _ => simp
  case true.true =>
    cases differ : settingsDiffer old new <;> simp [dropBlock, setResult]

theorem channelWritten_of_abandoned {n : Nat} {old new : SenseRec} {k : Conversion}
    (scan : s.sense.scan = .converting k) (mine : chanNumber k.channel = n) (was : old.enabled = true)
    (is : new.enabled = false) : channelWritten n old new s = chooseNext k.channel s := by
  rw [channelWritten, was, is, scan]
  exact if_pos mine

end Sys2Proof.Machine

namespace Sys2Proof.Proofs
open Sys2Proof Sys2Proof.Machine

/-- Settles O22: the two decoders, the changes of one moment, and the two writes with their resolution. -/
theorem sceneAndLightingWritesResolve : Obligations.SceneAndLightingWritesResolve := by
  refine ⟨fun b x => decodeScene_iff, fun b x => decodeLighting_iff, fun g changes last fresh ends => ?moment,
    fun s r rest first count head => ⟨fun records write decoded => ?scene, fun write bad => ?sceneBad,
      fun p write decoded => ?lighting, fun write bad => ?lightingBad⟩⟩
  case moment =>
    obtain ⟨size, moved⟩ := LampsMoved.foldl fresh changes (LampsMoved.refl g)
    have last_moved : LampsMoved g.lamps last := ⟨ends ▸ size, fun c x y at_x at_y => moved c x y at_x (ends ▸ at_y)⟩
    exact last_moved.resolve_lamps fresh
  case scene =>
    exact ⟨_, exec_write_taken (form := sceneForm) (fun _ => rfl) head write rfl decoded rfl, rfl,
      resolve_resolvedFrom { s.lighting with scenes := writeAt s.lighting.scenes first records }, rfl⟩
  case sceneBad => exact exec_write_undecoded (form := sceneForm) (fun _ => rfl) head write rfl bad
  case lighting =>
    obtain ⟨rfl, rfl⟩ := count_of_single write
    have one : decodeAll decodeLighting (writtenRecords 5 1 r) = some [p] := by
      rw [writtenRecords_one, decodeAll_singleton, decoded]
      rfl
    exact ⟨_, exec_write_taken (form := lightingForm) (fun _ => rfl) head write rfl one rfl, rfl,
      resolve_resolvedFrom { s.lighting with params := p }, rfl⟩
  case lightingBad =>
    obtain ⟨rfl, rfl⟩ := count_of_single write
    refine exec_write_undecoded (form := lightingForm) (fun _ => rfl) head write rfl ?_
    change decodeAll decodeLighting (writtenRecords 5 1 r) = none
    rw [writtenRecords_one, decodeAll_singleton, bad]
    rfl

/-- Settles O19: the decoder, the row, and for one record the effects by the state of the scan. -/
theorem senseChannelWriteTakesEffect : Obligations.SenseChannelWriteTakesEffect := by
  refine ⟨fun n b x => decodeSense_iff, fun first records xs => decodeSenses_eq_some_iff,
    fun s r rest first count head write => ⟨fun bad => ?bad, fun records decoded => ?taken⟩,
    fun s r rest n old new head write decoded entry => ?one⟩
  case bad => exact exec_write_undecoded (form := senseForm) (fun _ => rfl) head write rfl bad
  case taken =>
    exact (exec_write_taken (form := senseForm) (fun _ => rfl) head write rfl decoded rfl).trans rfl
  case one =>
    have one : decodeSenses n (writtenRecords 12 1 r) = some [new] := by
      rw [writtenRecords_one, decodeSenses, decodeSenses, decoded]
    have row : exec .tableWriteSenseChannel s = .next (replied r (done (wakeScan (channelWritten n old new
        (putChannel n new (setRequests rest s)))))) := by
      rw [← writeChannels_one (s := setRequests rest s) new entry]
      exact exec_write_taken (form := senseForm) (fun _ => rfl) head write rfl one rfl
    have inside : n < 5 := by
      obtain ⟨_, _, _, _, _, _, _, fits⟩ := write
      omega
    have written : (putChannel n new (setRequests rest s)).sense.channels[n]? = some new :=
      List.getElem?_set_self (List.getElem?_eq_some_iff.1 entry).1
    refine ⟨fun still => ?_, fun k scan mine was is => ?_, fun waiting was is others => ?_⟩
    · have calm : s.sense.scan ≠ .scanWait ∧ ∀ k, s.sense.scan ≠ .converting k := by
        rcases still with idle | ⟨left, delay⟩
        · rw [idle]
          exact ⟨nofun, nofun⟩
        · rw [delay]
          exact ⟨nofun, nofun⟩
      have effects := channelWritten_of_unabandoned (s := putChannel n new (setRequests rest s)) (n := n) (old := old)
        (new := new) fun _ _ k scan => absurd scan (calm.2 k)
      have still : (channelWritten n old new (putChannel n new (setRequests rest s))).sense.scan ≠ .scanWait := by
        rw [effects]
        exact calm.1
      rw [row, wakeScan_of_not_waiting still, effects]
      rfl
    · rw [row, channelWritten_of_abandoned (s := putChannel n new (setRequests rest s)) scan mine was is, wakeScan_chooseNext]
      obtain ⟨frame, next, wraps⟩ := chooseNext_goesOn k.channel (putChannel n new (setRequests rest s))
      refine ⟨_, rfl, ?_, next, wraps⟩
      rw [frame]
      rfl
    · obtain ⟨c, rfl⟩ : ∃ c, chanNumber c = n := by
        match n, inside with
        | 0, _ => exact ⟨.odo, rfl⟩
        | 1, _ => exact ⟨.lux, rfl⟩
        | 2, _ => exact ⟨.lref, rfl⟩
        | 3, _ => exact ⟨.nfwd, rfl⟩
        | 4, _ => exact ⟨.naft, rfl⟩
      have lowest : ∀ i x, i < chanNumber c →
          (putChannel (chanNumber c) new (setRequests rest s)).sense.channels[i]? = some x → x.enabled = false :=
        fun i x below at_i => others i x (by omega) ((List.getElem?_set_ne (by omega)).symm.trans at_i)
      have effects := channelWritten_of_unabandoned (s := putChannel (chanNumber c) new (setRequests rest s))
        (n := chanNumber c) (old := old) (new := new) fun on _ => absurd (was.symm.trans on) nofun
      rw [row, wakeScan_of_lowest (c := c) (record := new) (by rw [effects]; exact waiting)
        (by rw [effects]; exact written) is (by rw [effects]; exact lowest), effects]
      exact ⟨_, c, rfl, rfl, rfl, rfl, rfl⟩

end Sys2Proof.Proofs

/-! Table records and their bytes: each field of a record is encoded to the bytes it was decoded from (R182). -/

namespace Sys2Proof.Machine

variable {b : List Byte} {i : Nat}

/-! ### The bytes of one field -/

/-- `n` bytes of `b` from byte `i` on. -/
def bytesFrom (b : List Byte) (i n : Nat) : List Byte := (b.drop i).take n

theorem bytesFrom_append {j n m : Nat} (follows : j = i + n) :
    bytesFrom b i n ++ bytesFrom b j m = bytesFrom b i (n + m) := by
  rw [follows, bytesFrom, bytesFrom, bytesFrom, List.take_add, List.drop_drop]

theorem bytesFrom_all {n : Nat} (size : b.length = n) : bytesFrom b 0 n = b := by
  rw [bytesFrom, List.drop_zero, ← size, List.take_length]

theorem bytesFrom_one (inside : i < b.length) : bytesFrom b i 1 = [b.getD i 0] := by
  rw [bytesFrom, List.drop_eq_getElem_cons inside, List.take_succ_cons, List.take_zero, List.getD_eq_getElem _ _ inside]

theorem bytesFrom_two (inside : i + 1 < b.length) : bytesFrom b i 2 = [b.getD i 0, b.getD (i + 1) 0] := by
  rw [← bytesFrom_append (n := 1) (m := 1) rfl, bytesFrom_one (by omega), bytesFrom_one inside]
  rfl

theorem byteAt_lt (b : List Byte) (i : Nat) : byteAt b i < 256 := (b.getD i 0).isLt

theorem ofNat_byteAt (b : List Byte) (i : Nat) : BitVec.ofNat 8 (byteAt b i) = b.getD i 0 :=
  BitVec.eq_of_toNat_eq (Nat.mod_eq_of_lt (byteAt_lt b i))

theorem natBytes_byteAt (inside : i < b.length) : natBytes 1 (byteAt b i) = bytesFrom b i 1 := by
  rw [natBytes_one, ofNat_byteAt, bytesFrom_one inside]

theorem ofNat_high_low (high : Nat) (low : Byte) : BitVec.ofNat 8 (high * 256 + low.toNat) = low := by
  refine BitVec.eq_of_toNat_eq ?_
  have := low.isLt
  rw [BitVec.toNat_ofNat]
  omega

theorem natBytes_wordAt (inside : i + 1 < b.length) : natBytes 2 (wordAt b i) = bytesFrom b i 2 := by
  have high : wordAt b i / 256 = byteAt b i := by
    have := byteAt_lt b (i + 1)
    rw [wordAt]
    omega
  have low : BitVec.ofNat 8 (wordAt b i) = b.getD (i + 1) 0 := ofNat_high_low _ _
  rw [natBytes, natBytes_one, high, ofNat_byteAt, low, bytesFrom_two inside]
  rfl

theorem intByte_toInt (inside : i < b.length) : intByte (b.getD i 0).toInt = bytesFrom b i 1 := by
  rw [intByte, BitVec.ofInt_toInt, bytesFrom_one inside]

theorem flagCode_eq (inSet : byteAt b i ≤ 1) : flagCode (decide (byteAt b i = 0)) = byteAt b i := by
  by_cases yes : byteAt b i = 0
  · rw [decide_eq_true yes, yes]
    rfl
  · rw [decide_eq_false yes, flagCode, if_neg Bool.false_ne_true]
    omega

theorem optCode_eq : optCode (if byteAt b i = 255 then none else some (byteAt b i)) = byteAt b i := by
  split
  · next none => rw [none]; rfl
  · rfl

theorem noiseSourceCode_eq (inSet : byteAt b i ≤ 1 ∨ byteAt b i = 255) :
    NoiseSource.code (if byteAt b i = 0 then some .nfwd else if byteAt b i = 1 then some .naft else none) =
      byteAt b i := by
  rcases inSet with low | none
  · interval_cases byteAt b i <;> rfl
  · rw [none]
    rfl

/-- The code of a field with two members, coded 0 and 1. -/
theorem twoCodes_code {α : Type} {code : α → Nat} {p q : α} (zero : code p = 0) (one : code q = 1)
    (inSet : byteAt b i ≤ 1) : code (if byteAt b i = 0 then p else q) = byteAt b i := by
  split
  · next first => rw [zero, first]
  · rw [one]
    omega

/-! ### The records read back in the layout they are written in -/

theorem encodeLang_of_fields {x : LangEntry} (size : b.length = 6) (fields : langFields b x) : encodeLang x = b := by
  obtain ⟨enabled, _, _, _, live, default, rfl⟩ := fields
  rw [encodeLang, flagCode_eq enabled, flagCode_eq live, flagCode_eq default]
  simp (disch := omega) only [natBytes_byteAt, bytesFrom_append]
  exact bytesFrom_all size

theorem encodeMix_of_fields {x : MixParams} (size : b.length = 5) (fields : mixFields b x) : encodeMix x = b := by
  obtain ⟨_, _, _, _, _, rfl⟩ := fields
  rw [encodeMix]
  simp (disch := omega) only [natBytes_byteAt, bytesFrom_append]
  exact bytesFrom_all size

theorem encodeBand_of_fields {x : Band} (size : b.length = 3) (fields : bandFields b x) : encodeBand x = b := by
  obtain ⟨_, rfl⟩ := fields
  rw [encodeBand]
  simp (disch := omega) only [natBytes_byteAt, natBytes_wordAt, bytesFrom_append]
  exact bytesFrom_all size

theorem intByte_of_fields {x : Int} (size : b.length = 1) (fields : curveFields b x) : intByte x = b := by
  obtain ⟨_, _, rfl⟩ := fields
  rw [intByte_toInt (by omega)]
  exact bytesFrom_all size

theorem encodeClass_of_fields {x : ClassRec} (size : b.length = 6) (fields : classFields b x) : encodeClass x = b := by
  obtain ⟨_, _, _, _, _, mute, eq⟩ := fields
  rw [eq, encodeClass, flagCode_eq mute, optCode_eq]
  simp (disch := omega) only [natBytes_byteAt, intByte_toInt, bytesFrom_append]
  exact bytesFrom_all size

theorem encodeSense_of_fields {x : SenseRec} (size : b.length = 12) (fields : senseFields 0 b x) : encodeSense x = b := by
  obtain ⟨enabled, mode, _, _, _, _, _, _, rfl⟩ := fields
  rw [encodeSense, flagCode_eq enabled, twoCodes_code (code := GateMode.code) rfl rfl mode, if_pos rfl]
  simp (disch := omega) only [natBytes_byteAt, natBytes_wordAt, bytesFrom_append]
  exact bytesFrom_all size

theorem encodeLighting_of_fields {x : LightParams} (size : b.length = 5) (fields : lightingFields b x) :
    encodeLighting x = b := by
  obtain ⟨_, _, _, _, rfl⟩ := fields
  rw [encodeLighting, optCode_eq]
  simp (disch := omega) only [natBytes_byteAt, natBytes_wordAt, bytesFrom_append]
  exact bytesFrom_all size

/-- Records of `n` bytes each, one after another from byte `i` on. -/
theorem flatMap_eq_bytesFrom {α : Type} {encode : α → List Byte} {n : Nat} {xs : List α}
    (each : ∀ k x, xs[k]? = some x → encode x = bytesFrom b (i + n * k) n) :
    xs.flatMap encode = bytesFrom b i (n * xs.length) := by
  induction xs generalizing i with
  | nil => rfl
  | cons x xs ih =>
    rw [List.flatMap_cons, each 0 x rfl, ih (i := i + n) fun k y at_k => ?_, Nat.mul_zero, Nat.add_zero,
      bytesFrom_append rfl, List.length_cons, Nat.mul_succ, Nat.add_comm n]
    rw [each (k + 1) y at_k, Nat.mul_succ, Nat.add_assoc, Nat.add_comm n]

theorem encodeTone_of_fields {x : Tone} (inside : i + 4 ≤ b.length) (fields : toneFields b i x) :
    encodeTone x = bytesFrom b i 4 := by
  obtain ⟨_, _, rfl⟩ := fields
  rw [encodeTone]
  simp (disch := omega) only [natBytes_wordAt, bytesFrom_append]

theorem encodeChime_of_fields {x : Chime} (size : b.length = 17) (fields : chimeFields b x) : encodeChime x = b := by
  obtain ⟨_, count, four, tones⟩ := fields
  have each : x.tones.flatMap encodeTone = bytesFrom b 1 (4 * x.tones.length) :=
    flatMap_eq_bytesFrom fun k tone at_k => by
      have below := (List.getElem?_eq_some_iff.1 at_k).1
      exact encodeTone_of_fields (by omega) (tones k tone at_k)
  rw [encodeChime, count, natBytes_byteAt (by omega), each, four, bytesFrom_append rfl]
  exact bytesFrom_all size

theorem encodePart_of_fields {x : ScenePart} (inside : i + 8 ≤ b.length) (fields : partFields b i x) :
    encodePart x = bytesFrom b i 8 := by
  obtain ⟨claim, _, pattern, _, _, rfl⟩ := fields
  rw [encodePart, flagCode_eq claim, twoCodes_code (code := Pattern.code) rfl rfl pattern]
  simp (disch := omega) only [natBytes_byteAt, natBytes_wordAt, bytesFrom_append]

theorem encodeScene_of_fields {x : List ScenePart} (size : b.length = 64) (fields : sceneFields b x) :
    encodeScene x = b := by
  obtain ⟨eight, parts⟩ := fields
  have each : x.flatMap encodePart = bytesFrom b 0 (8 * x.length) :=
    flatMap_eq_bytesFrom fun k part at_k => by
      have below := (List.getElem?_eq_some_iff.1 at_k).1
      rw [Nat.zero_add]
      exact encodePart_of_fields (by omega) (parts k part at_k)
  rw [encodeScene, each, eight]
  exact bytesFrom_all size

/-! ### The records read back with more fields than are written -/

theorem slice_one {α : Type} {l : List α} {n : Nat} {x : α} (entry : l[n]? = some x) : slice n 1 l = [x] := by
  obtain ⟨inside, at_n⟩ := List.getElem?_eq_some_iff.1 entry
  rw [slice, List.drop_eq_getElem_cons inside, at_n]
  rfl

theorem encodeSeat_take (w : SeatWrite) (x : Seat) (size : b.length = 3) (fields : seatFields b w) :
    (encodeSeat { x with zone := w.zone, language := w.language, volume := w.volume }).take 3 = b := by
  obtain ⟨_, _, rfl⟩ := fields
  have written : natBytes 1 (byteAt b 0) ++ natBytes 1 (byteAt b 1) ++ natBytes 1 (byteAt b 2) = b := by
    simp (disch := omega) only [natBytes_byteAt, bytesFrom_append]
    exact bytesFrom_all size
  rw [encodeSeat, optCode_eq, written]
  simp only [List.append_assoc, ← size, List.take_left]

theorem encodeZone_take_drop (w : ZoneWrite) (x : Zone) (size : b.length = 2) (fields : zoneFields b w) :
    (encodeZone { x with source := w.source, clipNotice := w.clipNotice }).take 1 ++
      (encodeZone { x with source := w.source, clipNotice := w.clipNotice }).drop 6 = b := by
  obtain ⟨source, notice, rfl⟩ := fields
  have written : natBytes 1 (byteAt b 0) ++ natBytes 1 (byteAt b 1) = b := by
    simp (disch := omega) only [natBytes_byteAt, bytesFrom_append]
    exact bytesFrom_all size
  rw [encodeZone, noiseSourceCode_eq source, flagCode_eq notice]
  exact written

theorem encodeSeatLine_of_fields (w : LineWrite) (x : Line) (size : b.length = 2) (fields : lineFields b w) :
    encodeSeatLine { x with mode := w.mode, sleepEnable := w.sleepEnable } = b := by
  obtain ⟨mode, sleep, rfl⟩ := fields
  rw [encodeSeatLine, flagCode_eq sleep, twoCodes_code (code := CheckMode.code) rfl rfl mode]
  simp (disch := omega) only [natBytes_byteAt, bytesFrom_append]
  exact bytesFrom_all size

/-! ### LIMIT and CUE -/

theorem wordAt_lt (b : List Byte) (i : Nat) : wordAt b i < 65536 := by
  have := byteAt_lt b i
  have := byteAt_lt b (i + 1)
  rw [wordAt]
  omega

theorem threeAt_lt (b : List Byte) (i : Nat) : threeAt b i < 16777216 := by
  have := wordAt_lt b i
  have := byteAt_lt b (i + 2)
  rw [threeAt]
  omega

theorem flag_of_code (x : Bool) : flagCode x % 256 ≤ 1 ∧ x = decide (flagCode x % 256 = 0) := by cases x <;> decide

theorem limitSource_of_code (x : LimitSource) : x.code % 256 ≤ 1 ∧ x = if x.code % 256 = 0 then .raw else .avg := by
  cases x <;> decide

theorem limitDirection_of_code (x : LimitDirection) :
    x.code % 256 ≤ 1 ∧ x = if x.code % 256 = 0 then .over else .under := by
  cases x <;> decide

theorem limitMode_of_code (x : LimitMode) :
    x.code % 256 ≤ 1 ∧ x = if x.code % 256 = 0 then .latched else .transparent := by
  cases x <;> decide

/-! A number is given back by the values of its bytes, high byte first. -/

theorem byte_read {n : Nat} (fits : n < 256) : n % 256 = n := Nat.mod_eq_of_lt fits

theorem word_read {n : Nat} (fits : n < 65536) : n / 256 % 256 * 256 + n % 256 = n := by omega

theorem three_read {n : Nat} (fits : n < 16777216) :
    (n / 256 / 256 % 256 * 256 + n / 256 % 256) * 256 + n % 256 = n := by omega

theorem mask_read (mask : ZoneMask) : BitVec.ofNat 4 (mask.toNat % 256) = mask := by
  refine BitVec.eq_of_toNat_eq ?_
  have := mask.isLt
  rw [BitVec.toNat_ofNat]
  omega

/-- The bytes of a limit, its action's standing from byte 9 on. -/
theorem encodeLimit_eq (x : Limit) : encodeLimit x =
    [BitVec.ofNat 8 (flagCode x.inUse), BitVec.ofNat 8 x.channel, BitVec.ofNat 8 x.source.code,
      BitVec.ofNat 8 x.direction.code, BitVec.ofNat 8 (x.threshold / 256), BitVec.ofNat 8 x.threshold,
      BitVec.ofNat 8 (x.hysteresis / 256), BitVec.ofNat 8 x.hysteresis, BitVec.ofNat 8 x.mode.code] ++
      (encodeAction x.action ++ natBytes 1 (if x.tripped then 1 else 0)) := by
  simp [encodeLimit, natBytes]

/-- An action that is read from a record is read again from the bytes that encode it. -/
theorem actionFields_encode {x : LimitAction} (fields : actionFields b x) (before after : List Byte)
    (nine : before.length = 9) : actionFields (before ++ (encodeAction x ++ after)) x := by
  generalize made : before ++ (encodeAction x ++ after) = bytes
  have at_byte (k : Nat) : byteAt bytes (9 + k) = byteAt (encodeAction x ++ after) k := by
    rw [← made, byteAt, byteAt, List.getD_eq_getElem?_getD, List.getElem?_append_right (by omega), nine,
      Nat.add_sub_cancel_left, List.getD_eq_getElem?_getD]
  have at_word : wordAt bytes (9 + 2) = wordAt (encodeAction x ++ after) 2 :=
    congrArg₂ (fun high low => high * 256 + low) (at_byte 2) (at_byte 3)
  rcases fields with ⟨_, rfl⟩ | ⟨_, scene, rfl⟩ | ⟨_, clip, cls, _, rfl⟩
  · exact .inl ⟨at_byte 0, rfl⟩
  · have read : byteAt bytes (9 + 1) = byteAt b 10 := (at_byte 1).trans (byte_read (byteAt_lt b 10))
    exact .inr (.inl ⟨at_byte 0, read.le.trans scene, congrArg _ read.symm⟩)
  · have read : wordAt bytes (9 + 2) = wordAt b 11 := at_word.trans (word_read (wordAt_lt b 11))
    have cls_read : cls.code = byteAt bytes (9 + 4) := ((at_byte 4).trans (by cases cls <;> rfl)).symm
    have mask_read : BitVec.ofNat 4 (byteAt bytes (9 + 5)) = BitVec.ofNat 4 (byteAt b 14) := by
      rw [at_byte 5]
      exact mask_read _
    exact .inr (.inr ⟨at_byte 0, read.le.trans clip, cls, cls_read, by rw [← read, ← mask_read]⟩)

/-- A limit that is read from a record is read again from the bytes that encode it. -/
theorem limitFields_encode {x : Limit} (fields : limitFields b x) : limitFields (encodeLimit x) x := by
  obtain ⟨_, channel, _, _, _, action, eq⟩ := fields
  have tripped : x.tripped = false := by rw [eq]
  have channel : x.channel ≤ 4 := by rwa [eq]
  have threshold : x.threshold < 65536 := by
    rw [eq]
    exact wordAt_lt b 4
  have hysteresis : x.hysteresis < 65536 := by
    rw [eq]
    exact wordAt_lt b 6
  rw [encodeLimit_eq]
  refine ⟨(flag_of_code x.inUse).1, (Nat.mod_le _ _).trans channel, (limitSource_of_code x.source).1,
    (limitDirection_of_code x.direction).1, (limitMode_of_code x.mode).1, actionFields_encode action _ _ rfl, ?_⟩
  change x = { inUse := decide (flagCode x.inUse % 256 = 0), channel := x.channel % 256
               source := if x.source.code % 256 = 0 then .raw else .avg
               direction := if x.direction.code % 256 = 0 then .over else .under
               threshold := x.threshold / 256 % 256 * 256 + x.threshold % 256
               hysteresis := x.hysteresis / 256 % 256 * 256 + x.hysteresis % 256
               mode := if x.mode.code % 256 = 0 then .latched else .transparent, action := x.action, tripped := false }
  rw [← (flag_of_code x.inUse).2, ← (limitSource_of_code x.source).2, ← (limitDirection_of_code x.direction).2,
    ← (limitMode_of_code x.mode).2, byte_read (by omega),
    word_read threshold, word_read hysteresis, ← tripped]

/-- The bytes of a cue. -/
theorem encodeCue_eq (c : Cue) : encodeCue c =
    [BitVec.ofNat 8 (flagCode c.inUse), BitVec.ofNat 8 (c.trigger / 256 / 256), BitVec.ofNat 8 (c.trigger / 256),
      BitVec.ofNat 8 c.trigger, BitVec.ofNat 8 (c.window / 256), BitVec.ofNat 8 c.window, BitVec.ofNat 8 c.kind,
      BitVec.ofNat 8 c.conditionChannel, BitVec.ofNat 8 c.predicate, BitVec.ofNat 8 (c.threshold / 256),
      BitVec.ofNat 8 c.threshold, BitVec.ofNat 8 (c.segment / 256), BitVec.ofNat 8 c.segment,
      BitVec.ofNat 8 (c.clip / 256), BitVec.ofNat 8 c.clip, BitVec.ofNat 8 c.mask.toNat, BitVec.ofNat 8 c.scene,
      BitVec.ofNat 8 c.stop, BitVec.ofNat 8 c.repeatable, BitVec.ofNat 8 c.preempt, BitVec.ofNat 8 c.state.code] := by
  simp only [encodeCue, natBytes, List.nil_append, List.cons_append]

/-- A cue's bytes read back give the cue, where it is one as read from a record. -/
theorem cueOfBytes_encodeCue (inUse : Bool) (b : List Byte) :
    cueOfBytes inUse (encodeCue (cueOfBytes inUse b)) = cueOfBytes inUse b := by
  have byte (i : Nat) := byte_read (byteAt_lt b i)
  have word (i : Nat) := word_read (wordAt_lt b i)
  generalize is : cueOfBytes inUse b = c
  rw [encodeCue_eq]
  change ({ inUse := inUse, trigger := (c.trigger / 256 / 256 % 256 * 256 + c.trigger / 256 % 256) * 256 + c.trigger % 256
            window := c.window / 256 % 256 * 256 + c.window % 256, kind := c.kind % 256
            conditionChannel := c.conditionChannel % 256, predicate := c.predicate % 256
            threshold := c.threshold / 256 % 256 * 256 + c.threshold % 256
            segment := c.segment / 256 % 256 * 256 + c.segment % 256
            clip := c.clip / 256 % 256 * 256 + c.clip % 256, mask := BitVec.ofNat 4 (c.mask.toNat % 256)
            scene := c.scene % 256, stop := c.stop % 256, repeatable := c.repeatable % 256, preempt := c.preempt % 256
            state := .armed } : Cue) = c
  rw [← is]
  simp only [cueOfBytes, byte, word, three_read (threeAt_lt b 1), mask_read]

theorem cueFields_encode {c : Cue} (fields : cueFields b c) : cueFields (encodeCue c) c := by
  obtain ⟨flag, judged, eq⟩ := fields
  have again : cueOfBytes c.inUse (encodeCue c) = c := by
    rw [eq]
    exact cueOfBytes_encodeCue (decide (byteAt b 0 = 0)) b
  have inUse : c.inUse = decide (byteAt b 0 = 0) := by rw [eq]
  have flag_read : byteAt (encodeCue c) 0 = byteAt b 0 := by
    change flagCode c.inUse % 256 = byteAt b 0
    rw [inUse, flagCode_eq flag, Nat.mod_eq_of_lt (byteAt_lt b 0)]
  refine ⟨flag_read.le.trans flag, fun used => judged (flag_read.symm.trans used), ?_⟩
  rw [flag_read, ← inUse]
  exact again.symm

end Sys2Proof.Machine

namespace Sys2Proof.Proofs
open Sys2Proof Sys2Proof.Machine

/-- Settles O55: each record that a decoder takes is the bytes of its fields. -/
theorem tableRecordsRoundTrip : Obligations.TableRecordsRoundTrip := by
  refine fun b => ⟨fun x size taken => encodeLang_of_fields size (decodeLang_iff.1 taken),
    fun x size taken => encodeMix_of_fields size (decodeMix_iff.1 taken),
    fun x size taken => encodeBand_of_fields size (decodeBand_iff.1 taken),
    fun x size taken => intByte_of_fields size (decodeCurve_iff.1 taken),
    fun x size taken => encodeClass_of_fields size (decodeClass_iff.1 taken),
    fun x size taken => encodeChime_of_fields size (decodeChime_iff.1 taken),
    fun x size taken => encodeSense_of_fields size (decodeSense_iff.1 taken),
    fun x size taken => encodeScene_of_fields size (decodeScene_iff.1 taken),
    fun x size taken => encodeLighting_of_fields size (decodeLighting_iff.1 taken),
    fun s n w x size taken entry => ?seat, fun s n w x size taken entry => ?zone,
    fun s n w x size taken entry => ?line,
    fun x size taken => decodeLimit_iff.2 (limitFields_encode (decodeLimit_iff.1 taken)),
    fun x size taken => decodeCue_iff.2 (cueFields_encode (decodeCue_iff.1 taken))⟩
  case seat =>
    rw [recordsOf, slice_one entry, List.flatMap_singleton]
    exact encodeSeat_take w x size (decodeSeat_iff.1 taken)
  case zone =>
    rw [recordsOf, slice_one entry, List.flatMap_singleton]
    exact encodeZone_take_drop w x size (decodeZone_iff.1 taken)
  case line =>
    rw [recordsOf, slice_one entry, List.flatMap_singleton]
    exact encodeSeatLine_of_fields w x size (decodeSeatLine_iff.1 taken)

end Sys2Proof.Proofs

/-! What the management unit returns, byte by byte: the records and views of a TABLE-READ and the REPORT frame (R58,
R93, R102, R134, R171, R174, R182, R184, R185). -/

namespace Sys2Proof.Machine

variable {s : State}

/-! ### The bytes of the coded fields (R182, R184) -/

theorem natBytes_toNat (x : BitVec n) : natBytes 1 x.toNat = [x.zeroExtend 8] :=
  congrArg (fun y => [y]) (BitVec.ofNat_toNat 8 x)

theorem natBytes_byte (x : Byte) : natBytes 1 x.toNat = [x] :=
  congrArg (fun y => [y]) (BitVec.ofNat_toNat 8 x |>.trans (BitVec.setWidth_eq x))

theorem natBytes_modeCode (x : CheckMode) : natBytes 1 x.code = [modeByte x] := by cases x <;> rfl
theorem natBytes_cueStateCode (x : CueState) : natBytes 1 x.code = [cueStateByte x] := by cases x <;> rfl
theorem natBytes_boxStateCode (x : BoxState) : natBytes 1 x.code = [boxStateByte x] := by cases x <;> rfl
theorem natBytes_scanCode (x : Scan) : natBytes 1 x.code = [scanByte x] := by cases x <;> rfl
theorem natBytes_entryStateCode (x : EntryState) : natBytes 1 x.code = [entryStateByte x] := by cases x <;> rfl
theorem natBytes_convertingCode (x : Scan) : natBytes 1 (convertingCode x) = [convertingByte x] := by cases x <;> rfl
theorem natBytes_scanModeCode (x : ScanMode) : natBytes 1 x.code = [if x = .single then 0 else 1] := by cases x <;> rfl
theorem natBytes_lineStateCode (x : LineState) : natBytes 1 x.code = [if x = .awake then 0 else 1] := by cases x <;> rfl
theorem natBytes_linkCode (x : LinkState) : natBytes 1 x.viewCode = [if x = .up then 0 else 1] := by cases x <;> rfl
theorem natBytes_routeCode (x : RouteState) : natBytes 1 x.code = [routeByte x] := by cases x <;> rfl
theorem natBytes_liveCode (x : LiveState) : natBytes 1 x.code = [liveByte x] := by cases x <;> rfl
theorem encodeOrigin_eq (x : Origin) : encodeOrigin x = originBytes x := by cases x <;> rfl

theorem natBytes_pathCode (x : Option Entry) :
    natBytes 1 (pathCode x) = [(x.map fun e => entryStateByte e.state).getD 0] := by
  cases x with
  | none => rfl
  | some e => exact natBytes_entryStateCode e.state

theorem natBytes_sourceCode (x : Option NoiseSource) :
    natBytes 1 (NoiseSource.code x) = [orNone (x.map fun y => sourceChannel y - 3)] := by
  cases x with
  | none => rfl
  | some y => cases y <;> rfl

/-! ### The records (R171) -/

/-- The fields of a seat, those that are not written included (R21, R182). -/
theorem encodeSeat_eq (x : Seat) : encodeSeat x = [BitVec.ofNat 8 x.zone, orNone x.language, BitVec.ofNat 8 x.volume,
    yesNo x.jack, yesNo x.fitted, x.lastLanguage.zeroExtend 8, x.lastUp.zeroExtend 8, x.lastDown.zeroExtend 8] := by
  rw [encodeSeat, natBytes_optCode, natBytes_flagCode, natBytes_flagCode, natBytes_toNat, natBytes_toNat, natBytes_toNat]
  rfl

theorem encodeZone_eq (x : Zone) : encodeZone x =
    [orNone (x.source.map fun y => sourceChannel y - 3), BitVec.ofNat 8 x.offset, BitVec.ofNat 8 x.target,
      BitVec.ofNat 8 x.slew, BitVec.ofInt 8 x.duck, yesNo x.clip, yesNo x.clipNotice] := by
  rw [encodeZone, natBytes_sourceCode, natBytes_flagCode, natBytes_flagCode]
  rfl

theorem encodeSeatLine_eq (x : Line) : encodeSeatLine x = [modeByte x.mode, yesNo x.sleepEnable] := by
  rw [encodeSeatLine, natBytes_modeCode, natBytes_flagCode]
  rfl

/-- The last byte of a limit's record is its state. -/
theorem encodeLimit_drop (x : Limit) : (encodeLimit x).drop 15 = [if x.tripped then 1 else 0] := by
  rw [encodeLimit_eq]
  cases x.action <;> cases x.tripped <;> rfl

/-- The last byte of a cue's record is its state. -/
theorem encodeCue_drop (c : Cue) : (encodeCue c).drop 20 = [cueStateByte c.state] := by
  rw [encodeCue_eq]
  exact natBytes_cueStateCode c.state

/-- A table of several entries is read entry by entry. -/
theorem recordsOf_slices (s : State) : ∀ table ∈ [0, 1, 2, 3, 5, 6, 7, 8, 9, 10, 11, 12, 17],
    ∃ (α : Type) (l : List α) (encode : α → List Byte),
      ∀ first count, recordsOf s table first count = (slice first count l).flatMap encode := by
  simp only [List.forall_mem_cons, List.not_mem_nil, false_imp_iff, implies_true, and_true]
  exact ⟨⟨_, _, _, fun _ _ => rfl⟩, ⟨_, _, _, fun _ _ => rfl⟩, ⟨_, _, _, fun _ _ => rfl⟩, ⟨_, _, _, fun _ _ => rfl⟩,
    ⟨_, _, _, fun _ _ => rfl⟩, ⟨_, _, _, fun _ _ => rfl⟩, ⟨_, _, _, fun _ _ => rfl⟩, ⟨_, _, _, fun _ _ => rfl⟩,
    ⟨_, _, _, fun _ _ => rfl⟩, ⟨_, _, _, fun _ _ => rfl⟩, ⟨_, _, _, fun _ _ => rfl⟩, ⟨_, _, _, fun _ _ => rfl⟩,
    ⟨_, _, _, fun _ _ => rfl⟩⟩

theorem slice_add {α : Type} (first a b : Nat) (l : List α) :
    slice first (a + b) l = slice first a l ++ slice (first + a) b l := by
  rw [slice, slice, slice, List.take_add, List.drop_drop]

theorem flatMap_slice_one {α : Type} {l : List α} {n : Nat} {x : α} (encode : α → List Byte) (entry : l[n]? = some x) :
    (slice n 1 l).flatMap encode = encode x := by
  rw [slice_one entry, List.flatMap_singleton]

/-- A write held for the next frame start is left out of what is read. -/
theorem recordsOf_held (s : State) (heldSeats : List HeldSeatWrite) (heldMix : List HeldMixWrite)
    (heldLines : List (Nat × List LineWrite)) (table first count : Nat) :
    recordsOf { s with seats := { s.seats with held := heldSeats }, mix := { s.mix with held := heldMix },
                       lines := { s.lines with held := heldLines } } table first count =
      recordsOf s table first count := rfl

section
variable {r : Request} (length : r.params.length = 3)
include length

theorem readTable_of_unknown (unknown : tableEntries (byteAt r.params 0) = none) :
    readTable r s = refuse .badTable s := by
  rw [readTable, if_neg (not_not.2 length), paramAt, unknown]

theorem readTable_of_range {entries : Nat} (known : tableEntries (byteAt r.params 0) = some entries)
    (bad : byteAt r.params 2 = 0 ∨ 16 < byteAt r.params 2 ∨ entries < byteAt r.params 1 + byteAt r.params 2) :
    readTable r s = refuse .badIndex s := by
  rw [readTable, if_neg (not_not.2 length), paramAt, known]
  exact if_pos bad

theorem readTable_taken {entries : Nat} (known : tableEntries (byteAt r.params 0) = some entries)
    (good : ¬ (byteAt r.params 2 = 0 ∨ 16 < byteAt r.params 2 ∨ entries < byteAt r.params 1 + byteAt r.params 2)) :
    readTable r s = {
      state := s, code := .done
      data := r.params ++ recordsOf s (byteAt r.params 0) (byteAt r.params 1) (byteAt r.params 2) } := by
  rw [readTable, if_neg (not_not.2 length), paramAt, known]
  exact if_neg good

end

theorem tableEntries_eq_none {table : Nat} (outside : 17 < table) : tableEntries table = none := by
  match table, outside with
  | n + 18, _ => rfl

/-! ### The views (R58, R93, R102, R134) -/

theorem encodeEntry_eq (all : List Entry) (onPath : Bool) (e : Entry) :
    encodeEntry all onPath e = entryBytes all onPath e := by
  have chime : natBytes 1 (if onPath then optCode e.chime else 0) = [if onPath then orNone e.chime else 0] := by
    cases onPath
    · rfl
    · exact natBytes_optCode e.chime
  have seconds : natBytes 1 (if onPath then e.maxSeconds else 0) =
      [if onPath then BitVec.ofNat 8 e.maxSeconds else 0] := by
    cases onPath <;> rfl
  have place : natBytes 1 (arrivalPlace all e) =
      [BitVec.ofNat 8 (all.countP fun x => decide (x.arrival < e.arrival))] := by
    rw [arrivalPlace, ← List.countP_eq_length_filter]
    rfl
  rw [encodeEntry, entryBytes, chime, seconds, place, natBytes_optCode, natBytes_entryStateCode, natBytes_toNat,
    encodeOrigin_eq]
  simp only [natBytes_one, List.append_assoc, List.cons_append, List.nil_append]

theorem msUp_eq (n : Nat) : msUp n = (n + 32767) / 32768 := congrArg (· / 32768) (Nat.add_sub_assoc (by decide) n)

/-- The ANNOUNCE-QUEUE view (R134). -/
theorem announceQueueView_eq (s : State) : announceQueueView s = queueViewBytes s := by
  have encode (all : List Entry) (onPath : Bool) : encodeEntry all onPath = entryBytes all onPath :=
    funext (encodeEntry_eq all onPath)
  rw [announceQueueView, queueViewBytes, natBytes_pathCode, announceTimeLeft, msUp_eq, encode, encode]
  cases s.announce.startTimer <;>
    simp only [natBytes_one, List.append_assoc, List.cons_append, List.nil_append] <;> rfl

/-- The OPEN-CUES view (R102). -/
theorem openCuesView_eq (s : State) : openCuesView s = openCueViewBytes s := by
  rw [openCuesView, openCueViewBytes]
  refine congrArg _ (congrArg (s.route.openCues.flatMap ·) (funext fun i => ?_))
  dsimp only
  rw [natBytes_cueStateCode]
  rfl

theorem encodeReference_eq (a b : Nat) (x : RefRecord) : encodeReference a b x = referenceBytes a b x := by
  have zeros (n : Nat) : natBytes n 0 = List.replicate n 0 := by
    induction n with
    | zero => rfl
    | succ n ih => rw [natBytes, Nat.zero_div, ih, List.replicate_succ']; rfl
  cases x with
  | counts x y => rfl
  | empty | zero =>
    rw [encodeReference, zeros a, zeros b, List.append_assoc, List.replicate_append_replicate]
    rfl

theorem encodeResult_eq (r : ResultRec) : encodeResult r =
    [yesNo r.present] ++ natBytes 2 r.value ++ [yesNo r.valid, yesNo r.timedOut, yesNo r.math] ++
      natBytes 4 (r.age / 32768) ++ [yesNo r.avgPresent] ++ natBytes 2 r.avgValue ++
      [yesNo r.avgValid, BitVec.ofNat 8 r.blockCount] ++ natBytes 3 r.blockSum := by
  rw [encodeResult]
  simp only [natBytes_flagCode]
  simp only [natBytes_one, List.append_assoc, List.cons_append, List.nil_append, Config.tickRate]

/-- The SENSE-RESULTS view (R93). -/
theorem senseResultsView_eq (s : State) : senseResultsView s = resultViewBytes s := by
  have encode : encodeResult = _ := funext encodeResult_eq
  rw [senseResultsView, resultViewBytes, encode, natBytes_scanCode, natBytes_scanModeCode, natBytes_convertingCode,
    encodeReference_eq, encodeReference_eq]
  simp only [List.append_assoc, List.cons_append, List.nil_append]

/-- The BOX-STATE view of a line (R58). -/
theorem boxStateView_eq (x : Line) : boxStateView x = boxViewBytes x := by
  have encode : encodeBox = fun y => [boxStateByte y.state, BitVec.ofNat 8 y.faultCount, orNone y.seatCount,
      yesNo y.displayPending, BitVec.ofNat 8 y.rounds, yesNo y.baselinePending, y.lastStop.zeroExtend 8,
      yesNo y.boxFault, yesNo y.lamp, yesNo y.icon, y.model, y.firmware] ++ y.serial := by
    funext y
    rw [encodeBox, natBytes_boxStateCode, natBytes_optCode, natBytes_flagCode, natBytes_flagCode, natBytes_toNat,
      natBytes_flagCode, natBytes_flagCode, natBytes_flagCode]
    rfl
  rw [boxStateView, boxViewBytes, encode, natBytes_lineStateCode, natBytes_flagCode, natBytes_modeCode,
    natBytes_flagCode]
  simp only [List.append_assoc, List.cons_append, List.nil_append]

/-! ### The items of a REPORT (R174, R184, R185) -/

theorem encodeReply_eq (r : Reply) : encodeReply r = replyItem r := by
  have code : natBytes 1 r.code.code = [replyCodeByte r.code] := by cases r.code <;> rfl
  rw [encodeReply, replyItem, code]
  rfl

theorem encodeNotice_eq (n : Notice) : encodeNotice n = noticeItem n := by
  cases n with
  | boxState l b x _ => cases x <;> rfl
  | boxFault l b x => cases x <;> rfl
  | cueSkipped i reason place => cases reason <;> rfl
  | stopCleared n cause => cases cause <;> rfl
  | announceDisplaced cls clip origin | announceDropped cls clip origin => cases origin <;> rfl
  | clipEnded ticket clip cls reason => cases reason <;> rfl
  | clipFailed ticket clip cls reason => cases reason <;> rfl
  | _ => rfl

/-- What a report takes: `a` replies and `b` notices, as many as find a place and fit (R174, R185). -/
def ItemsTaken (places size : Nat) (replies : List Reply) (notices : List Notice) (a b : Nat) : Prop :=
  a + b ≤ places ∧ a ≤ replies.length ∧ b ≤ notices.length ∧ (b ≠ 0 → a = replies.length) ∧
    size + ((replies.take a).map encodeReply ++ (notices.take b).map encodeNotice).flatten.length ≤ 2400 ∧
    (a + b < places → ∀ item,
      ((replies.drop a).map encodeReply ++ (notices.drop b).map encodeNotice).head? = some item →
      2400 < size + ((replies.take a).map encodeReply ++ (notices.take b).map encodeNotice).flatten.length + item.length)

/-- With no place left, or no item, or with one that does not fit, nothing is taken. -/
theorem ItemsTaken.none {places size : Nat} {replies : List Reply} {notices : List Notice} (fits : size ≤ 2400)
    (ends : ∀ item, (replies.map encodeReply ++ notices.map encodeNotice).head? = some item →
      places = 0 ∨ 2400 < size + item.length) : ItemsTaken places size replies notices 0 0 :=
  ⟨Nat.zero_le _, Nat.zero_le _, Nat.zero_le _, fun h => absurd rfl h, fits, fun room item first =>
    (ends item first).resolve_left fun none => by omega⟩

theorem ItemsTaken.reply {places size a b : Nat} {r : Reply} {replies : List Reply} {notices : List Notice}
    (h : ItemsTaken places (size + (encodeReply r).length) replies notices a b) :
    ItemsTaken (places + 1) size (r :: replies) notices (a + 1) b := by
  obtain ⟨room, few, notices_few, order, fits, ends⟩ := h
  refine ⟨by omega, Nat.succ_le_succ few, notices_few, fun some => congrArg (· + 1) (order some), ?_, fun left item first => ?_⟩
  · simp only [List.take_succ_cons, List.map_cons, List.cons_append, List.flatten_cons, List.length_append] at fits ⊢
    omega
  · have past := ends (by omega) item first
    simp only [List.take_succ_cons, List.map_cons, List.cons_append, List.flatten_cons, List.length_append] at past ⊢
    omega

theorem ItemsTaken.notice {places size b : Nat} {n : Notice} {notices : List Notice}
    (h : ItemsTaken places (size + (encodeNotice n).length) [] notices 0 b) :
    ItemsTaken (places + 1) size [] (n :: notices) 0 (b + 1) := by
  obtain ⟨room, few, notices_few, order, fits, ends⟩ := h
  refine ⟨by omega, few, Nat.succ_le_succ notices_few, fun _ => rfl, ?_, fun left item first => ?_⟩
  · simp only [List.take_succ_cons, List.map_cons, List.flatten_cons, List.length_append, List.take_nil, List.map_nil,
      List.nil_append] at fits ⊢
    omega
  · have past := ends (by omega) item first
    simp only [List.take_succ_cons, List.map_cons, List.flatten_cons, List.length_append, List.take_nil, List.map_nil,
      List.nil_append] at past ⊢
    omega

theorem takeItems_spec (places : Nat) {size : Nat} (fits : size ≤ 2400) (replies : List Reply) (notices : List Notice) :
    ∃ a b, ItemsTaken places size replies notices a b ∧ takeItems places size replies notices =
      { items := (replies.take a).map encodeReply ++ (notices.take b).map encodeNotice
        replies := replies.drop a, notices := notices.drop b } := by
  induction places generalizing size replies notices with
  | zero => exact ⟨0, 0, .none fits fun _ _ => .inl rfl, rfl⟩
  | succ places ih =>
    match replies, notices with
    | r :: rs, ns =>
      by_cases room : size + (encodeReply r).length ≤ Config.reportBodyLimit
      · obtain ⟨a, b, taken, eq⟩ := ih room rs ns
        exact ⟨a + 1, b, taken.reply, by rw [takeItems, if_pos room, eq]; rfl⟩
      · refine ⟨0, 0, .none fits fun item first => .inr ?_, by rw [takeItems, if_neg room]; rfl⟩
        obtain rfl := Option.some.inj first
        exact Nat.lt_of_not_le room
    | [], n :: ns =>
      by_cases room : size + (encodeNotice n).length ≤ Config.reportBodyLimit
      · obtain ⟨a, b, taken, eq⟩ := ih room [] ns
        obtain rfl : a = 0 := Nat.le_zero.1 taken.2.1
        exact ⟨0, b + 1, taken.notice, by rw [takeItems, if_pos room, eq]; rfl⟩
      · refine ⟨0, 0, .none fits fun item first => .inr ?_, by rw [takeItems, if_neg room]; rfl⟩
        obtain rfl := Option.some.inj first
        exact Nat.lt_of_not_le room
    | [], [] => exact ⟨0, 0, .none fits (fun _ first => nomatch first), rfl⟩

/-- The header (R174). -/
theorem reportHeader_eq {unordered : Bool} (items : Nat) (speed : unordered = (orderedAverage 0 s).isNone) :
    reportHeader s items = headerBytes s unordered items := by
  have average : headerSpeed s = ((s.sense.results[0]?).map fun r => if r.avgPresent then r.avgValue else 0).getD 0 := by
    rw [headerSpeed, resultRecord, List.getD_eq_getElem?_getD]
    cases s.sense.results[0]? <;> rfl
  have stop : headerStop s = (s.route.requested.map StopRequest.stop).getD 0 := by
    rw [headerStop]
    cases s.route.requested <;> rfl
  have ticket : pathTicket s = (s.announce.path.map fun e => e.ticket.getD 0).getD 0 := by
    rw [pathTicket]
    cases s.announce.path <;> rfl
  have clip : pathClip s = (s.announce.path.map Entry.clip).getD 0 := by
    rw [pathClip]
    cases s.announce.path <;> rfl
  rw [reportHeader, headerBytes, natBytes_linkCode, natBytes_routeCode, natBytes_pathCode, natBytes_byte,
    natBytes_liveCode, average, stop, ticket, clip, headerMarks, speed, position]
  simp only [natBytes_one, List.append_assoc, List.cons_append, List.nil_append]

end Sys2Proof.Machine

namespace Sys2Proof.Proofs
open Sys2Proof Sys2Proof.Machine

/-- Settles O14: the header, the items' bytes, and what a report takes by the link. -/
theorem reportTakesRepliesThenNotices : Obligations.ReportTakesRepliesThenNotices := by
  refine ⟨fun s unordered items speed => reportHeader_eq items ?speed, encodeReply_eq, encodeNotice_eq,
    fun s => ⟨fun wait => by rw [buildReport, wait], fun lost => by rw [buildReport, lost], fun up => ?up⟩⟩
  case speed =>
    rw [Bool.eq_iff_iff, speed, Option.isNone_iff_eq_none, Option.eq_none_iff_forall_ne_some]
    exact forall_congr' fun v => not_congr orderedAverage_eq_some_iff.symm
  case up =>
    obtain ⟨a, b, ⟨room, few, notices_few, order, fits, ends⟩, eq⟩ :=
      takeItems_spec 4 (size := 19) (by omega) s.manage.replies s.manage.notices
    have count : ((s.manage.replies.take a).map encodeReply ++ (s.manage.notices.take b).map encodeNotice).length =
        a + b := by
      rw [List.length_append, List.length_map, List.length_map, List.length_take_of_le few,
        List.length_take_of_le notices_few]
    refine ⟨a, b, room, few, notices_few, order, fun items taken => taken ▸ ⟨fits, ends⟩, ?_⟩
    rw [buildReport, up]
    dsimp only [Config.reportItems, headerLength]
    rw [eq]
    dsimp only
    rw [count]

/-- Settles O23: the row by the table's entries, and each table's and view's bytes. -/
theorem tableReadReturnsRecordsInForce : Obligations.TableReadReturnsRecordsInForce := by
  refine ⟨fun s r rest table first count head kind length named_table named_first named_count => ?row, fun s => ?bytes⟩
  case row =>
    have row : exec .tableRead s = .next (replied r (readTable r (setRequests rest s))) :=
      congrArg Host.Outcome.next (executeHead_replied head (isKind_iff.2 (by rw [kind]; rfl)))
    subst named_table named_first named_count
    refine ⟨fun outside => ?_, fun entries known => ⟨fun bad => ?_, fun some few fits => ⟨?_,
      fun heldSeats heldMix heldLines => recordsOf_held s heldSeats heldMix heldLines _ _ _⟩⟩⟩
    · rw [row, readTable_of_unknown length (tableEntries_eq_none outside)]
      rfl
    · rw [row, readTable_of_range length known bad]
      rfl
    · rw [row, readTable_taken length known (by omega)]
      rfl
  case bytes =>
    refine ⟨fun table mem first a b => ?several, fun n x entry => flatMap_slice_one encodeLang entry,
      fun n x entry => (flatMap_slice_one encodeSeat entry).trans (encodeSeat_eq x),
      fun n x entry => (flatMap_slice_one encodeZone entry).trans (encodeZone_eq x),
      fun n x entry => flatMap_slice_one intByte entry, rfl,
      fun n x entry => flatMap_slice_one encodeBand entry, fun n x entry => flatMap_slice_one encodeClass entry,
      fun n x entry => flatMap_slice_one encodeChime entry,
      fun n x entry => (flatMap_slice_one encodeSeatLine entry).trans (encodeSeatLine_eq x),
      fun n x entry => flatMap_slice_one encodeSense entry,
      fun n x entry => ⟨flatMap_slice_one encodeLimit entry, encodeLimit_drop x⟩,
      fun n x entry => ⟨flatMap_slice_one encodeCue entry, encodeCue_drop x⟩,
      fun n x entry => flatMap_slice_one encodeScene entry, rfl, announceQueueView_eq s, openCuesView_eq s,
      senseResultsView_eq s, fun n x entry => (flatMap_slice_one boxStateView entry).trans (boxStateView_eq x)⟩
    obtain ⟨_, l, encode, eq⟩ := recordsOf_slices s table mem
    rw [eq, eq, eq, eq, slice_add, List.flatMap_append]
    exact ⟨rfl, rfl⟩

end Sys2Proof.Proofs

/-! The position step (R111 to R113): what a step of the route engine keeps of the route, the open-list pass and the
crossing step as the relations of the statements, the odometer edge (R103, R104) and ROUTE START (R105). -/

namespace Sys2Proof.Machine

variable {s t u : State} {i : Nat}

/-! ### What firing, skipping and joining keep of the route -/

/-- `t` is a later state of the run of `s`: the cursor, the position and the route state stand, a requested stop may
have gone, and each cue keeps its fields but the state, which is never ARMED again. -/
structure SameRun (s t : State) : Prop where
  cursor : t.route.cursor = s.route.cursor
  distance : t.route.distance = s.route.distance
  state : t.route.state = s.route.state
  requested : t.route.requested = s.route.requested ∨ t.route.requested = none
  size : t.route.cues.length = s.route.cues.length
  cues : ∀ (i : Nat) (c : Cue), s.route.cues[i]? = some c →
    ∃ x, t.route.cues[i]? = some { c with state := x } ∧ (c.state ≠ .armed → x ≠ .armed)

namespace SameRun

theorem of_route (same : t.route = s.route) : SameRun s t where
  cursor := congrArg Route.cursor same
  distance := congrArg Route.distance same
  state := congrArg Route.state same
  requested := .inl (congrArg Route.requested same)
  size := congrArg (fun r => r.cues.length) same
  cues i c entry := ⟨c.state, by rwa [same], fun h => h⟩

theorem refl (s : State) : SameRun s s := of_route rfl

theorem trans (h : SameRun s t) (k : SameRun t u) : SameRun s u where
  cursor := k.cursor.trans h.cursor
  distance := k.distance.trans h.distance
  state := k.state.trans h.state
  requested := k.requested.elim (fun same => same ▸ h.requested) .inr
  size := k.size.trans h.size
  cues i c entry := by
    obtain ⟨x, at_t, keeps⟩ := h.cues i c entry
    obtain ⟨y, at_u, keeps'⟩ := k.cues i _ at_t
    exact ⟨y, at_u, fun other => keeps' (keeps other)⟩

theorem position (h : SameRun s t) : position t = position s := congrArg (fun d => d.toNat / 10000) h.distance

theorem notify (n : Notice) (s : State) : SameRun s (notify n s) := of_route (notify_pathFrame s n).route

/-- A cue takes a state that is not ARMED, whatever becomes of the open-cue list and the requested stop. -/
theorem marked (i : Nat) {x : CueState} (away : x ≠ .armed) (list : List Nat) {stop : Option StopRequest}
    (kept : stop = s.route.requested ∨ stop = none) :
    SameRun s { s with route := { s.route with
      cues := s.route.cues.modify i (fun c => { c with state := x }), openCues := list, requested := stop } } where
  cursor := rfl
  distance := rfl
  state := rfl
  requested := kept
  size := List.length_modify _ _ _
  cues j c entry := by
    by_cases same : i = j
    · exact ⟨x, by simp [same, entry], fun _ => away⟩
    · exact ⟨c.state, by simp [List.getElem?_modify_ne _ _ same, entry], fun h => h⟩

theorem setCueState (i : Nat) {x : CueState} (away : x ≠ .armed) (s : State) :
    SameRun s (setCueState i x s) := marked i away s.route.openCues (.inl rfl)

theorem openCues (list : List Nat) (s : State) : SameRun s (withOpenCues list s) where
  cursor := rfl
  distance := rfl
  state := rfl
  requested := .inl rfl
  size := rfl
  cues _ c entry := ⟨c.state, entry, fun h => h⟩

theorem clearStop (s : State) : SameRun s (clearStop s) where
  cursor := rfl
  distance := rfl
  state := rfl
  requested := .inr rfl
  size := rfl
  cues _ c entry := ⟨c.state, entry, fun h => h⟩

theorem announceRequest (q : AnnRequest) (s : State) : SameRun s (announceRequest q s) :=
  of_route (announceRequest_pathFrame s q).route

theorem cueAction (i : Nat) (c : Cue) (s : State) : SameRun s (cueAction i c s) := by
  unfold Machine.cueAction
  split
  · exact of_route rfl
  · exact announceRequest _ _
  · dsimp only
    have reached : SameRun s (if stopIs c.stop s then Machine.notify (.stopReached c.stop) (Machine.clearStop s) else s) := by
      split
      · exact (clearStop s).trans (notify _ _)
      · exact refl s
    split
    · exact reached
    · exact reached.trans (announceRequest _ _)
  · exact announceRequest _ _
  · exact of_route (setCueScene_pathFrame s _).route
  · exact refl s
  · exact refl s

theorem fireCue (i : Nat) (s : State) : SameRun s (fireCue i s) :=
  ((setCueState i (by decide) s).trans (openCues _ _)).trans ((notify _ _).trans (cueAction _ _ _))

theorem skipCue (i : Nat) (reason : SkipReason) (s : State) : SameRun s (skipCue i reason s) := by
  have skipped := ((setCueState i (x := .skipped) (by decide) s).trans
    (openCues (s.route.openCues.filter fun j => !decide (j = i)) _)).trans (notify (.cueSkipped i reason (Machine.position s)) _)
  unfold Machine.skipCue
  dsimp only
  split
  · split
    · exact skipped.trans ((clearStop _).trans (notify _ _))
    · exact skipped
  · exact skipped

theorem joins (h : Joins i s t) : SameRun s t := by
  cases h with
  | atEnd => exact openCues _ s
  | overflow => exact (skipCue _ _ s).trans (openCues _ _)

theorem crossed {v w : Bool} (h : Crossed i s v t w) : SameRun s t := by
  cases h with
  | fired => exact fireCue i s
  | deferred _ _ _ joined => exact (setCueState i (by decide) s).trans (joins joined)
  | late => exact skipCue i _ s
  | pending _ _ joined => exact (setCueState i (by decide) s).trans (joins joined)
  | missed => exact skipCue i _ s

end SameRun

/-! ### The open-list pass and the crossing step (R111, R112) -/

theorem openPass_spec (list : List Nat) (s : State) (used : Bool) :
    OpenPass list s used (openPass list s used).1 (openPass list s used).2 := by
  induction list generalizing s used with
  | nil => exact .done s used
  | cons i rest ih =>
    by_cases passed : windowPassed s i
    · have step : openPass (i :: rest) s used = openPass rest (skipCue i .window s) used := if_pos passed
      rw [step]
      exact .skipped passed (ih _ _)
    · by_cases pending : (cueAt s i).state = .pending
      · have step : openPass (i :: rest) s used =
            openPass rest (evaluatePending i s used).1 (evaluatePending i s used).2 :=
          (if_neg passed).trans (if_pos pending)
        rw [step]
        rcases evaluatePending_cases i s used with ⟨fails, eq⟩ | ⟨holds, after, may, eq⟩ | ⟨holds, waits, eq⟩
        · rw [eq]
          exact .stays passed (fun _ => fails) (ih s used)
        · rw [eq]
          exact .fired passed pending holds may (ih _ _)
        · rw [eq]
          exact .deferred passed pending holds waits (ih _ _)
      · have step : openPass (i :: rest) s used = openPass rest s used := (if_neg passed).trans (if_neg pending)
        rw [step]
        exact .stays passed (fun is => absurd is pending) (ih s used)

theorem joinList_spec (i : Nat) (s : State) : Joins i s (joinList i s) := by
  unfold joinList
  by_cases room : s.route.openCues.length < Config.openCueDepth
  · rw [if_pos room]
    exact .atEnd room
  · rw [if_neg room]
    cases list : s.route.openCues with
    | nil => exact absurd (by rw [list]; decide) room
    | cons oldest rest => exact .overflow list (Nat.le_of_not_lt room)

/-- An ARMED cue is crossed by the table of R112. -/
theorem crossArmed_spec (i : Nat) (s : State) (used : Bool) :
    Crossed i s used (crossArmed i s used).1 (crossArmed i s used).2 := by
  unfold crossArmed
  dsimp only
  by_cases condition : conditionTrue (cueAt s i) s = true
  · have holds := conditionTrue_iff.1 condition
    rw [if_pos condition]
    by_cases segment : isSegment (cueAt s i) = true
    · have kind := isSegment_iff.1 segment
      rw [if_pos segment]
      by_cases served : (canServe (cueAt s i) s && !used) = true
      · obtain ⟨can, unused⟩ := Bool.and_eq_true_iff.1 served
        rw [if_pos served]
        exact .fired holds (.inr ⟨kind, canServe_iff.1 can, by simpa using unused, rfl⟩)
      · have waits : mustWait s i used := by
          refine ⟨kind, ?_⟩
          rw [← canServe_iff]
          cases used with
          | true => exact .inl rfl
          | false => exact .inr fun can => served (by rw [can]; rfl)
        rw [if_neg served]
        by_cases late : windowEnd (cueAt s i) < position s
        · rw [if_pos late]
          exact .late holds waits late
        · rw [if_neg late]
          exact .deferred holds waits late (joinList_spec i _)
    · rw [if_neg segment]
      exact .fired holds (.inl ⟨mt isSegment_iff.2 segment, rfl⟩)
  · have fails := mt conditionTrue_iff.2 condition
    rw [if_neg condition]
    by_cases late : windowEnd (cueAt s i) < position s
    · rw [if_pos late]
      exact .missed fails late
    · rw [if_neg late]
      exact .pending fails late (joinList_spec i _)

/-- The crossing step: the fuel counts the entries left to look at. -/
theorem crossing_spec {fuel : Nat} (s : State) (used : Bool) (enough : 256 < fuel + s.route.cursor) :
    CrossingStep s used (crossing fuel s used) := by
  induction fuel generalizing s used with
  | zero => exact .tableEnd (by omega)
  | succ fuel ih =>
    rw [crossing]
    dsimp only
    by_cases past : Config.cueEntries ≤ s.route.cursor
    · rw [if_pos past]
      exact .tableEnd past
    · have inside : s.route.cursor < 256 := Nat.lt_of_not_le past
      have next (v : Bool) := ih (setCursor (s.route.cursor + 1) s) v (by change 256 < fuel + (s.route.cursor + 1); omega)
      rw [if_neg past]
      cases inUse : (cueAt s s.route.cursor).inUse with
      | false => exact .notInUse rfl inside inUse (next used)
      | true =>
        rw [Bool.not_true, if_neg Bool.false_ne_true]
        by_cases ahead : position s < (cueAt s s.route.cursor).trigger
        · rw [if_pos ahead]
          exact .ahead rfl inside inUse ahead
        · have reached := Nat.le_of_not_lt ahead
          rw [if_neg ahead]
          split
          · next armed =>
            have crossed := crossArmed_spec s.route.cursor (setCursor (s.route.cursor + 1) s) used
            refine .crossed rfl inside inUse reached armed crossed (ih _ _ ?_)
            rw [(SameRun.crossed crossed).cursor]
            change 256 < fuel + (s.route.cursor + 1)
            omega
          · next other => exact .passedOver rfl inside inUse reached other (next used)

theorem positionStep_spec (s : State) :
    ∃ m u, OpenPass s.route.openCues s false m u ∧ CrossingStep m u (positionStep s) :=
  ⟨_, _, openPass_spec _ _ _, crossing_spec _ _ (by rw [Config.cueEntries]; omega)⟩

/-! ### What the crossing step leaves -/

theorem SameRun.withCursor (h : SameRun s t) (n : Nat) : SameRun (withCursor n s) (withCursor n t) :=
  ⟨rfl, h.distance, h.state, h.requested, h.size, h.cues⟩

/-- A cue of a later state of the run is one of the state before, its own state apart. -/
theorem SameRun.cue_before (h : SameRun s t) {d : Cue} (entry : t.route.cues[i]? = some d) :
    ∃ c, s.route.cues[i]? = some c ∧ d = { c with state := d.state } ∧ (c.state ≠ .armed → d.state ≠ .armed) := by
  have inside : i < s.route.cues.length := h.size ▸ (List.getElem?_eq_some_iff.1 entry).1
  obtain ⟨x, at_t, keeps⟩ := h.cues i _ (List.getElem?_eq_getElem inside)
  obtain rfl := Option.some.inj (at_t.symm.trans entry)
  exact ⟨_, List.getElem?_eq_getElem inside, rfl, keeps⟩

/-- The crossing step is of one run, the cursor apart. -/
theorem CrossingStep.sameRun {v : Bool} (h : CrossingStep s v t) (n : Nat) :
    SameRun (withCursor n s) (withCursor n t) := by
  induction h with
  | tableEnd | ahead => exact .refl _
  | notInUse _ _ _ _ ih => exact ih
  | passedOver _ _ _ _ _ _ ih => exact ih
  | crossed _ _ _ _ _ crossed _ ih => exact ((SameRun.crossed crossed).withCursor n).trans ih

/-- A cue that takes a state other than ARMED keeps one such. -/
theorem SameRun.marked_not_armed {x : CueState} (away : x ≠ .armed) (h : SameRun (withCueState i x s) t) {d : Cue}
    (entry : t.route.cues[i]? = some d) : d.state ≠ .armed := by
  obtain ⟨c, before, _, keeps⟩ := h.cue_before entry
  refine keeps ?_
  rw [withCueState, List.getElem?_modify_eq] at before
  obtain ⟨_, _, rfl⟩ := Option.map_eq_some_iff.1 before
  exact away

/-- A cue that is crossed is ARMED no more. -/
theorem Crossed.not_armed {v w : Bool} (h : Crossed i s v t w) {d : Cue} (entry : t.route.cues[i]? = some d) :
    d.state ≠ .armed := by
  have fired : SameRun (withCueState i .fired s) (fireCue i s) :=
    (SameRun.openCues _ _).trans ((SameRun.notify _ _).trans (SameRun.cueAction _ _ _))
  have skipped : SameRun (withCueState i .skipped s) (skipCue i .window s) := by
    unfold skipCue
    dsimp only
    have noticed := (SameRun.openCues (s.route.openCues.filter fun j => !decide (j = i)) (withCueState i .skipped s)).trans
      (SameRun.notify (.cueSkipped i .window (position s)) _)
    split
    · split
      · exact noticed.trans ((SameRun.clearStop _).trans (SameRun.notify _ _))
      · exact noticed
    · exact noticed
  cases h with
  | fired => exact fired.marked_not_armed (by decide) entry
  | late | missed => exact skipped.marked_not_armed (by decide) entry
  | deferred _ _ _ joined | pending _ _ joined => exact (SameRun.joins joined).marked_not_armed (by decide) entry

/-- No in-use cue below the cursor whose trigger is reached is ARMED. -/
def CrossedBelow (s : State) : Prop :=
  ∀ (i : Nat) (c : Cue), i < s.route.cursor → s.route.cues[i]? = some c → c.inUse = true → c.trigger ≤ position s →
    c.state ≠ .armed

/-- The crossing step ends at the end of the table or at an in-use cue ahead, with every cue crossed below. -/
theorem CrossingStep.crosses {v : Bool} (h : CrossingStep s v t) (below : CrossedBelow s) :
    (256 ≤ t.route.cursor ∨ ((cueAt t t.route.cursor).inUse = true ∧ position t < (cueAt t t.route.cursor).trigger)) ∧
      CrossedBelow t := by
  induction h with
  | tableEnd past => exact ⟨.inl past, below⟩
  | ahead at_i _ inUse ahead => exact ⟨.inr (at_i ▸ ⟨inUse, ahead⟩), below⟩
  | @notInUse s v t i at_i _ unused _ ih =>
    refine ih fun j c before entry inUse reached => ?_
    rcases Nat.lt_succ_iff_lt_or_eq.1 before with lower | rfl
    · exact below j c (at_i ▸ lower) entry inUse reached
    · rw [cueAt_of_getElem? (s := s) entry] at unused
      exact absurd (unused.symm.trans inUse) Bool.false_ne_true
  | @passedOver s v t i at_i _ _ _ other _ ih =>
    refine ih fun j c before entry inUse reached => ?_
    rcases Nat.lt_succ_iff_lt_or_eq.1 before with lower | rfl
    · exact below j c (at_i ▸ lower) entry inUse reached
    · rwa [cueAt_of_getElem? (s := s) entry] at other
  | @crossed s v m w t i at_i _ _ _ _ crossed _ ih =>
    refine ih fun j d before entry inUse reached => ?_
    have same := SameRun.crossed crossed
    obtain ⟨c, entry_c, eq, keeps⟩ := same.cue_before entry
    rw [same.cursor] at before
    rw [same.position] at reached
    rcases Nat.lt_succ_iff_lt_or_eq.1 before with lower | rfl
    · rw [eq] at inUse reached
      exact keeps (below j c (at_i ▸ lower) entry_c inUse reached)
    · exact crossed.not_armed entry

theorem findFrom_map {α β : Type} (p : β → Bool) (f : α → β) (i : Nat) (l : List α) :
    findFrom p i (l.map f) = findFrom (fun x => p (f x)) i l := by
  induction l generalizing i with
  | nil => rfl
  | cons x xs ih =>
    rw [List.map_cons, findFrom, findFrom, ih]

/-- With every in-use cue ahead, the crossing step only moves the cursor to the first of them. -/
theorem CrossingStep.of_ahead {v : Bool} (h : CrossingStep s v t) (size : s.route.cues.length = 256)
    (inside : s.route.cursor ≤ 256) (ahead : ∀ c ∈ s.route.cues, c.inUse = true → position s < c.trigger) :
    t = withCursor ((findFrom Cue.inUse s.route.cursor (s.route.cues.drop s.route.cursor)).getD 256) s := by
  have split {s : State} {i : Nat} (size : s.route.cues.length = 256) (i_lt : i < 256) :
      s.route.cues.drop i = cueAt s i :: s.route.cues.drop (i + 1) ∧ cueAt s i ∈ s.route.cues := by
    have entry := List.getElem?_eq_getElem (size.symm ▸ i_lt : i < s.route.cues.length)
    rw [cueAt_of_getElem? entry]
    exact ⟨List.drop_eq_getElem_cons _, List.mem_of_getElem? entry⟩
  induction h with
  | @tableEnd s v past =>
    rw [List.drop_eq_nil_of_le (by omega), findFrom, Option.getD_none, ← Nat.le_antisymm inside past]
    rfl
  | @ahead s v i at_i i_lt inUse _ =>
    rw [at_i, (split size i_lt).1, findFrom, if_pos inUse, Option.getD_some, ← at_i]
    rfl
  | @notInUse s v t i at_i i_lt unused _ ih =>
    rw [ih size i_lt ahead, at_i, (split size i_lt).1, findFrom, if_neg (by rw [unused]; exact Bool.false_ne_true)]
    rfl
  | @passedOver s v t i at_i i_lt inUse reached =>
    exact absurd (ahead _ (split size i_lt).2 inUse) (Nat.not_lt.2 reached)
  | @crossed s v _ w t i at_i i_lt inUse reached =>
    exact absurd (ahead _ (split size i_lt).2 inUse) (Nat.not_lt.2 reached)

/-! ### The odometer edge (R103, R104) -/

theorem pulseLength_of_record {odo : SenseRec} (entry : s.sense.channels[0]? = some odo) : pulseLength s = odo.pulse := by
  rw [pulseLength, channelRecord, entry]
  rfl

section
variable {odo : SenseRec} {sum : Nat} (entry : s.sense.channels[0]? = some odo)
  (sum_eq : sum = s.route.distance.toNat + odo.pulse) (moving : s.route.state ≠ .stopped)
include entry sum_eq moving

/-- Below 2^40 the position step runs for a new metre of a RUNNING route alone. -/
theorem routeEdge_of_below (below : sum < 2 ^ 40) : routeEdge s =
    if s.route.state = .running ∧ sum / 10000 ≠ position s then positionStep (setDistance (BitVec.ofNat 40 sum) s)
    else setDistance (BitVec.ofNat 40 sum) s := by
  have place : position (setDistance (BitVec.ofNat 40 sum) s) = sum / 10000 :=
    congrArg (· / 10000) ((BitVec.toNat_ofNat sum 40).trans (Nat.mod_eq_of_lt below))
  rw [routeEdge, if_neg moving, pulseLength_of_record entry, ← sum_eq]
  dsimp only
  rw [if_neg (Nat.not_le.2 below), place]
  exact if_congr (by simp) rfl rfl

theorem routeEdge_of_overflow (wraps : 2 ^ 40 ≤ sum) : routeEdge s =
    backward (position (setDistance (BitVec.ofNat 40 sum) s))
      (notify .distanceOverflow (setDistance (BitVec.ofNat 40 sum) s)) := by
  rw [routeEdge, if_neg moving, pulseLength_of_record entry, ← sum_eq]
  dsimp only
  rw [if_pos wraps, (SameRun.notify .distanceOverflow _).position]

end

theorem ite_lt_eq_min (a b : Nat) : (if b < a then b else a) = min a b := by
  rw [Nat.min_def]
  split <;> split <;> omega

/-! ### ROUTE START (R105) -/

/-- `s` with its route RUNNING from the start, the requested stop cleared with its notice, and the lines woken. -/
def runStarted (s : State) : State :=
  { stopCleared s with
    route := { distance := 0, state := .running, cursor := 0, openCues := [], requested := none
               cues := s.route.cues.map fun c => { c with state := .armed } }
    lines := { s.lines with lines := s.lines.lines.map routeWake } }

theorem startRoute_eq : startRoute s = positionStep (runStarted s) := by
  refine congrArg positionStep ?_
  cases requested : s.route.requested with
  | none => simp [runStarted, routeClearsStop, stopCleared, wakeLines, requested]
  | some q => simp [runStarted, routeClearsStop, stopCleared, wakeLines, requested, clearStop, notify_setRoute]

/-- With an empty open-cue list the position step is the crossing step. -/
theorem positionStep_of_no_open (empty : s.route.openCues = []) : CrossingStep s false (positionStep s) := by
  obtain ⟨m, v, pass, crossing⟩ := positionStep_spec s
  rw [empty] at pass
  cases pass
  exact crossing

theorem runStarted_setRequests (rest : List Request) (s : State) :
    runStarted (setRequests rest s) = setRequests rest (runStarted s) := by
  rw [runStarted, stopCleared_setRequests]
  rfl

/-- The start of a run leaves all but the route, the lines and the notices. -/
theorem runStarted_eq (s : State) :
    runStarted s = { s with route := (runStarted s).route, lines := (runStarted s).lines
                            manage := (runStarted s).manage } := by
  have cleared : stopCleared s = { s with manage := (stopCleared s).manage } := by
    unfold stopCleared
    split
    · exact notify_manage_only _ _
    · rfl
  rw [runStarted, cleared]

/-- A run that starts leaves the link, the playout buffer, the seats, the sense unit, the report, the clock and the
queue, and of the mix engine all but the generator. -/
theorem eq_of_runStarted (link : t.link = s.link) (playout : t.playout = s.playout) (seats : t.seats = s.seats)
    (sense : t.sense = s.sense) (report : t.report = s.report) (clockPhase : t.clockPhase = s.clockPhase)
    (pending : t.pending = s.pending) (mix : t.mix = { s.mix with generator := t.mix.generator }) :
    t = { s with route := t.route, lines := t.lines, segment := t.segment, announce := t.announce
                 mix := { s.mix with generator := t.mix.generator }, lighting := t.lighting, manage := t.manage } := by
  rw [← link, ← playout, ← seats, ← sense, ← report, ← clockPhase, ← pending, ← mix]

/-- In order of trigger, a cue in use that the cursor has not passed lies as far ahead as the cue at the cursor. -/
theorem trigger_le_of_ordered {l : List Cue} (ordered : (l.filter Cue.inUse).Pairwise fun a b => a.trigger ≤ b.trigger)
    {i j : Nat} {a b : Cue} (at_i : l[i]? = some a) (at_j : l[j]? = some b) (before : i < j) (used_a : a.inUse = true)
    (used_b : b.inUse = true) : a.trigger ≤ b.trigger := by
  obtain ⟨i_lt, rfl⟩ := List.getElem?_eq_some_iff.1 at_i
  obtain ⟨j_lt, rfl⟩ := List.getElem?_eq_some_iff.1 at_j
  exact List.pairwise_iff_getElem.1 (List.pairwise_filter.1 ordered) i j i_lt j_lt before used_a used_b

/-- Once a run has started, with the triggers in order, no in-use cue at trigger 0 is left ARMED. -/
theorem positionStep_runStarted_crosses (size : s.route.cues.length = 256)
    (ordered : (s.route.cues.filter Cue.inUse).Pairwise fun a b => a.trigger ≤ b.trigger) {d : Cue}
    (mem : d ∈ (positionStep (runStarted s)).route.cues) (inUse : d.inUse = true) (zero : d.trigger = 0) :
    d.state ≠ .armed := by
  have crossing := positionStep_of_no_open (s := runStarted s) rfl
  have run := crossing.sameRun 0
  obtain ⟨ends, below⟩ := crossing.crosses fun i c before => absurd before (Nat.not_lt_zero i)
  have table {j : Nat} {x : Cue} (entry : (positionStep (runStarted s)).route.cues[j]? = some x) :
      ∃ c, s.route.cues[j]? = some c ∧ x.trigger = c.trigger ∧ x.inUse = c.inUse := by
    obtain ⟨y, at_j, eq, _⟩ := run.cue_before (t := withCursor 0 _) entry
    obtain ⟨c, at_c, rfl⟩ := Option.map_eq_some_iff.1 ((List.getElem?_map ..).symm.trans at_j)
    exact ⟨c, at_c, by rw [eq], by rw [eq]⟩
  obtain ⟨i, entry⟩ := List.mem_iff_getElem?.1 mem
  obtain ⟨c, at_i, trigger, used⟩ := table entry
  have i_lt : i < 256 := size ▸ (List.getElem?_eq_some_iff.1 at_i).1
  by_cases passed : i < (positionStep (runStarted s)).route.cursor
  · exact below i d passed entry inUse (zero ▸ Nat.zero_le _)
  · exfalso
    rcases ends with past | ⟨ahead_used, ahead⟩
    · omega
    · have cursor_lt : (positionStep (runStarted s)).route.cursor < (positionStep (runStarted s)).route.cues.length := by
        have := (List.getElem?_eq_some_iff.1 entry).1
        omega
      have at_cursor := List.getElem?_eq_getElem cursor_lt
      rw [cueAt_of_getElem? at_cursor] at ahead_used ahead
      obtain ⟨c', at_j, trigger', used'⟩ := table at_cursor
      rcases Nat.lt_or_eq_of_le (Nat.le_of_not_lt passed) with before | same
      · have := trigger_le_of_ordered ordered at_j at_i before (used' ▸ ahead_used) (used ▸ inUse)
        omega
      · obtain rfl : c' = c := Option.some.inj (at_j.symm.trans (same ▸ at_i))
        omega

end Sys2Proof.Machine

namespace Sys2Proof.Proofs
open Sys2Proof Sys2Proof.Machine

/-- Settles O29: the position step as its two relations, and the edge by the route state and the sum. -/
theorem odometerEdgeMovesPosition : Obligations.OdometerEdgeMovesPosition := by
  refine ⟨positionStep_spec, fun s odo sum entry sum_eq => ⟨fun stopped => ?stopped, fun moving below stays => ?stays,
    fun running below moves => ?moves, fun moving wraps small => ?overflow⟩⟩
  case stopped => exact congrArg Host.Outcome.next (routeEdge_of_stopped stopped)
  case stays =>
    refine congrArg Host.Outcome.next ((routeEdge_of_below entry sum_eq moving below).trans (if_neg ?_))
    rintro ⟨running, moves⟩
    rcases stays with held | same
    · exact nomatch running.symm.trans held
    · exact moves same
  case moves =>
    exact congrArg Host.Outcome.next ((routeEdge_of_below entry sum_eq (running.trans_ne (by decide)) below).trans
      (if_pos ⟨running, moves⟩))
  case overflow =>
    refine ⟨_, congrArg Host.Outcome.next (routeEdge_of_overflow (s := s) entry sum_eq moving wraps), ?_⟩
    have noticed : notify .distanceOverflow (setDistance (BitVec.ofNat 40 sum) s) =
        { notify .distanceOverflow s with route := { s.route with distance := BitVec.ofNat 40 sum } } :=
      notify_setRoute _ _
    rw [noticed, backward_eq]
    refine ⟨?_, rfl, rfl, rfl, rfl, rfl, ?_, ?_⟩
    · have := s.route.distance.isLt
      change (BitVec.ofNat 40 sum).toNat = _
      rw [BitVec.toNat_ofNat]
      omega
    · exact ite_lt_eq_min _ _
    · rw [notify_manage_only]

/-- Settles O25: the wake of a line, and the crossing step from the start of the run. -/
theorem routeStartResetsRun : Obligations.RouteStartResetsRun := by
  refine ⟨fun x => ⟨routeWake_of_sleeping, routeWake_of_awake⟩, fun s r rest head kind params size => ?_⟩
  have row : exec .routeStart s =
      .next (replied r (done (positionStep (setRequests rest (runStarted s))))) := by
    refine congrArg Host.Outcome.next ((executeHead_routeAction (act := fun x => done (startRoute x)) head kind params
      (by decide)).trans ?_)
    rw [startRoute_eq, runStarted_setRequests]
    rfl
  have crossing := positionStep_of_no_open (s := setRequests rest (runStarted s)) rfl
  refine ⟨fun ahead => ?quiet, fun ordered => ?crossed⟩
  case quiet =>
    have step := crossing.of_ahead ((List.length_map _).trans size) (Nat.zero_le _) fun c mem inUse => by
      obtain ⟨d, mem_d, rfl⟩ := List.mem_map.1 mem
      have start : position (setRequests rest (runStarted s)) = 0 := by simp [position, runStarted]
      rw [start]
      exact ahead d mem_d inUse
    rw [row, step]
    change Host.Outcome.next (replied r (done (withCursor ((findFrom Cue.inUse 0
      (s.route.cues.map fun c => { c with state := .armed })).getD 256) (setRequests rest (runStarted s))))) = _
    rw [findFrom_map]
    rfl
  case crossed =>
    have run := crossing.sameRun 0
    have frame := positionStep_routeFrame (setRequests rest (runStarted s))
    refine ⟨_, row, run.distance, run.state, run.requested.elim id id, frame.lines, fun c mem inUse zero => ?_, ?_⟩
    · rw [← runStarted_setRequests] at mem
      exact positionStep_runStarted_crosses (s := setRequests rest s) size ordered mem inUse zero
    · have kept {α : Type} (f : State → α) := congrArg f (runStarted_eq s)
      exact eq_of_runStarted (frame.link.trans (kept State.link)) (frame.playout.trans (kept State.playout))
        (frame.seats.trans (kept State.seats)) (frame.sense.trans (kept State.sense))
        (frame.report.trans (kept State.report)) (frame.clockPhase.trans (kept State.clockPhase))
        (frame.pending.trans (kept State.pending))
        (frame.mix.trans (by rw [show (setRequests rest (runStarted s)).mix = s.mix from kept State.mix]; rfl))

end Sys2Proof.Proofs

/-! What announcements do to segment control (R129, R145), and the scan's own events (R85, R87, R89, R90, R95). -/

namespace Sys2Proof.Machine

variable {s t u : State}

/-! ### What leaves segment and live control (R125, R128) -/

theorem setAlert_segment (x : Option Nat) (s : State) : (setAlert x s).segment = s.segment := by
  unfold setAlert
  split <;> rfl

theorem stopChime_segment (s : State) : (stopChime s).segment = s.segment := by rw [stopChime_eq]

theorem startEntry_segment (w : Entry) (s : State) : (startEntry w s).segment = s.segment := by
  unfold startEntry
  dsimp only
  split <;> rfl

theorem beginChimeOnly_segment (e : Entry) (s : State) : (beginChimeOnly e s).1.segment = s.segment := by
  unfold beginChimeOnly
  split <;> rfl

theorem startDown_segment (fuel : Nat) (s : State) : (startDown fuel s).1.segment = s.segment := by
  induction fuel generalizing s with
  | zero => rfl
  | succ n ih =>
    rw [startDown]
    split
    · rfl
    · split
      · dsimp only
        split
        · rw [ih, beginChimeOnly_segment, notify_segment]
          rfl
        · rw [beginChimeOnly_segment, notify_segment]
          rfl
      · rfl

theorem startStep_segment (s : State) : (startStep s).1.segment = s.segment := by
  unfold startStep
  split
  · rfl
  · split
    · split
      · rfl
      · exact startEntry_segment _ _
    · exact startDown_segment _ _

theorem preempt_segment (e : Entry) (s : State) : (preempt e s).segment = s.segment := by
  rw [preempt]
  change (notify _ (stopTimers _)).segment = _
  rw [notify_segment]
  change State.segment (if _ then _ else _) = _
  split
  · exact stopChime_segment s
  · rfl

/-- Segment and live control of `t` are those of `s`, but that a REQUESTED live may have been granted (R129). -/
def GrantOnly (s t : State) : Prop :=
  t.segment = s.segment ∨
    (s.segment.live = .requested ∧
      t.segment = { s.segment with live := .on, liveMask := t.segment.liveMask, heldMask := 0 })

namespace GrantOnly

theorem of_same (same : t.segment = s.segment) : GrantOnly s t := .inl same

theorem refl (s : State) : GrantOnly s s := .inl rfl

theorem trans (h : GrantOnly s t) (k : GrantOnly t u) : GrantOnly s u := by
  rcases h with same | ⟨requested, granted⟩
  · rw [GrantOnly, ← same]
    exact k
  · rcases k with same' | ⟨requested', _⟩
    · exact .inr ⟨requested, by rw [same']; exact granted⟩
    · exact absurd ((congrArg Segment.live granted).symm.trans requested') nofun

/-- Whether live is OFF stands (R129). -/
theorem live_off (h : GrantOnly s t) : t.segment.live = .off ↔ s.segment.live = .off := by
  rcases h with same | ⟨requested, granted⟩
  · rw [same]
  · rw [granted, requested]
    exact ⟨nofun, nofun⟩

theorem pathFreeReport (s : State) : GrantOnly s (pathFreeReport s) := by
  unfold Machine.pathFreeReport
  split
  · next requested =>
    refine .inr ⟨requested, ?_⟩
    rw [grantLive, notify_segment]
  · exact refl s

theorem reportIfFree (s : State) : GrantOnly s (reportIfFree s) := by
  unfold Machine.reportIfFree
  split
  · exact refl s
  · exact pathFreeReport s

theorem afterEnding (s : State) : GrantOnly s (afterEnding s) :=
  (of_same ((setAlert_segment _ _).trans (startStep_segment s))).trans (reportIfFree _)

theorem afterArrival (s : State) : GrantOnly s (afterArrival s) := by
  have started : GrantOnly s (reportAlert (startStep s).1) := of_same ((setAlert_segment _ _).trans (startStep_segment s))
  unfold Machine.afterArrival
  split
  · exact refl s
  · dsimp only
    split
    · exact started.trans (reportIfFree _)
    · exact started

theorem afterInsertion (cls : AnnClass) (s : State) : GrantOnly s (afterInsertion cls s) := by
  unfold Machine.afterInsertion
  split
  · split
    · exact (of_same (preempt_segment _ _)).trans (afterArrival _)
    · exact refl s
  · exact afterArrival s

theorem announceRequest (q : AnnRequest) (s : State) : GrantOnly s (announceRequest q s) := by
  unfold Machine.announceRequest
  split
  · exact of_same rfl
  · split
    · exact (of_same rfl : GrantOnly s (insertRequest q s)).trans (afterInsertion _ _)
    · split
      · next worst _ =>
        split
        · have displaced : GrantOnly s (insertRequest q (notify (.announceDisplaced worst.cls worst.clip worst.origin)
              (setWaiting s.announce.waiting.dropLast s))) := of_same (notify_segment _ _)
          exact displaced.trans (afterInsertion _ _)
        · exact of_same (notify_segment _ _)
      · exact of_same (notify_segment _ _)

theorem foldl_announceRequest (l : List AnnRequest) (s : State) :
    GrantOnly s (l.foldl (fun u q => Machine.announceRequest q u) s) := by
  induction l generalizing s with
  | nil => exact refl s
  | cons q rest ih => exact (announceRequest q s).trans (ih _)

end GrantOnly

/-! ### Edges and the start delay (R85, R87, R89, R90) -/

section
variable {k : Conversion} (converting : s.sense.scan = .converting k)
include converting

theorem senseEdge_of_channel {c : SenseChan} (mine : k.channel = c) :
    senseEdge c s = setScan (.converting (countEdge k)) s := by
  rw [senseEdge, converting]
  exact if_pos mine

theorem senseEdge_of_other {c : SenseChan} (other : k.channel ≠ c) : senseEdge c s = s := by
  rw [senseEdge, converting]
  exact if_neg other

theorem execInputGateOpen_of_closed (mode : k.settings.gateMode = .inputGate) (closed : k.gateOpen = false) :
    exec .inputGateOpen s = .next (setScan (.converting (countEdge k)) s) := by
  refine congrArg Host.Outcome.next ?_
  rw [converting]
  exact if_pos (by rw [mode, closed]; rfl)

theorem execInputGateOpen_of_not_closed (other : k.settings.gateMode = .refGate ∨ k.gateOpen = true) :
    exec .inputGateOpen s = .next s := by
  refine congrArg Host.Outcome.next ?_
  rw [converting]
  refine if_neg ?_
  rcases other with mode | opened
  · rw [mode]
    exact Bool.false_ne_true
  · rw [opened, Bool.not_true, Bool.and_false]
    exact Bool.false_ne_true

end

theorem senseEdge_of_no_conversion (none : ∀ k, s.sense.scan ≠ .converting k) (c : SenseChan) : senseEdge c s = s := by
  unfold senseEdge
  split
  · next k converting => exact absurd converting (none k)
  · rfl

theorem execInputGateOpen_of_no_conversion (none : ∀ k, s.sense.scan ≠ .converting k) :
    exec .inputGateOpen s = .next s := by
  refine congrArg Host.Outcome.next ?_
  split
  · next k converting => exact absurd converting (none k)
  · rfl

theorem senseEdge_scan_only (c : SenseChan) (s : State) :
    senseEdge c s = { s with sense := { s.sense with scan := (senseEdge c s).sense.scan } } := by
  unfold senseEdge
  split
  · split <;> rfl
  · rfl

theorem countEdge_refGate {k : Conversion} (mode : k.settings.gateMode = .refGate) :
    countEdge k = if k.gateOpen then { k with edges := min (k.edges + 1) 16777215 } else k := by
  rw [countEdge, mode]
  rfl

theorem countEdge_inputGate {k : Conversion} (mode : k.settings.gateMode = .inputGate) :
    countEdge k = if k.gateOpen then { k with edges := min (k.edges + 1) k.settings.edgeCount }
      else { k with gateOpen := true, edges := 0, ticks := 0 } := by
  rw [countEdge, mode]

theorem execStartDelayExpiry_of_due (due : s.sense.scan = .delay 0) :
    exec .startDelayExpiry s = .next (beginLowest s) := by
  refine congrArg Host.Outcome.next ?_
  split
  · rfl
  · next other => exact absurd due other

theorem execStartDelayExpiry_of_not_due (other : s.sense.scan ≠ .delay 0) : exec .startDelayExpiry s = .next s := by
  refine congrArg Host.Outcome.next ?_
  split
  · next due => exact absurd due other
  · rfl

/-- A stale result is unordered (R95). -/
theorem orderedAverage_of_stale {n : Nat} {record : SenseRec} {r : ResultRec}
    (channel : s.sense.channels[n]? = some record) (result : s.sense.results[n]? = some r) (present : r.present = true)
    (stale : Config.ms record.staleness ≤ r.age) : orderedAverage n s = none := by
  refine Option.eq_none_iff_forall_ne_some.2 fun v ordered => ?_
  obtain ⟨record', r', channel', result', _, _, fresh, _⟩ := orderedAverage_eq_some_iff.1 ordered
  obtain rfl := Option.some.inj (channel.symm.trans channel')
  obtain rfl := Option.some.inj (result.symm.trans result')
  exact absurd (fresh present) (Nat.not_lt.2 stale)

end Sys2Proof.Machine

namespace Sys2Proof.Proofs
open Sys2Proof Sys2Proof.Machine

/-- Settles O40: the delay's end, an edge by the conversion it meets, staleness, and the odometer edge counted. -/
theorem scanEventsAct : Obligations.ScanEventsAct := by
  refine fun s c => ⟨fun record due entry enabled lowest => ?begins, fun due none => ?waits,
    execStartDelayExpiry_of_not_due, fun k converting => ?edge,
    fun none => ⟨congrArg Host.Outcome.next (senseEdge_of_no_conversion none c), execInputGateOpen_of_no_conversion none⟩,
    rfl, fun record r channel result => ⟨orderedAverage_of_stale channel result, fun present fresh there valid =>
      orderedAverage_eq_some_iff.2 ⟨record, r, channel, result, there, valid, fun _ => fresh, rfl⟩⟩,
    ⟨_, rfl, senseEdge_scan_only _ s, rfl⟩⟩
  case begins =>
    rw [execStartDelayExpiry_of_due due, beginLowest_of_lowest entry enabled lowest]
    rfl
  case waits =>
    rw [execStartDelayExpiry_of_due due, beginLowest_of_none none]
    rfl
  case edge =>
    have edge (mine : k.channel = c) : exec (.senseInputEdge c) s = .next (setScan (.converting (countEdge k)) s) :=
      congrArg Host.Outcome.next (senseEdge_of_channel converting mine)
    refine ⟨fun other => congrArg Host.Outcome.next (senseEdge_of_other converting other), fun mine mode opened => ?_,
      fun mine mode closed => ?_, fun mine mode opened => ?_, fun mine mode closed => ?_, fun mode closed => ?_,
      execInputGateOpen_of_not_closed converting⟩
    · rw [edge mine, countEdge_refGate mode, opened]
      rfl
    · rw [edge mine, countEdge_refGate mode, closed, if_neg Bool.false_ne_true, ← converting]
      rfl
    · rw [edge mine, countEdge_inputGate mode, opened]
      rfl
    · rw [edge mine, execInputGateOpen_of_closed converting mode closed]
    · rw [execInputGateOpen_of_closed converting mode closed, countEdge_inputGate mode, closed]
      rfl

end Sys2Proof.Proofs

/-! The ends of a conversion (R87, R89 to R96): the limits evaluated at a result, the route engine's report, whose
outcome no limit can change, the noise targets, and the scan's choice. -/

namespace Sys2Proof.Machine

variable {s t m : State} {c i n : Nat} {completed defer : Bool} {r : ResultRec}

/-! ### The limits at a result (R96 step 3, R98, R99) -/

theorem limitInput_eq_some_iff {x : Limit} {v : Nat} : limitInput c completed r x = some v ↔ limitReads x c completed r v := by
  rw [limitInput, limitReads]
  cases used : x.inUse
  case false => simp
  case true =>
    by_cases channel : x.channel = c
    case neg => simp [channel]
    case pos => cases source : x.source <;> simp [channel, and_assoc, eq_comm (a := v)]

/-- The evaluation of the limits follows R98 and R99, limit by limit. -/
theorem evaluateLimits_spec (defer : Bool) (c : Nat) (completed : Bool) (r : ResultRec) (list : List Nat) (s : State)
    (kept : List AnnRequest) : ∃ m asks, LimitPass defer c completed r list s m asks ∧
      evaluateLimits defer c completed r list s kept = (m, kept ++ asks) := by
  induction list generalizing s kept with
  | nil => exact ⟨s, [], .done s, by rw [evaluateLimits, List.append_nil]⟩
  | cons i rest ih =>
    cases input : (s.sense.limits[i]?).bind (limitInput c completed r) with
    | none =>
      obtain ⟨m, asks, pass, eq⟩ := ih s kept
      refine ⟨m, asks, .stays (fun x v entry reads => ?_) pass, by rw [evaluateLimits, input]; exact eq⟩
      rw [entry, Option.bind_some, limitInput_eq_some_iff.2 reads] at input
      exact nomatch input
    | some v =>
      obtain ⟨x, entry, reads⟩ := Option.bind_eq_some_iff.1 input
      have reads := limitInput_eq_some_iff.1 reads
      have step : evaluateLimits defer c completed r (i :: rest) s kept =
          evaluateLimits defer c completed r rest (evaluateLimit defer i v s).1 (kept ++ (evaluateLimit defer i v s).2) := by
        rw [evaluateLimits, input]
      have only {w : Nat} {y : Limit} (entry' : s.sense.limits[i]? = some y) (reads' : limitReads y c completed r w) :
          y = x ∧ w = v := by
        obtain rfl := Option.some.inj (entry'.symm.trans entry)
        exact ⟨rfl, Option.some.inj ((limitInput_eq_some_iff.2 reads').symm.trans (limitInput_eq_some_iff.2 reads))⟩
      rw [step]
      cases trip : trips x v with
      | true =>
        rw [evaluateLimit_of_trips entry trip]
        cases defer with
        | true =>
          obtain ⟨m, asks, pass, eq⟩ := ih (tripLimit i v s) (kept ++ limitAsks i x.action)
          exact ⟨m, _, .tripped entry reads trip (tripLimit_changes entry) pass, by
            rw [if_pos rfl, if_pos rfl, eq, List.append_assoc]⟩
        | false =>
          obtain ⟨m, asks, pass, eq⟩ := ih (announceAll (limitAsks i x.action) (tripLimit i v s)) kept
          refine ⟨m, _, .tripped entry reads trip (tripLimit_changes entry) (announceAll_eq_foldl _ _ ▸ pass), ?_⟩
          rw [if_neg Bool.false_ne_true, if_neg Bool.false_ne_true, List.append_nil, eq]
          rfl
      | false =>
        cases clear : clears x v with
        | true =>
          rw [evaluateLimit_of_clears entry trip clear, List.append_nil]
          obtain ⟨m, asks, pass, eq⟩ := ih (clearLimit i s) kept
          exact ⟨m, asks, .cleared entry reads trip clear (clearLimit_of_tripped entry (tripped_of_clears clear) v) pass,
            eq⟩
        | false =>
          rw [evaluateLimit_of_stays entry trip clear, List.append_nil]
          obtain ⟨m, asks, pass, eq⟩ := ih s kept
          refine ⟨m, asks, .stays (fun y w entry' reads' => ?_) pass, eq⟩
          obtain ⟨rfl, rfl⟩ := only entry' reads'
          exact ⟨trip, clear⟩

/-- `m` is `s` after changes that limits make: of the sense unit the limits and the selection alone change, the rest of
the device as announcements change it. -/
structure LimitsFrame (s m : State) : Prop where
  sense : m.sense = { s.sense with limits := m.sense.limits, selection := m.sense.selection }
  path : PathFrame { s with sense := m.sense } m
  grant : GrantOnly s m

namespace LimitsFrame

theorem refl (s : State) : LimitsFrame s s := ⟨rfl, .refl s, .refl s⟩

theorem trans {u : State} (h : LimitsFrame s t) (k : LimitsFrame t u) : LimitsFrame s u where
  sense := by rw [k.sense, h.sense]
  path := by
    have first : PathFrame { s with sense := u.sense } { t with sense := u.sense } :=
      ⟨h.path.link, h.path.playout, h.path.seats, h.path.lines, rfl, h.path.route, h.path.report, h.path.clockPhase,
        h.path.pending, h.path.requests, h.path.replies, h.path.mix⟩
    exact first.trans k.path
  grant := h.grant.trans k.grant

theorem of_path (path : PathFrame s t) (grant : GrantOnly s t) : LimitsFrame s t where
  sense := by rw [path.sense]
  path := by
    have same : { s with sense := t.sense } = s := by rw [path.sense]
    rwa [same]
  grant := grant

theorem of_limitChanges {v : Nat} {x : Limit} {now : Bool} (h : limitChanges i v x now s t) : LimitsFrame s t := by
  obtain ⟨sense, manage, _, _, frame⟩ := h _ rfl
  have noticed := notify_pathFrame s (if now then .limitTripped i v else .limitCleared i)
  refine ⟨by rw [sense], ?_, .of_same (by rw [frame])⟩
  exact ⟨by rw [frame], by rw [frame], by rw [frame], by rw [frame], rfl, by rw [frame], by rw [frame], by rw [frame],
    by rw [frame], (congrArg Management.requests manage).trans noticed.requests,
    (congrArg Management.replies manage).trans noticed.replies, by rw [frame]⟩

theorem foldl_announceRequest (l : List AnnRequest) (s : State) :
    LimitsFrame s (l.foldl (fun w q => announceRequest q w) s) :=
  of_path (announceAll_eq_foldl s l ▸ announceAll_pathFrame s l) (.foldl_announceRequest l s)

theorem of_pass {list : List Nat} {asks : List AnnRequest} (h : LimitPass defer c completed r list s m asks) :
    LimitsFrame s m := by
  induction h with
  | done s => exact refl s
  | stays _ _ ih => exact ih
  | tripped _ _ _ changes _ ih =>
    refine (of_limitChanges changes).trans (.trans ?_ ih)
    split
    · exact refl _
    · exact foldl_announceRequest _ _
  | cleared _ _ _ _ changes _ ih => exact (of_limitChanges changes).trans ih

end LimitsFrame

/-- A limit after its evaluation on what it reads (R98). -/
def LimitEvaluated (c : Nat) (completed : Bool) (r : ResultRec) (x y : Limit) : Prop :=
  (∀ v, limitReads x c completed r v →
    y = { x with tripped := if trips x v then true else if clears x v then false else x.tripped }) ∧
  ((∀ v, ¬ limitReads x c completed r v) → y = x)

theorem limitReads_unique {x : Limit} {v w : Nat} (h : limitReads x c completed r v) (k : limitReads x c completed r w) :
    v = w :=
  Option.some.inj ((limitInput_eq_some_iff.2 h).symm.trans (limitInput_eq_some_iff.2 k))

theorem limitChanges_limits {v : Nat} {x : Limit} {now : Bool} (h : limitChanges i v x now s t) :
    t.sense.limits = s.sense.limits.set i { x with tripped := now } := congrArg Sense.limits (h _ rfl).1

theorem set_of_getElem? {α : Type} {l : List α} {x : α} (entry : l[i]? = some x) : l.set i x = l := by
  obtain ⟨inside, rfl⟩ := List.getElem?_eq_some_iff.1 entry
  exact List.set_getElem_self inside

/-- `m` is `s` with the limits of `list` evaluated, every other limit as it was. -/
def LimitsEvaluated (c : Nat) (completed : Bool) (r : ResultRec) (list : List Nat) (s m : State) : Prop :=
  ∀ (j : Nat) (x : Limit), s.sense.limits[j]? = some x → (j ∉ list → m.sense.limits[j]? = some x) ∧
    (j ∈ list → ∃ y, m.sense.limits[j]? = some y ∧ LimitEvaluated c completed r x y)

/-- One limit is evaluated, and then the others. -/
theorem LimitsEvaluated.cons {rest : List Nat} {u : State} {x y : Limit} (entry : s.sense.limits[i]? = some x)
    (evaluated : LimitEvaluated c completed r x y) (limits : u.sense.limits = s.sense.limits.set i y)
    (away : i ∉ rest) (h : LimitsEvaluated c completed r rest u m) : LimitsEvaluated c completed r (i :: rest) s m := by
  intro j z entry_j
  by_cases same : i = j
  · subst same
    obtain rfl := Option.some.inj (entry.symm.trans entry_j)
    have written : u.sense.limits[i]? = some y := by
      rw [limits, List.getElem?_set_self (List.getElem?_eq_some_iff.1 entry).1]
    exact ⟨fun out => absurd (List.mem_cons_self ..) out, fun _ => ⟨y, (h i y written).1 away, evaluated⟩⟩
  · have kept : u.sense.limits[j]? = some z := by rwa [limits, List.getElem?_set_ne same]
    obtain ⟨outside, inside⟩ := h j z kept
    exact ⟨fun out => outside fun mem => out (List.mem_cons_of_mem _ mem),
      fun mem => inside ((List.mem_cons.1 mem).resolve_left (Ne.symm same))⟩

/-- Each limit of the list is evaluated once, and every other limit stays. -/
theorem LimitPass.limits {list : List Nat} {asks : List AnnRequest} (h : LimitPass defer c completed r list s m asks)
    (once : list.Nodup) : LimitsEvaluated c completed r list s m := by
  have evaluated {x : Limit} {v : Nat} {now : Bool} (reads : limitReads x c completed r v)
      (tripped : now = if trips x v then true else if clears x v then false else x.tripped) :
      LimitEvaluated c completed r x { x with tripped := now } :=
    ⟨fun w reads' => by rw [← limitReads_unique reads reads', tripped], fun none => absurd reads (none v)⟩
  induction h with
  | done s => exact fun j x entry => ⟨fun _ => entry, fun mem => nomatch mem⟩
  | @stays i rest s t asks still _ ih =>
    obtain ⟨away, later⟩ := List.nodup_cons.1 once
    intro j z entry_j
    by_cases same : i = j
    · subst same
      refine LimitsEvaluated.cons entry_j ⟨fun v reads => ?_, fun _ => rfl⟩
        (set_of_getElem? entry_j).symm away (ih later) i z entry_j
      obtain ⟨trip, clear⟩ := still z v entry_j reads
      rw [trip, clear]
      rfl
    · obtain ⟨outside, inside⟩ := ih later j z entry_j
      exact ⟨fun out => outside fun mem => out (List.mem_cons_of_mem _ mem),
        fun mem => inside ((List.mem_cons.1 mem).resolve_left (Ne.symm same))⟩
  | @tripped i rest s u t asks x v entry reads trip changes _ ih =>
    obtain ⟨away, later⟩ := List.nodup_cons.1 once
    refine LimitsEvaluated.cons entry (evaluated (now := true) reads (by rw [trip]; rfl)) ?_ away (ih later)
    rw [← limitChanges_limits changes]
    split
    · rfl
    · rw [← announceAll_eq_foldl, (announceAll_pathFrame _ _).sense]
  | @cleared i rest s u t asks x v entry reads trip clear changes _ ih =>
    obtain ⟨away, later⟩ := List.nodup_cons.1 once
    exact LimitsEvaluated.cons entry (evaluated (now := false) reads (by rw [trip, clear]; rfl)) (limitChanges_limits changes) away
      (ih later)

/-! ### The route engine's report (R114): what it depends on -/

/-- `s` and `t` put the same questions to the route engine: one route, one set of ordered values, and one answer to the
serve test (R110, R126). -/
structure SameQuestions (s t : State) : Prop where
  route : t.route = s.route
  channels : t.sense.channels = s.sense.channels
  results : t.sense.results = s.sense.results
  link : t.link = s.link
  playout : t.playout = s.playout
  live : t.segment.live = .off ↔ s.segment.live = .off

namespace SameQuestions

theorem cueAt (h : SameQuestions s t) (i : Nat) : cueAt t i = cueAt s i := by rw [Machine.cueAt, Machine.cueAt, h.route]

theorem orderedAverage (h : SameQuestions s t) (n : Nat) : orderedAverage n t = orderedAverage n s := by
  rw [Machine.orderedAverage, Machine.orderedAverage, channelRecord, channelRecord, resultRecord, resultRecord,
    h.channels, h.results]

theorem conditionTrue (h : SameQuestions s t) (x : Cue) : conditionTrue x t = conditionTrue x s := by
  rw [Machine.conditionTrue, Machine.conditionTrue, h.orderedAverage]

theorem canServe (h : SameQuestions s t) (x : Cue) : canServe x t = canServe x s := by
  simp only [Machine.canServe, h.link, h.playout, decide_eq_decide.2 h.live]

end SameQuestions

theorem stopIs_congr (same : t.route = s.route) (n : Nat) : stopIs n t = stopIs n s := by rw [stopIs, stopIs, same]

/-- What a cue's action does to the route: a STOP-ARRIVAL cue clears the requested stop it reaches (R116, R121). -/
theorem cueAction_route (i : Nat) (x : Cue) (s : State) : (cueAction i x s).route =
    if CueKind.ofCode x.kind = some .stopArrival ∧ stopIs x.stop s = true then { s.route with requested := none }
    else s.route := by
  unfold cueAction
  split
  · next kind => rw [if_neg (by rw [kind]; exact fun h => nomatch h.1)]; rfl
  · next kind => rw [(announceRequest_pathFrame s _).route, if_neg (by rw [kind]; exact fun h => nomatch h.1)]
  · next kind =>
    rw [kind]
    dsimp only
    have reached : State.route (if stopIs x.stop s then notify (.stopReached x.stop) (clearStop s) else s) =
        if some CueKind.stopArrival = some .stopArrival ∧ stopIs x.stop s = true then { s.route with requested := none }
        else s.route := by
      cases stopIs x.stop s with
      | true => exact (notify_pathFrame _ _).route
      | false => rfl
    split
    · exact reached
    · rw [(announceRequest_pathFrame _ _).route]
      exact reached
  · next kind => rw [(announceRequest_pathFrame s _).route, if_neg (by rw [kind]; exact fun h => nomatch h.1)]
  · next kind => rw [(setCueScene_pathFrame s _).route, if_neg (by rw [kind]; exact fun h => nomatch h.1)]
  · next kind => rw [if_neg (by rw [kind]; exact fun h => nomatch h.1)]
  · next kind => rw [if_neg (by rw [kind]; exact fun h => nomatch h.1)]

theorem cueAction_live_off (i : Nat) (x : Cue) (s : State) :
    (cueAction i x s).segment.live = .off ↔ s.segment.live = .off := by
  unfold cueAction
  split
  · exact Iff.rfl
  · exact (GrantOnly.announceRequest _ s).live_off
  · dsimp only
    have reached : State.segment (if stopIs x.stop s then notify (.stopReached x.stop) (clearStop s) else s) = s.segment := by
      split
      · exact notify_segment _ _
      · rfl
    split
    · rw [reached]
    · rw [(GrantOnly.announceRequest _ _).live_off, reached]
  · exact (GrantOnly.announceRequest _ s).live_off
  · unfold setCueScene
    split <;> exact Iff.rfl
  · exact Iff.rfl
  · exact Iff.rfl

namespace SameQuestions

theorem fireCue (h : SameQuestions s t) (i : Nat) : SameQuestions (fireCue i s) (fireCue i t) := by
  have frame_s := fireCue_routeFrame s i
  have frame_t := fireCue_routeFrame t i
  have live (u : State) : (Machine.fireCue i u).segment.live = .off ↔ u.segment.live = .off := by
    rw [Machine.fireCue, cueAction_live_off, notify_segment]
    exact Iff.rfl
  refine ⟨?_, ?_, ?_, frame_t.link.trans (h.link.trans frame_s.link.symm),
    frame_t.playout.trans (h.playout.trans frame_s.playout.symm), (live t).trans (h.live.trans (live s).symm)⟩
  · have marked : (notify (.cueFired i (Machine.cueAt t i).kind (position t)) (leaveList i (setCueState i .fired t))).route =
        (notify (.cueFired i (Machine.cueAt s i).kind (position s)) (leaveList i (setCueState i .fired s))).route := by
      rw [(notify_pathFrame _ _).route, (notify_pathFrame _ _).route]
      simp only [leaveList, Machine.setCueState, setCue, h.route]
    rw [Machine.fireCue, Machine.fireCue, cueAction_route, cueAction_route, marked, stopIs_congr marked, h.cueAt i]
  · rw [frame_t.sense, frame_s.sense, h.channels]
  · rw [frame_t.sense, frame_s.sense, h.results]

theorem setCueState (h : SameQuestions s t) (i : Nat) (x : CueState) :
    SameQuestions (setCueState i x s) (setCueState i x t) := by
  refine ⟨?_, h.channels, h.results, h.link, h.playout, h.live⟩
  simp only [Machine.setCueState, setCue, h.route]

theorem evaluatePending (h : SameQuestions s t) (i : Nat) (used : Bool) :
    SameQuestions (evaluatePending i s used).1 (evaluatePending i t used).1 ∧
      (Machine.evaluatePending i t used).2 = (Machine.evaluatePending i s used).2 := by
  rw [Machine.evaluatePending, Machine.evaluatePending, h.cueAt i, h.conditionTrue, h.canServe]
  split
  · split
    · split
      · exact ⟨h.fireCue i, rfl⟩
      · exact ⟨h.setCueState i _, rfl⟩
    · exact ⟨h.fireCue i, rfl⟩
  · exact ⟨h, rfl⟩

theorem resultPass (h : SameQuestions s t) (c : Nat) (list : List Nat) (used : Bool) :
    SameQuestions (resultPass c list s used) (resultPass c list t used) := by
  induction list generalizing s t used with
  | nil => exact h
  | cons i rest ih =>
    rw [Machine.resultPass, Machine.resultPass, h.cueAt i]
    dsimp only
    split
    · obtain ⟨same, mark⟩ := h.evaluatePending i used
      rw [mark]
      exact ih same _
    · exact ih h used

theorem resultReport (h : SameQuestions s t) (c : Nat) : SameQuestions (resultReport c s) (resultReport c t) := by
  rw [Machine.resultReport, Machine.resultReport, h.route]
  split
  · exact h.resultPass c _ _
  · exact h

end SameQuestions

theorem resultReport_sameRun (c : Nat) (s : State) : SameRun s (resultReport c s) := by
  have pass (list : List Nat) (u : State) (used : Bool) : SameRun u (resultPass c list u used) := by
    induction list generalizing u used with
    | nil => exact .refl u
    | cons i rest ih =>
      rw [resultPass]
      dsimp only
      split
      · rcases evaluatePending_cases i u used with ⟨_, eq⟩ | ⟨_, after, _, eq⟩ | ⟨_, _, eq⟩
        · rw [eq]
          exact ih u used
        · rw [eq]
          exact (SameRun.fireCue i u).trans (ih _ _)
        · rw [eq]
          exact (SameRun.setCueState i (by decide) u).trans (ih _ _)
      · exact ih u used
  unfold resultReport
  split
  · exact pass _ _ _
  · exact .refl s

/-! ### The noise targets (R40) -/

/-- A completed, valid average of channel `n` sets the targets of the zones whose source it is (R40). -/
def targetsSet (n : Nat) (completed : Bool) (r : ResultRec) (m : MixEngine) : List Zone :=
  m.zones.map fun z =>
    if completed = true ∧ r.avgValid = true ∧ z.source.map sourceChannel = some n then
      { z with target := bandOffset r.avgValue m.bands } else z

theorem noiseReport_eq (d : SenseChan) (completed : Bool) (r : ResultRec) (s : State) :
    (if completed && (d = .nfwd || d = .naft) then noiseReport (chanNumber d) r.avgValid r.avgValue s else s) =
      { s with mix := { s.mix with zones := targetsSet (chanNumber d) completed r s.mix } } := by
  have none_set (none : ∀ z : Zone, ¬ (completed = true ∧ r.avgValid = true ∧
      z.source.map sourceChannel = some (chanNumber d))) : targetsSet (chanNumber d) completed r s.mix = s.mix.zones := by
    rw [targetsSet, funext fun z => if_neg (none z)]
    exact List.map_id _
  by_cases reports : (completed && (d = .nfwd || d = .naft)) = true
  · obtain ⟨done, _⟩ := Bool.and_eq_true_iff.1 reports
    rw [if_pos reports, noiseReport]
    split
    · next valid =>
      rw [targetsSet, done, valid]
      simp only [true_and]
      rfl
    · next invalid => rw [none_set fun z h => invalid h.2.1]
  · rw [if_neg reports, none_set]
    rintro z ⟨done, _, source⟩
    refine reports ?_
    rw [done]
    cases named : z.source with
    | none => simp [named] at source
    | some x => cases x <;> cases d <;> simp_all [sourceChannel, chanNumber]

/-! ### The end of a conversion (R87, R96) -/

/-- What a conversion's end depends on: the outcome is stored, the limits are evaluated, the route engine has the
report, the announcements kept are sent, the targets are set, and the scan chooses. -/
theorem endConversion_eq {k : Conversion} {record : SenseRec} (o : Outcome) (cuesFirst : Bool)
    (channel : s.sense.channels[chanNumber k.channel]? = some record) {r : ResultRec} {completed : Bool}
    (stored : storeResult record.averaging o (resultRecord s (chanNumber k.channel)) = (r, completed)) :
    ∃ m asks, LimitPass cuesFirst (chanNumber k.channel) completed r (List.range 8)
        (setResult (chanNumber k.channel) (fun _ => r) s) m asks ∧
      ∃ w, w = asks.foldl (fun u q => announceRequest q u) (resultReport (chanNumber k.channel) m) ∧
        endConversion k.channel o cuesFirst s = chooseNext k.channel
          { w with mix := { w.mix with zones := targetsSet (chanNumber k.channel) completed r w.mix } } := by
  have first : r = (storeResult record.averaging o (resultRecord s (chanNumber k.channel))).1 := by rw [stored]
  have second : completed = (storeResult record.averaging o (resultRecord s (chanNumber k.channel))).2 := by rw [stored]
  subst first second
  obtain ⟨m, asks, pass, eq⟩ := evaluateLimits_spec cuesFirst (chanNumber k.channel) _ _ (List.range 8)
    (setResult (chanNumber k.channel) (fun _ => (storeResult record.averaging o (resultRecord s (chanNumber k.channel))).1)
      s) []
  refine ⟨m, asks, pass, _, rfl, ?_⟩
  rw [endConversion, takeResult, channelRecord, channel]
  dsimp only [Option.map_some, Option.getD_some]
  rw [eq, List.nil_append, ← announceAll_eq_foldl]
  exact congrArg _ (noiseReport_eq _ _ _ _)

/-- The scan's choice, in a state with the same channels and mode. -/
theorem scanGoesOn.transfer {d : SenseChan} {u : State} (h : scanGoesOn d s t)
    (channels : u.sense.channels = s.sense.channels) (mode : u.sense.mode = s.sense.mode) :
    scanGoesOn d u { u with sense := { u.sense with scan := t.sense.scan } } := by
  obtain ⟨_, next, wraps⟩ := h
  refine ⟨rfl, fun e record above entry enabled lowest => next e record above (channels ▸ entry) enabled
    (channels ▸ lowest), fun none => ?_⟩
  obtain ⟨single, continuous⟩ := wraps (channels ▸ none)
  refine ⟨fun is => single (mode ▸ is), fun is => ?_⟩
  obtain ⟨begins, waits⟩ := continuous (mode ▸ is)
  exact ⟨fun e record entry enabled lowest => begins e record (channels ▸ entry) enabled (channels ▸ lowest),
    fun empty => waits (channels ▸ empty)⟩

/-- A conversion ends as R87, R93, R94 and R96 say, once its reference record is set. -/
theorem endConversion_ends {k : Conversion} {record : SenseRec} {u : State} {refGate inputGate : RefRecord} (o : Outcome)
    (cuesFirst : Bool) (channel : s.sense.channels[chanNumber k.channel]? = some record)
    (noted : u = { s with sense := { s.sense with refGateRecord := refGate, inputGateRecord := inputGate } }) :
    conversionEnds s k cuesFirst record.averaging o refGate inputGate
      (.next (endConversion k.channel o cuesFirst u)) := by
  subst noted
  obtain ⟨r, completed, stored⟩ : ∃ r completed,
    storeResult record.averaging o (resultRecord s (chanNumber k.channel)) = (r, completed) := ⟨_, _, rfl⟩
  obtain ⟨m, asks, pass, w, sent, ended⟩ := endConversion_eq (s := { s with sense := { s.sense with
    refGateRecord := refGate, inputGateRecord := inputGate } }) o cuesFirst channel stored
  have limits := LimitsFrame.of_pass pass
  have reported := resultReport_routeFrame m (chanNumber k.channel)
  have announced : PathFrame (resultReport (chanNumber k.channel) m) w := by
    rw [sent, ← announceAll_eq_foldl]
    exact announceAll_pathFrame _ _
  have w_sense : w.sense = m.sense := announced.sense.trans reported.sense
  have w_mix : w.mix = { s.mix with generator := w.mix.generator } := by
    rw [announced.mix, reported.mix, limits.path.mix]
    rfl
  have goesOn := chooseNext_goesOn k.channel
    { w with mix := { w.mix with zones := targetsSet (chanNumber k.channel) completed r w.mix } }
  rw [← ended] at goesOn
  have t_eq := goesOn.1
  generalize endConversion k.channel o cuesFirst _ = t at t_eq goesOn ⊢
  obtain ⟨scan, at_scan⟩ : ∃ scan, scan = t.sense.scan := ⟨_, rfl⟩
  rw [← at_scan] at t_eq
  have t_sense : t.sense = { m.sense with scan := scan } := by rw [t_eq, ← w_sense]
  have t_results : t.sense.results = s.sense.results.modify (chanNumber k.channel) fun _ => r := by
    rw [t_sense, limits.sense]
    rfl
  have questions : SameQuestions { s with sense := { s.sense with results := t.sense.results } } m := by
    refine ⟨limits.path.route, ?_, ?_, limits.path.link, limits.path.playout, limits.grant.live_off⟩
    · rw [limits.sense]
      rfl
    · rw [limits.sense, t_results]
      rfl
  have t_route : t.route = w.route := by rw [t_eq]
  have t_mix : t.mix = { w.mix with zones := targetsSet (chanNumber k.channel) completed r w.mix } := by rw [t_eq]
  have kept {α : Type} (f : State → α) (same : f t = f w) (sent : f w = f (resultReport (chanNumber k.channel) m))
      (told : f (resultReport (chanNumber k.channel) m) = f m) (judged : f m = f s) : f t = f s :=
    same.trans (sent.trans (told.trans judged))
  refine ⟨t, rfl, ?results, ?route, fun r' completed' pair => ⟨?zones, ?sequel, ?limits⟩, ?channels, ?mode, ?scan, ?refGate,
    ?inputGate, ?rest⟩
  case results => rw [t_results, stored]
  case route => exact t_route.trans (announced.route.trans (questions.resultReport _).route)
  case zones =>
    obtain ⟨rfl, rfl⟩ := Prod.mk.inj (pair.trans stored)
    rw [t_mix, w_mix]
    rfl
  case sequel =>
    obtain ⟨rfl, rfl⟩ := Prod.mk.inj (pair.trans stored)
    refine ⟨m, asks, w, ?_, sent, ?_⟩
    · rw [t_results]
      exact pass
    · rw [← at_scan, t_mix]
      exact t_eq
  case limits =>
    obtain ⟨rfl, rfl⟩ := Prod.mk.inj (pair.trans stored)
    intro i x inside entry
    rw [t_sense]
    exact (pass.limits List.nodup_range i x entry).2 (List.mem_range.2 inside)
  case channels =>
    rw [t_sense, limits.sense]
    rfl
  case mode =>
    rw [t_sense, limits.sense]
    rfl
  case scan =>
    refine ⟨_, goesOn.transfer (u := s) ?_ ?_, rfl⟩
    · change s.sense.channels = w.sense.channels
      rw [w_sense, limits.sense]
      rfl
    · change s.sense.mode = w.sense.mode
      rw [w_sense, limits.sense]
      rfl
  case refGate =>
    rw [t_sense, limits.sense]
    rfl
  case inputGate =>
    rw [t_sense, limits.sense]
    rfl
  case rest =>
    refine ⟨kept State.link (by rw [t_eq]) announced.link reported.link limits.path.link,
      kept State.playout (by rw [t_eq]) announced.playout reported.playout limits.path.playout,
      kept State.seats (by rw [t_eq]) announced.seats reported.seats limits.path.seats,
      kept State.lines (by rw [t_eq]) announced.lines reported.lines limits.path.lines,
      kept State.report (by rw [t_eq]) announced.report reported.report limits.path.report,
      kept (fun u => u.route.distance) (by rw [t_eq]) (congrArg Route.distance announced.route)
        (resultReport_sameRun _ m).distance (congrArg Route.distance limits.path.route),
      kept (fun u => u.manage.requests) (by rw [t_eq]) announced.requests reported.requests limits.path.requests,
      kept (fun u => u.manage.replies) (by rw [t_eq]) announced.replies reported.replies limits.path.replies⟩

/-! ### The three ends of a conversion (R89, R90, R92) -/

/-- The reference record of a conversion's own gate mode is set on LREF, and no other (R92). -/
theorem noteReference_refGate {k : Conversion} (mode : k.settings.gateMode = .refGate) (x : RefRecord) (s : State) :
    noteReference k x s = { s with sense := { s.sense with
      refGateRecord := if k.channel = .lref then x else s.sense.refGateRecord
      inputGateRecord := s.sense.inputGateRecord } } := by
  unfold noteReference
  split
  · rw [mode]
    rfl
  · rfl

theorem noteReference_inputGate {k : Conversion} (mode : k.settings.gateMode = .inputGate) (x : RefRecord) (s : State) :
    noteReference k x s = { s with sense := { s.sense with
      refGateRecord := s.sense.refGateRecord
      inputGateRecord := if k.channel = .lref then x else s.sense.inputGateRecord } } := by
  unfold noteReference
  split
  · rw [mode]
    rfl
  · rfl

section
variable {k : Conversion} {cuesFirst : Bool}

theorem closeRefGate_of_no_conversion (none : ∀ k, s.sense.scan ≠ .converting k) : closeRefGate cuesFirst s = s := by
  unfold closeRefGate
  split
  · next k converting => exact absurd converting (none k)
  · rfl

theorem reachWaitLimit_of_no_conversion (none : ∀ k, s.sense.scan ≠ .converting k) : reachWaitLimit cuesFirst s = s := by
  unfold reachWaitLimit
  split
  · next k converting => exact absurd converting (none k)
  · rfl

theorem closeInputGate_of_no_conversion (none : ∀ k, s.sense.scan ≠ .converting k) (n : Nat) :
    closeInputGate n cuesFirst s = s := by
  unfold closeInputGate
  split
  · next k converting => exact absurd converting (none k)
  · rfl

variable (converting : s.sense.scan = .converting k)
include converting

theorem closeRefGate_of_due (due : refGateDue k = true) : closeRefGate cuesFirst s =
    endConversion k.channel (refGateResult k s) cuesFirst
      (noteReference k (.counts k.edges k.settings.gateLength) s) := by
  rw [closeRefGate, converting]
  exact if_pos due

theorem closeRefGate_of_not_due (early : ¬ refGateDue k = true) : closeRefGate cuesFirst s = s := by
  rw [closeRefGate, converting]
  exact if_neg early

theorem reachWaitLimit_of_due (due : waitLimitDue k = true) : reachWaitLimit cuesFirst s = timeOut k cuesFirst s := by
  rw [reachWaitLimit, converting]
  exact if_pos due

theorem reachWaitLimit_of_not_due (early : ¬ waitLimitDue k = true) : reachWaitLimit cuesFirst s = s := by
  rw [reachWaitLimit, converting]
  exact if_neg early

theorem closeInputGate_of_refGate (mode : k.settings.gateMode = .refGate) (n : Nat) : closeInputGate n cuesFirst s = s := by
  rw [closeInputGate, converting]
  dsimp only
  rw [mode]

theorem closeInputGate_of_closed (mode : k.settings.gateMode = .inputGate) (closed : k.gateOpen = false) (n : Nat) :
    closeInputGate n cuesFirst s = s := by
  rw [closeInputGate, converting]
  dsimp only
  rw [mode]
  exact if_neg (by rw [closed]; exact Bool.false_ne_true)

/-- A close of an open INPUT-GATE gives the result of its ticks, or comes too late (R90). -/
theorem closeInputGate_of_open (mode : k.settings.gateMode = .inputGate) (opened : k.gateOpen = true) (n : Nat) :
    closeInputGate n cuesFirst s = if k.settings.waitLimit < k.waited + n then timeOut k cuesFirst s
      else endConversion k.channel (inputGateResult k (k.ticks + n) s) cuesFirst
        (noteReference k (.counts k.settings.edgeCount (max (k.ticks + n) 1)) s) := by
  rw [closeInputGate, converting]
  dsimp only
  rw [mode]
  exact if_pos opened

end

end Sys2Proof.Machine

namespace Sys2Proof.Proofs
open Sys2Proof Sys2Proof.Machine

/-- Settles O41: the three rows by the conversion they find, each end by `endConversion_ends`. -/
theorem conversionsStoreResults : Obligations.ConversionsStoreResults := by
  refine fun s cuesFirst => ⟨fun none => ⟨congrArg Host.Outcome.next (closeRefGate_of_no_conversion none),
    congrArg Host.Outcome.next (reachWaitLimit_of_no_conversion none),
    fun n => congrArg Host.Outcome.next (closeInputGate_of_no_conversion none n)⟩,
    fun k record converting channel => ⟨fun mode => ?refGate, fun mode => ?inputGate⟩⟩
  case refGate =>
    refine ⟨fun opened due => ?_, fun early => congrArg Host.Outcome.next (closeRefGate_of_not_due converting ?_),
      congrArg Host.Outcome.next (reachWaitLimit_of_not_due converting ?_),
      fun n => congrArg Host.Outcome.next (closeInputGate_of_refGate converting mode n)⟩
    · have ends := endConversion_ends (refGateResult k s) cuesFirst channel
        (noteReference_refGate mode (.counts k.edges k.settings.gateLength) s)
      rwa [← closeRefGate_of_due converting (by rw [refGateDue, mode, opened, decide_eq_true due]; rfl)] at ends
    · rw [refGateDue]
      rcases early with closed | early
      · simp [closed]
      · simp [Nat.not_le.2 early]
    · simp [waitLimitDue, mode]
  case inputGate =>
    have timedOut := endConversion_ends timedOutZero cuesFirst channel (noteReference_inputGate mode .zero s)
    refine ⟨fun due => ?_, fun early => congrArg Host.Outcome.next (reachWaitLimit_of_not_due converting ?_),
      congrArg Host.Outcome.next (closeRefGate_of_not_due converting ?_),
      fun closed n => congrArg Host.Outcome.next (closeInputGate_of_closed converting mode closed n),
      fun opened n => ⟨fun inTime => ?_, fun late => ?_⟩⟩
    · have row := reachWaitLimit_of_due (cuesFirst := cuesFirst) converting
        (by rw [waitLimitDue, mode, decide_eq_true due]; rfl)
      rw [timeOut] at row
      rwa [← row] at timedOut
    · simp [waitLimitDue, Nat.not_le.2 early]
    · simp [refGateDue, mode]
    · have ends := endConversion_ends (inputGateResult k (k.ticks + n) s) cuesFirst channel
        (noteReference_inputGate mode (.counts k.settings.edgeCount (max (k.ticks + n) 1)) s)
      have row := closeInputGate_of_open (cuesFirst := cuesFirst) converting mode opened n
      rw [if_neg (Nat.not_lt.2 inTime)] at row
      rwa [← row] at ends
    · have row := closeInputGate_of_open (cuesFirst := cuesFirst) converting mode opened n
      rw [if_pos late, timeOut] at row
      rwa [← row] at timedOut

end Sys2Proof.Proofs

/-! The seat lines (chapter 4). What a controller does to its line is a function of that line: the operations are
carried to a state whose line `l` and box `b` are written out (`putLine`, `putBox`), and the round and the end of a turn
are read off the line alone. -/

namespace Sys2Proof.Machine

variable {s t : State} {l b c m count : Nat} {x y : Line} {z : Box}

/-! ### One line and one box of a state -/

/-- `x` with box `b` replaced by `z`. -/
def putBox (b : Nat) (z : Box) (x : Line) : Line := { x with boxes := x.boxes.set b z }

theorem lineAt_of_entry (entry : s.lines.lines[l]? = some x) : lineAt s l = x := by
  rw [lineAt, List.getD_eq_getElem?_getD, entry, Option.getD_some]

theorem line_entry (inside : l < s.lines.lines.length) : s.lines.lines[l]? = some (lineAt s l) := by
  rw [lineAt, List.getD_eq_getElem _ _ inside, List.getElem?_eq_getElem inside]

theorem lineAt_putLine (inside : l < s.lines.lines.length) : lineAt (putLine l x s) l = x :=
  lineAt_of_entry (List.getElem?_set_self inside)

theorem lineAt_putLine_other (other : m ≠ l) : lineAt (putLine l x s) m = lineAt s m := by
  rw [lineAt, lineAt, List.getD_eq_getElem?_getD, List.getD_eq_getElem?_getD]
  exact congrArg (Option.getD · _) (List.getElem?_set_ne (Ne.symm other))

theorem setLine_putLine (inside : l < s.lines.lines.length) (f : Line → Line) :
    setLine l f (putLine l x s) = putLine l (f x) s := by
  have entry : (putLine l x s).lines.lines[l]? = some x := List.getElem?_set_self inside
  rw [setLine_of_entry f entry]
  simp only [putLine, List.set_set]

theorem putLine_self (inside : l < s.lines.lines.length) : putLine l (lineAt s l) s = s := by
  rw [← setLine_of_entry (fun _ => lineAt s l) (line_entry inside), setLine_of_same (line_entry inside) rfl]

theorem notify_putLine (n : Notice) : notify n (putLine l x s) = putLine l x (notify n s) := by
  unfold notify
  by_cases free : s.manage.notices.length < Config.noticeDepth
  · rw [if_pos free, if_pos (show (putLine l x s).manage.notices.length < Config.noticeDepth from free)]
    rfl
  · rw [if_neg free, if_neg (show ¬ (putLine l x s).manage.notices.length < Config.noticeDepth from free)]
    rfl

theorem otherLinesStay_putLine (lines : t.lines = s.lines) : otherLinesStay l s (putLine l x t) := by
  refine ⟨(congrArg SeatLines.held lines : t.lines.held = _), ?_, fun m other => ?_⟩
  · rw [← lines]
    exact List.length_set
  · rw [lineAt_putLine_other other, lineAt, lines, lineAt]

theorem boxAt_putLine (inside : l < s.lines.lines.length) : boxAt (putLine l x s) l b = x.boxes.getD b boxReset := by
  rw [boxAt, lineAt_putLine inside]

theorem putBox_box (here : b < x.boxes.length) : (putBox b z x).boxes.getD b boxReset = z := by
  rw [putBox, List.getD_eq_getElem?_getD, List.getElem?_set_self here, Option.getD_some]

theorem boxAt_putBox (inside : l < s.lines.lines.length) (here : b < x.boxes.length) :
    boxAt (putLine l (putBox b z x) s) l b = z := by
  rw [boxAt_putLine inside, putBox_box here]

theorem modify_putBox (here : b < x.boxes.length) (f : Box → Box) :
    (putBox b z x).boxes.modify b f = (putBox b (f z) x).boxes := by
  rw [List.modify_eq_set_getElem?, putBox, List.getElem?_set_self here]
  exact List.set_set ..

theorem setBox_putLine (inside : l < s.lines.lines.length) (here : b < x.boxes.length) (f : Box → Box) :
    setBox l b f (putLine l (putBox b z x) s) = putLine l (putBox b (f z) x) s := by
  rw [setBox, setLine_putLine inside, modify_putBox here]
  rfl

/-- Box `b` of line `l`, written out. -/
theorem putBox_self (here : b < x.boxes.length) : putBox b (x.boxes.getD b boxReset) x = x := by
  rw [putBox, List.getD_eq_getElem _ _ here, List.set_getElem_self]

theorem state_writtenOut (inside : l < s.lines.lines.length) (here : b < (lineAt s l).boxes.length) :
    putLine l (putBox b (boxAt s l b) (lineAt s l)) s = s := by
  rw [boxAt, putBox_self here, putLine_self inside]

/-! ### The poll round (R65, R66) -/

theorem isDue_iff {z : Box} : isDue z = true ↔ interval z.state ≤ z.rounds + 1 := by
  rw [isDue, decide_eq_true_iff]
  omega

theorem not_isDue_iff {z : Box} : isDue z = false ↔ z.rounds + 1 < interval z.state := by
  rw [← Bool.not_eq_true, isDue_iff, Nat.not_le]

theorem firstKind_eq (state : BoxState) : firstKind state = if state = .absent then .ident else .status := by
  cases state <;> rfl

/-- The transaction that the turn of a due box in state `state` begins with. -/
def firstTransaction (b : Nat) (state : BoxState) (x : Line) : Transaction :=
  { box := b, kind := firstKind state, mode := x.mode, turnState := state, sent := [headerChar b (firstKind state)]
    low := false }

/-- The line once its round's turns have ended. -/
def roundEnded (x : Line) : Line :=
  if x.roundLeft = 0 then { x with roundNext := 0, roundLeft := Config.roundTime, transaction := none }
  else { x with roundNext := 12, transaction := none }

/-- A box that has been passed (R65). -/
def passed (z : Box) : Box := { z with rounds := min (z.rounds + 1) 63 }

/-- The line once its round has gone on from address `b` for `count` addresses. -/
def servedLine : Nat → Nat → Line → Line
  | _, 0, x => roundEnded x
  | b, count + 1, x =>
    let z := x.boxes.getD b boxReset
    if isDue z then { x with roundNext := b + 1, transaction := some (firstTransaction b z.state x) }
    else servedLine (b + 1) count { x with boxes := x.boxes.modify b passed }

theorem beginTransaction_first (inside : l < s.lines.lines.length) (state : BoxState) :
    beginTransaction l b (firstKind state) state (putLine l x s) =
      putLine l { x with transaction := some (firstTransaction b state x) } s := by
  have line := lineAt_putLine (x := x) inside
  cases state <;>
    · simp only [beginTransaction, firstKind, charactersSent, line, setLine_putLine inside, firstTransaction]

theorem servePoll_putLine (inside : l < s.lines.lines.length) :
    servePoll l b count (putLine l x s) = putLine l (servedLine b count x) s := by
  induction count generalizing b x with
  | zero => exact setLine_putLine inside _
  | succ count ih =>
    rw [servePoll, servedLine, boxAt_putLine inside]
    split
    · rw [setLine_putLine inside, beginTransaction_first inside]
      rfl
    · rw [passBox, setBox, setLine_putLine inside, ih]
      rfl

/-- `x` with the boxes from `b` up to `c` passed (R65). -/
def passedFrom (b c : Nat) (x : Line) : Line :=
  { x with boxes := x.boxes.mapIdx fun i z =>
      if b ≤ i ∧ i < c then passed z else z }

theorem passedFrom_of_le (none : c ≤ b) : passedFrom b c x = x := by
  have same : (x.boxes.mapIdx fun i z => if b ≤ i ∧ i < c then passed z else z) =
      x.boxes := by
    refine List.ext_getElem? fun i => ?_
    rw [List.getElem?_mapIdx]
    simp [show ¬ (b ≤ i ∧ i < c) by omega]
  rw [passedFrom, same]

theorem passedFrom_next (before : b < c) :
    passedFrom (b + 1) c { x with boxes := x.boxes.modify b passed } =
      passedFrom b c x := by
  refine congrArg (fun bs => { x with boxes := bs }) (List.ext_getElem? fun i => ?_)
  rw [List.getElem?_mapIdx, List.getElem?_mapIdx, List.getElem?_modify]
  by_cases first : b = i
  · subst first
    simp [before, Function.comp_def]
  · simp [first, show (b < i ∧ i < c) ↔ (b ≤ i ∧ i < c) by omega]

/-- The round goes on to the first due box. -/
theorem servedLine_due (first : b ≤ c) (last : c < b + count) (entry : x.boxes[c]? = some z) (due : isDue z = true)
    (idle : ∀ i w, b ≤ i → i < c → x.boxes[i]? = some w → isDue w = false) :
    servedLine b count x =
      { passedFrom b c x with roundNext := c + 1, transaction := some (firstTransaction c z.state x) } := by
  induction count generalizing b x with
  | zero => omega
  | succ count ih =>
    rw [servedLine]
    dsimp only
    by_cases here : b = c
    · subst here
      rw [List.getD_eq_getElem?_getD, entry, Option.getD_some, if_pos due, passedFrom_of_le (Nat.le_refl b)]
    · obtain ⟨inside, -⟩ := List.getElem?_eq_some_iff.1 entry
      have this := idle b _ (Nat.le_refl b) (by omega) (List.getElem?_eq_getElem (by omega))
      rw [List.getD_eq_getElem _ _ (by omega), this, if_neg Bool.false_ne_true, ih (by omega) (by omega), passedFrom_next (by omega)]
      · rfl
      · dsimp only
        rw [List.getElem?_modify_ne _ _ here, entry]
      · intro i w above below at_i
        dsimp only at at_i
        rw [List.getElem?_modify_ne _ _ (by omega : b ≠ i)] at at_i
        exact idle i w (by omega) below at_i

/-- With no box due the round's turns end. -/
theorem servedLine_none (size : x.boxes.length = 12) (room : count = 12 - b)
    (idle : ∀ i w, b ≤ i → x.boxes[i]? = some w → isDue w = false) :
    servedLine b count x = roundEnded (passedFrom b 12 x) := by
  induction count generalizing b x with
  | zero => rw [servedLine, passedFrom_of_le (by omega)]
  | succ count ih =>
    rw [servedLine]
    have this := idle b _ (Nat.le_refl b) (List.getElem?_eq_getElem (by omega))
    rw [List.getD_eq_getElem _ _ (by omega), this, if_neg Bool.false_ne_true, ih _ (by omega), passedFrom_next (by omega)]
    · intro i w above at_i
      dsimp only at at_i
      rw [List.getElem?_modify_ne _ _ (by omega : b ≠ i)] at at_i
      exact idle i w (by omega) at_i
    · rw [List.length_modify, size]

/-- The round goes on as R65 and R66 say. -/
theorem servedLine_goesOn (size : x.boxes.length = 12) :
    roundGoesOn x (servedLine x.roundNext (12 - x.roundNext) x) := by
  refine ⟨fun c z first entry due idle => ?_, fun idle => ?_⟩
  · obtain ⟨inside, -⟩ := List.getElem?_eq_some_iff.1 entry
    rw [servedLine_due first (by omega) entry (isDue_iff.2 due) fun i w above below at_i =>
      not_isDue_iff.2 (idle i w above below at_i), firstTransaction, firstKind_eq]
    rfl
  · rw [servedLine_none size rfl fun i w above at_i => not_isDue_iff.2 (idle i w above at_i), roundEnded]
    by_cases ran_out : x.roundLeft = 0
    · rw [if_pos (show (passedFrom x.roundNext 12 x).roundLeft = 0 from ran_out), if_pos ran_out, if_pos ran_out]
      rfl
    · rw [if_neg (show (passedFrom x.roundNext 12 x).roundLeft ≠ 0 from ran_out), if_neg ran_out, if_neg ran_out]
      rfl

/-- A round touches the round's own fields and the counts of rounds. -/
theorem servedLine_fields (b count : Nat) (x : Line) : ∃ next left tx bs,
    servedLine b count x = { x with roundNext := next, roundLeft := left, transaction := tx, boxes := bs } ∧
      ∀ i, ∃ r, bs.getD i boxReset = { x.boxes.getD i boxReset with rounds := r } := by
  induction count generalizing b x with
  | zero =>
    rw [servedLine, roundEnded]
    split
    · exact ⟨_, _, _, _, rfl, fun i => ⟨_, rfl⟩⟩
    · exact ⟨_, _, _, _, rfl, fun i => ⟨_, rfl⟩⟩
  | succ count ih =>
    rw [servedLine]
    dsimp only
    split
    · exact ⟨_, _, _, _, rfl, fun i => ⟨_, rfl⟩⟩
    · obtain ⟨next, left, tx, bs, eq, boxes⟩ := ih (b + 1)
        { x with boxes := x.boxes.modify b passed }
      refine ⟨next, left, tx, bs, eq, fun i => ?_⟩
      obtain ⟨r, at_i⟩ := boxes i
      rw [at_i, List.getD_eq_getElem?_getD, List.getD_eq_getElem?_getD, List.getElem?_modify]
      cases x.boxes[i]? with
      | none => exact ⟨r, rfl⟩
      | some w =>
        refine ⟨r, ?_⟩
        by_cases here : b = i
        · simp [here, passed]
        · simp [here]

/-! ### The end of a turn (R65, R74) -/

/-- The line once the turn of box `b` has ended. -/
def turnEnded (b : Nat) (x : Line) : Line :=
  let z := { x with boxes := x.boxes.modify b fun box => { box with rounds := 0 } }
  if x.sleepPending then sleepLine z else servedLine x.roundNext (12 - x.roundNext) { z with transaction := none }

theorem endTurn_putLine (inside : l < s.lines.lines.length) :
    endTurn l b (putLine l x s) = putLine l (turnEnded b x) s := by
  rw [endTurn, setBox, setLine_putLine inside, lineAt_putLine inside, turnEnded]
  dsimp only
  split
  · rw [setLine_putLine inside]
  · rw [setLine_putLine inside, servePollNext, lineAt_putLine inside]
    exact servePoll_putLine inside

theorem roundGoesOn_transaction (tx : Option Transaction) (goes : roundGoesOn { x with transaction := tx } y) :
    roundGoesOn x y := by
  obtain ⟨due, none⟩ := goes
  exact ⟨fun c box first entry isDue passed => due c box first entry isDue passed, fun passed => none passed⟩

theorem turnEnded_turnEnds (size : x.boxes.length = 12) : turnEnds b x (turnEnded b x) := by
  rintro z rfl
  refine ⟨fun pending => ?_, fun stays => ?_⟩
  · rw [turnEnded, if_pos pending]
    rfl
  · rw [turnEnded, if_neg (Bool.eq_false_iff.1 stays)]
    refine roundGoesOn_transaction none (servedLine_goesOn (x := { x with
      boxes := x.boxes.modify b fun box => { box with rounds := 0 }, transaction := none }) ?_)
    rw [List.length_modify, size]

theorem modify_rounds (i : Nat) : ∃ r, (x.boxes.modify b fun box => { box with rounds := 0 }).getD i boxReset =
    { x.boxes.getD i boxReset with rounds := r } := by
  rw [List.getD_eq_getElem?_getD, List.getD_eq_getElem?_getD, List.getElem?_modify]
  cases x.boxes[i]? with
  | none => exact ⟨_, rfl⟩
  | some w =>
    by_cases here : b = i
    · exact ⟨0, by simp [here]⟩
    · exact ⟨w.rounds, by simp [here]⟩

/-- The end of a turn leaves the boxes but for their counts of rounds. -/
theorem turnEnded_boxes (b : Nat) (x : Line) (i : Nat) : ∃ r,
    (turnEnded b x).boxes.getD i boxReset = { x.boxes.getD i boxReset with rounds := r } := by
  obtain ⟨r0, own⟩ := modify_rounds (x := x) (b := b) i
  rw [turnEnded]
  dsimp only
  split
  · exact ⟨r0, own⟩
  · obtain ⟨next, left, tx, bs, eq, boxes⟩ := servedLine_fields x.roundNext (12 - x.roundNext)
      { x with boxes := x.boxes.modify b fun box => { box with rounds := 0 }, transaction := none }
    obtain ⟨r, at_i⟩ := boxes i
    refine ⟨r, ?_⟩
    rw [eq, at_i, own]

theorem turnEnded_counters (b : Nat) (x : Line) : failureCounters (turnEnded b x) = failureCounters x := by
  rw [turnEnded]
  dsimp only
  split
  · rfl
  · obtain ⟨next, left, tx, bs, eq, -⟩ := servedLine_fields x.roundNext (12 - x.roundNext)
      { x with boxes := x.boxes.modify b fun box => { box with rounds := 0 }, transaction := none }
    rw [eq]
    rfl

theorem turnEnded_quiet (awake : x.sleepPending = false) :
    (turnEnded b x).quiet = x.quiet ∧ (turnEnded b x).sleepPending = false := by
  rw [turnEnded, if_neg (Bool.eq_false_iff.1 awake)]
  obtain ⟨next, left, tx, bs, eq, -⟩ := servedLine_fields x.roundNext (12 - x.roundNext)
    { x with boxes := x.boxes.modify b fun box => { box with rounds := 0 }, transaction := none }
  rw [eq]
  exact ⟨rfl, awake⟩

/-! ### The DISPLAY of a turn (R63) -/

theorem displayData_eq (a b : Seat) (x : Box) : displayData a b x.lamp x.icon = displayBytes a b x := by
  rw [displayData, displayBytes]
  cases a.language <;> cases b.language <;> rfl

/-- The line once a DISPLAY to box `b` with the data characters `data` has begun. -/
def displayOn (b : Nat) (turnState : BoxState) (data : List Byte) (x : Line) : Line :=
  { x with
    boxes := x.boxes.modify b fun box => { box with displayPending := false }
    transaction := some { box := b, kind := .display, mode := x.mode, turnState := turnState, low := false
                          sent := headerChar b .display ::
                            (data ++ [lineCheck x.mode b .display data]).map dataChar } }

theorem beginTransaction_display (inside : l < s.lines.lines.length) (state : BoxState) :
    beginTransaction l b .display state (putLine l x s) = putLine l (displayOn b state
      (displayBytes (seatAt s (seatNumber l b 0)) (seatAt s (seatNumber l b 1)) (x.boxes.getD b boxReset)) x) s := by
  simp only [beginTransaction, charactersSent, displayOf, boxAt_putLine inside, lineAt_putLine inside, setBox,
    setLine_putLine inside, displayData_eq]
  rfl

theorem displayOn_displayBegun (state : BoxState) : displayBegun l b state s x (displayOn b state
    (displayBytes (seatAt s (seatNumber l b 0)) (seatAt s (seatNumber l b 1)) (x.boxes.getD b boxReset)) x) := by
  rintro data rfl
  rfl

/-! ### The judgement of an answer (R60, R64) -/

theorem headerChar_toNat (box : Nat) (kind : TxKind) :
    (headerChar box kind).toNat = 256 + (headerByte box kind).toNat := by
  rw [headerChar]
  generalize headerByte box kind = byte
  have small := byte.isLt
  rw [BitVec.toNat_or, BitVec.toNat_setWidth, Nat.mod_eq_of_lt (by omega)]
  exact (Nat.lor_comm _ _).trans (Nat.two_pow_add_eq_or_of_lt (i := 8) small 1).symm

theorem headerByte_fields : ∀ (box : Fin 12) (kind : TxKind), (headerByte box kind).toNat % 16 = box ∧
    (headerByte box kind).toNat / 16 % 8 = kind.code ∧
    ((List.range 8).countP fun i => (headerByte box kind).getLsbD i) % 2 = 1 := by
  rintro box (_ | _ | _) <;> revert box <;> decide

theorem charByte_toNat (c : LineChar) : (charByte c).toNat = c.bits.toNat % 256 := by
  rw [charByte, BitVec.toNat_setWidth]

theorem foldl_add_toNat (bytes : List Byte) (first : Byte) :
    (bytes.foldl (fun sum b => sum + b) first).toNat = (first.toNat + (bytes.map BitVec.toNat).sum) % 256 := by
  induction bytes generalizing first with
  | nil => simp [Nat.mod_eq_of_lt first.isLt]
  | cons byte rest ih =>
    rw [List.foldl_cons, ih, BitVec.toNat_add, List.map_cons, List.sum_cons]
    omega

theorem checkOver_toNat (bytes : List Byte) : (checkOver bytes).toNat = (bytes.map BitVec.toNat).sum % 256 ^^^ 0xA5 := by
  rw [checkOver, BitVec.toNat_xor, foldl_add_toNat]
  simp

theorem charBroken_iff {c : LineChar} : charBroken c = true ↔ c.stopHigh = false ∨ c.bits.getLsbD 8 = true := by
  rw [charBroken, Bool.or_eq_true, Bool.not_eq_true']

/-- The first test of R64: the characters themselves. -/
theorem anyBroken_iff {tx : Transaction} {data : Nat} {answer : List LineChar} :
    (tx.low = true ∨ answer.length ≠ data + 1 ∨ ∃ c ∈ answer, c.stopHigh = false ∨ c.bits.getLsbD 8 = true) ↔
      tx.low = true ∨ (answer.any charBroken || decide (answer.length ≠ data + 1)) = true := by
  rw [Bool.or_eq_true, List.any_eq_true, decide_eq_true_iff]
  simp only [charBroken_iff]
  exact or_congr_right or_comm

theorem goodAnswer_iff {tx : Transaction} {data : Nat} {answer : List LineChar} : goodAnswer tx data answer ↔
    ¬ (tx.low = true ∨ answer.length ≠ data + 1 ∨ ∃ c ∈ answer, c.stopHigh = false ∨ c.bits.getLsbD 8 = true) ∧
      (answer.map charByte).getD data 0 = lineCheck tx.mode tx.box tx.kind ((answer.map charByte).take data) := by
  rw [goodAnswer, not_or, not_or, Bool.not_eq_true, not_not]
  push Not
  simp only [and_assoc, Bool.not_eq_false, ne_eq, Bool.not_eq_true]

/-- The tests of R64 in their order. -/
theorem judgeAnswer_eq (tx : Transaction) (data : Nat) (answer : List LineChar) : judgeAnswer tx data answer =
    if tx.low = true ∨ (answer.any charBroken || decide (answer.length ≠ data + 1)) = true then some .framing
    else if (answer.map charByte).getD data 0 = lineCheck tx.mode tx.box tx.kind ((answer.map charByte).take data)
      then none else some .check := by
  rw [judgeAnswer]
  cases tx.low with
  | true => simp
  | false =>
    rw [if_neg Bool.false_ne_true]
    cases broken : (answer.any charBroken || decide (answer.length ≠ data + 1)) with
    | true => simp
    | false => simp [ite_not]

theorem judgeAnswer_eq_none_iff {tx : Transaction} {data : Nat} {answer : List LineChar} :
    judgeAnswer tx data answer = none ↔ goodAnswer tx data answer := by
  rw [goodAnswer_iff, anyBroken_iff, judgeAnswer_eq]
  split
  · next broken => exact ⟨nofun, fun good => absurd broken good.1⟩
  · next whole =>
    split
    · next check => exact ⟨fun _ => ⟨whole, check⟩, fun _ => rfl⟩
    · next check => exact ⟨nofun, fun good => absurd good.2 check⟩

theorem judgeAnswer_eq_framing_iff {tx : Transaction} {data : Nat} {answer : List LineChar} :
    judgeAnswer tx data answer = some .framing ↔ (tx.low = true ∨ answer.length ≠ data + 1 ∨
      ∃ c ∈ answer, c.stopHigh = false ∨ c.bits.getLsbD 8 = true) := by
  rw [anyBroken_iff, judgeAnswer_eq]
  split
  · next broken => exact ⟨fun _ => broken, fun _ => rfl⟩
  · next whole =>
    refine ⟨fun failed => ?_, fun broken => absurd broken whole⟩
    split at failed
    · exact nomatch failed
    · exact nomatch failed

theorem judgeAnswer_failure {tx : Transaction} {data : Nat} {answer : List LineChar} {f : LineFailure}
    (failed : judgeAnswer tx data answer = some f) : f = .framing ∨ f = .check := by
  rw [judgeAnswer_eq] at failed
  split at failed
  · exact .inl (Option.some.inj failed).symm
  · split at failed
    · exact nomatch failed
    · exact .inr (Option.some.inj failed).symm

/-! ### A wake pulse and a low of the pair (R76, R78) -/

theorem pairLow_sleeping (entry : s.lines.lines[l]? = some x) (sleeping : x.state = .sleeping) (sending : Bool) :
    pairLow l sending s = putLine l { wakeLine x with pairLow := true } s := by
  rw [pairLow, lineAt_of_entry entry, sleeping]
  exact setLine_of_entry _ entry

theorem pairLow_sending (entry : s.lines.lines[l]? = some x) (awake : x.state = .awake) :
    pairLow l true s = echoFailure l s := by
  rw [pairLow, lineAt_of_entry entry, awake]
  rfl

theorem pairLow_listening (entry : s.lines.lines[l]? = some x) (awake : x.state = .awake) :
    pairLow l false s =
      putLine l { x with transaction := x.transaction.map fun tx => { tx with low := true } } s := by
  rw [pairLow, (congrArg Line.state (lineAt_of_entry entry)).trans awake]
  exact (if_neg Bool.false_ne_true).trans (setLine_of_entry _ entry)

theorem inFlight_of_entry (entry : s.lines.lines[l]? = some x) : inFlight l s = x.transaction := by
  rw [inFlight, lineAt_of_entry entry]

theorem putLine_same (entry : s.lines.lines[l]? = some x) : putLine l x s = s := by
  obtain ⟨inside, -⟩ := List.getElem?_eq_some_iff.1 entry
  rw [← lineAt_of_entry entry]
  exact putLine_self inside

/-! ### The sizes of the tables -/

theorem lineTablesSized.inside (sized : lineTablesSized s) (l : Fin 4) : l.val < s.lines.lines.length := by
  rw [sized.1]
  exact l.isLt

theorem lineTablesSized.boxes (sized : lineTablesSized s) (l : Fin 4) : (lineAt s l).boxes.length = 12 := by
  obtain ⟨lines, seats, boxes⟩ := sized
  exact boxes _ (List.mem_of_getElem? (line_entry (by rw [lines]; exact l.isLt)))

/-! ### The poll round begins, and its timer (R65) -/

theorem roundMayBegin_iff : roundMayBegin x = true ↔
    x.state = .awake ∧ x.transaction = none ∧ (x.roundNext = 0 ∨ (12 ≤ x.roundNext ∧ x.roundLeft = 0)) := by
  simp only [roundMayBegin, Bool.and_eq_true, Bool.or_eq_true, decide_eq_true_iff, and_assoc]

theorem exec_pollRoundBegin {l : Fin 4} (entry : s.lines.lines[l.val]? = some x) (may : roundMayBegin x = true) :
    exec (.pollRoundBegin l) s = .next (putLine l (servedLine 0 12 (openRound x)) s) := by
  obtain ⟨inside, -⟩ := List.getElem?_eq_some_iff.1 entry
  show execPollRoundBegin l s = _
  rw [execPollRoundBegin, lineAt_of_entry entry, if_pos may, setLine_of_entry _ entry, servePoll_putLine inside]

theorem exec_pollRoundBegin_early {l : Fin 4} (entry : s.lines.lines[l.val]? = some x) (may : ¬ roundMayBegin x = true) :
    exec (.pollRoundBegin l) s = .next s := by
  show execPollRoundBegin l s = _
  rw [execPollRoundBegin, lineAt_of_entry entry, if_neg may]

/-- `x` at the beginning of a round that has `left` of its 4 ms left. -/
def roundOpened (left : Nat) (x : Line) : Line := { x with roundNext := 0, roundLeft := left, pairLow := false }

theorem openRound_eq (idle : x.transaction = none) :
    openRound x = roundOpened (if x.pairLow then x.roundLeft else Config.ms 4) x := by
  rw [openRound, roundOpened]
  cases low : x.pairLow with
  | true => rfl
  | false =>
    rw [if_neg Bool.false_ne_true, if_neg Bool.false_ne_true, newRound, ← idle, ← low]
    rfl

theorem passedFrom_zero : passedFrom 0 c x = { x with boxes := x.boxes.mapIdx fun i z => if i < c then passed z else z } := by
  simp only [passedFrom, Nat.zero_le, true_and]

theorem passedFrom_all (size : x.boxes.length = 12) : passedFrom 0 12 x = { x with boxes := x.boxes.map passed } := by
  rw [passedFrom_zero]
  refine congrArg (fun bs => { x with boxes := bs }) (List.ext_getElem? fun i => ?_)
  rw [List.getElem?_mapIdx, List.getElem?_map]
  cases at_i : x.boxes[i]? with
  | none => rfl
  | some w =>
    obtain ⟨inside, -⟩ := List.getElem?_eq_some_iff.1 at_i
    rw [Option.map_some, Option.map_some, if_pos (by omega)]

theorem roundEnded_eq (idle : x.transaction = none) : roundEnded x =
    { x with
      roundNext := if x.roundLeft = 0 then 0 else 12
      roundLeft := if x.roundLeft = 0 then Config.ms 4 else x.roundLeft } := by
  rw [roundEnded]
  split
  · rw [← idle]
    rfl
  · rw [← idle]

theorem exec_roundTimerExpiry_early {l : Fin 4} (entry : s.lines.lines[l.val]? = some x)
    (early : x.state = .sleeping ∨ x.transaction ≠ none ∨ x.roundNext < 12 ∨ x.roundLeft ≠ 0) :
    exec (.roundTimerExpiry l) s = .next s := by
  show execRoundTimerExpiry l s = _
  rw [execRoundTimerExpiry]
  dsimp only
  rw [lineAt_of_entry entry]
  cases state : x.state with
  | sleeping => rfl
  | awake =>
    refine congrArg Host.Outcome.next (if_neg ?_)
    rintro ⟨idle, turns, ranOut⟩
    rcases early with sleeping | busy | early
    · exact nomatch sleeping.symm.trans state
    · exact busy idle
    · omega

theorem exec_roundTimerExpiry {l : Fin 4} (entry : s.lines.lines[l.val]? = some x) (awake : x.state = .awake)
    (ranOut : x.transaction = none ∧ 12 ≤ x.roundNext ∧ x.roundLeft = 0) :
    exec (.roundTimerExpiry l) s = .next (putLine l (newRound x) s) := by
  show execRoundTimerExpiry l s = _
  rw [execRoundTimerExpiry]
  dsimp only
  rw [lineAt_of_entry entry, awake, if_pos ranOut, setLine_of_entry _ entry]

end Sys2Proof.Machine

namespace Sys2Proof.Proofs
open Sys2Proof Sys2Proof.Machine

/-- Settles O46: the tests of R64 in their order, and the sums of R59 and R60. -/
theorem answersAreJudgedInOrder : Obligations.AnswersAreJudgedInOrder := by
  refine ⟨fun box kind small => ?header, charByte_toNat, fun tx data answer => ⟨judgeAnswer_eq_none_iff,
    judgeAnswer_eq_framing_iff, fun f => judgeAnswer_failure, fun bytes => ⟨checkOver_toNat bytes, ?full⟩⟩⟩
  case header =>
    obtain ⟨address, code, ones⟩ := headerByte_fields ⟨box, small⟩ kind
    exact ⟨address, by rw [code]; cases kind <;> rfl, ones, headerChar_toNat box kind⟩
  case full =>
    rw [lineCheck, checkOver_toNat, List.map_cons, List.sum_cons]

/-- Settles O44: the round that begins is `servedLine` from address 0, whose addresses are passed up to the first due
box. -/
theorem pollRoundServesDueBoxes : Obligations.PollRoundServesDueBoxes := by
  refine ⟨⟨rfl, rfl, rfl, rfl⟩, ?_⟩
  rintro s l x left entry size rfl
  refine ⟨fun early => ?early, fun b z awake idle ended at_b due before => ?due, fun awake idle ended none => ?none,
    fun awake idle turns ranOut => ?timer, fun early => ?timerEarly⟩
  case early =>
    refine exec_pollRoundBegin_early entry fun may => ?_
    obtain ⟨awake, idle, ended⟩ := roundMayBegin_iff.1 may
    rcases early with sleeping | busy | early
    · exact nomatch sleeping.symm.trans awake
    · exact busy idle
    · omega
  case due =>
    obtain ⟨inside, -⟩ := List.getElem?_eq_some_iff.1 at_b
    rw [exec_pollRoundBegin entry (roundMayBegin_iff.2 ⟨awake, idle, ended⟩), openRound_eq idle,
      servedLine_due (x := roundOpened _ x) (Nat.zero_le b) (by omega) at_b (isDue_iff.2 due) fun i w _ below at_i =>
        not_isDue_iff.2 (before i w below at_i), firstTransaction, firstKind_eq, passedFrom_zero]
    rfl
  case none =>
    have idles : ∀ i w, 0 ≤ i → x.boxes[i]? = some w → isDue w = false := fun i w _ at_i =>
      not_isDue_iff.2 (none w (List.mem_of_getElem? at_i))
    rw [exec_pollRoundBegin entry (roundMayBegin_iff.2 ⟨awake, idle, ended⟩), openRound_eq idle,
      servedLine_none (x := roundOpened _ x) size rfl idles, passedFrom_all (x := roundOpened _ x) size]
    exact congrArg (fun y => Host.Outcome.next (putLine l y s))
      (roundEnded_eq (x := { roundOpened _ x with boxes := x.boxes.map passed }) idle)
  case timer =>
    rw [exec_roundTimerExpiry entry awake ⟨idle, turns, ranOut⟩, newRound, ← idle]
    rfl
  case timerEarly => exact exec_roundTimerExpiry_early entry early

end Sys2Proof.Proofs

/-! The ends of a transaction (R62 to R69, R78): failures, a valid IDENT and a completed DISPLAY, each followed by the
DISPLAY of the same turn or by the end of the turn. -/

namespace Sys2Proof.Machine

variable {s t : State} {l b : Nat} {x y : Line} {z : Box} {tx : Transaction} {f : LineFailure}

/-! ### A state with line `l` and the manage block replaced -/

/-- `n` is queued where `told`. -/
def notifyIf (told : Prop) [Decidable told] (n : Notice) (s : State) : State := if told then notify n s else s

theorem notifyIf_eq (told : Prop) [Decidable told] (n : Notice) (s : State) :
    ∃ m, notifyIf told n s = { s with manage := m } := by
  unfold notifyIf
  split
  · exact ⟨_, notify_manage_only n s⟩
  · exact ⟨s.manage, rfl⟩

theorem putLine_manage_only {u : State} (only : ∃ m, u = { s with manage := m }) :
    putLine l x u = { s with lines := (putLine l x u).lines, manage := (putLine l x u).manage } := by
  obtain ⟨m, rfl⟩ := only
  rfl

theorem setBoxState_putLine (inside : l < s.lines.lines.length) (here : b < x.boxes.length) (state : BoxState)
    (count : Nat) : setBoxState l b state count (putLine l (putBox b z x) s) =
      putLine l (putBox b { z with state := state, faultCount := count } x)
        (notifyIf (state ≠ z.state) (.boxState l b state count) s) := by
  rw [setBoxState, boxAt_putBox inside here, setBox_putLine inside here, notifyIf]
  by_cases same : z.state = state
  · rw [if_pos same, if_neg (not_not.2 same.symm)]
  · rw [if_neg same, if_pos (Ne.symm same), notify_putLine]

/-! ### A failure (R63, R64, R67) -/

theorem failedState_eq (state : BoxState) (count : Nat) : failedState state count = stateAfterFailure state count := by
  cases state <;> rfl

/-- The line once the failure `f` of a transaction of `kind` has been counted. -/
def countedLine (kind : TxKind) (f : LineFailure) (x : Line) : Line :=
  if kind = .ident ∧ f = .noResponse then x else countFailure f x

theorem countFailure_putBox (f : LineFailure) : countFailure f (putBox b z x) = putBox b z (countFailure f x) := by
  cases f <;> rfl

theorem countedLine_putBox (kind : TxKind) (f : LineFailure) :
    countedLine kind f (putBox b z x) = putBox b z (countedLine kind f x) := by
  unfold countedLine
  split
  · rfl
  · exact countFailure_putBox f

/-- Counting a failure leaves the boxes, the sleep and the transaction. -/
theorem countedLine_keeps (kind : TxKind) (f : LineFailure) (x : Line) :
    (countedLine kind f x).boxes = x.boxes ∧ (countedLine kind f x).sleepPending = x.sleepPending := by
  unfold countedLine
  split
  · exact ⟨rfl, rfl⟩
  · cases f <;> exact ⟨rfl, rfl⟩

theorem countFailure_putLine (inside : l < s.lines.lines.length) (kind : TxKind) (f : LineFailure) :
    (if isCounted kind f then setLine l (countFailure f) (putLine l x s) else putLine l x s) =
      putLine l (countedLine kind f x) s := by
  unfold isCounted countedLine
  by_cases dead : kind = .ident ∧ f = .noResponse
  · rw [if_pos dead, if_neg]
    simp [dead]
  · rw [if_neg dead, if_pos, setLine_putLine inside]
    rw [not_and_or] at dead
    rcases dead with kind | cause <;> simp [*]

/-- The failure of a transaction of `kind` counts at box `z`: a STATUS or DISPLAY, and the box not ABSENT (R67). -/
def countsAtBox (kind : TxKind) (z : Box) : Bool := decide (kind ≠ .ident ∧ z.state ≠ .absent)

/-- Box `z` after a failure, as R63 and R67 have it. -/
def failedBox (kind : TxKind) (f : LineFailure) (z : Box) : Box :=
  { z with
    faultCount := if countsAtBox kind z then min (z.faultCount + 4) 31 else z.faultCount
    state := if countsAtBox kind z then stateAfterFailure z.state (min (z.faultCount + 4) 31) else z.state
    displayPending := if kind = .display ∧ f = .echo then true else z.displayPending }

/-- The failure at box `z` is told: it changes the box's state (R69). -/
def failureTold (kind : TxKind) (z : Box) : Bool :=
  countsAtBox kind z && decide (stateAfterFailure z.state (min (z.faultCount + 4) 31) ≠ z.state)

/-- The state with the failure at box `z` told. -/
def failureNoted (l b : Nat) (kind : TxKind) (z : Box) (s : State) : State :=
  notifyIf (failureTold kind z = true) (.boxState l b (stateAfterFailure z.state (min (z.faultCount + 4) 31))
    (min (z.faultCount + 4) 31)) s

theorem boxFailure_putLine (inside : l < s.lines.lines.length) (here : b < x.boxes.length) :
    boxFailure l b (putLine l (putBox b z x) s) =
      putLine l (putBox b (failedBox .status f z) x) (failureNoted l b .status z s) := by
  rw [boxFailure, boxAt_putBox inside here, failureNoted, failureTold, failedBox, countsAtBox]
  cases state : z.state
  case absent =>
    simp only [notifyIf, ne_eq, not_true_eq_false, and_false, decide_false, Bool.false_and, Bool.false_eq_true,
      if_false, reduceCtorEq, false_and]
    rw [← state]
  all_goals
    dsimp only
    rw [setBoxState_putLine inside here, failedState_eq, state]
    simp [notifyIf]

theorem failTransaction_putLine (inside : l < s.lines.lines.length) (here : tx.box < x.boxes.length) :
    failTransaction l tx f (putLine l (putBox tx.box z x) s) =
      putLine l (putBox tx.box (failedBox tx.kind f z) (countedLine tx.kind f x))
        (failureNoted l tx.box tx.kind z s) := by
  have here' : tx.box < (countedLine tx.kind f x).boxes.length := by rw [(countedLine_keeps _ _ _).1]; exact here
  rw [failTransaction, countFailure_putLine inside, countedLine_putBox]
  generalize tx.kind = kind at here' ⊢
  cases kind
  case ident => simp [failureNoted, failureTold, countsAtBox, notifyIf, failedBox]
  case status => exact boxFailure_putLine inside here'
  case display =>
    dsimp only
    by_cases echo : f = .echo
    · rw [if_pos echo, markDisplay, setBox_putLine inside here', boxFailure_putLine (f := f) inside here']
      simp [failedBox, countsAtBox, echo, failureNoted, failureTold]
    · rw [if_neg echo, boxFailure_putLine (f := f) inside here']
      simp [failedBox, countsAtBox, echo, failureNoted, failureTold]

/-! ### What follows a STATUS in the turn (R66, R74) -/

/-- The DISPLAY follows a STATUS of the transaction `tx` at line `x`, whose box is now `z` (R66, R74). -/
def displayIsNext (tx : Transaction) (success : Prop) (z : Box) (x : Line) : Prop :=
  z.displayPending = true ∧
    ((tx.turnState = .active ∧ z.state = .active) ∨ (tx.turnState = .suspect ∧ success)) ∧ x.sleepPending = false

theorem displayFollows_putLine (inside : l < s.lines.lines.length) (here : tx.box < x.boxes.length) (success : Bool) :
    (displayFollows l tx success (putLine l (putBox tx.box z x) s) && !(putBox tx.box z x).sleepPending) =
      true ↔
      displayIsNext tx (success = true) z x := by
  rw [displayFollows, boxAt_putBox inside here, displayIsNext]
  cases tx.turnState <;> simp [and_assoc, putBox]

/-- `y` is line `x`, whose box `b` has been judged in a STATUS, once its turn goes on or has ended. -/
theorem afterStatus_putLine (inside : l < s.lines.lines.length) (here : tx.box < x.boxes.length)
    (success : Bool) : ∃ y,
    afterStatus l tx success (putLine l (putBox tx.box z x) s) = putLine l y s ∧
      (displayIsNext tx (success = true) z x →
        y = displayOn tx.box tx.turnState
          (displayBytes (seatAt s (seatNumber l tx.box 0)) (seatAt s (seatNumber l tx.box 1)) z) (putBox tx.box z x)) ∧
      (¬ displayIsNext tx (success = true) z x → y = turnEnded tx.box (putBox tx.box z x)) := by
  rw [afterStatus, lineAt_putLine inside]
  by_cases next : displayIsNext tx (success = true) z x
  · rw [if_pos ((displayFollows_putLine inside here success).2 next), beginTransaction_display inside, putBox_box here]
    exact ⟨_, rfl, fun _ => rfl, fun ends => absurd next ends⟩
  · rw [if_neg fun follows => next ((displayFollows_putLine inside here success).1 follows), endTurn_putLine inside]
    exact ⟨_, rfl, fun follows => absurd follows next, fun _ => rfl⟩

theorem displayOn_box (here : b < x.boxes.length) (state : BoxState) (data : List Byte) :
    (displayOn b state data (putBox b z x)).boxes.getD b boxReset = { z with displayPending := false } := by
  rw [displayOn, modify_putBox here, putBox_box here]

theorem turnEnded_box (here : b < x.boxes.length) :
    ∃ r, (turnEnded b (putBox b z x)).boxes.getD b boxReset = { z with rounds := r } := by
  obtain ⟨r, eq⟩ := turnEnded_boxes b (putBox b z x) b
  exact ⟨r, by rw [eq, putBox_box here]⟩

/-- `y` is line `x`, whose box `b` is now `z`, once its turn goes on with the DISPLAY where `shown`, and has ended
otherwise. -/
def turnGoesOn (l b : Nat) (turnState : BoxState) (shown : Prop) (s : State) (z : Box) (x y : Line) : Prop :=
  (shown → y = displayOn b turnState
    (displayBytes (seatAt s (seatNumber l b 0)) (seatAt s (seatNumber l b 1)) z) (putBox b z x)) ∧
  (¬ shown → y = turnEnded b (putBox b z x))

variable {shown : Prop} {state : BoxState}

theorem turnGoesOn.displayBegun (goesOn : turnGoesOn l b state shown s z x y) (here : b < x.boxes.length)
    (isShown : shown) : displayBegun l b state s (putBox b z x) y := by
  rw [goesOn.1 isShown]
  have begun := displayOn_displayBegun (l := l) (b := b) (s := s) (x := putBox b z x) state
  rwa [putBox_box here] at begun

theorem turnGoesOn.turnEnds (goesOn : turnGoesOn l b state shown s z x y) (size : x.boxes.length = 12)
    (ends : ¬ shown) : turnEnds b (putBox b z x) y := by
  rw [goesOn.2 ends]
  refine turnEnded_turnEnds ?_
  rw [putBox, List.length_set, size]

theorem turnGoesOn.counters (goesOn : turnGoesOn l b state shown s z x y) :
    failureCounters y = failureCounters x := by
  by_cases isShown : shown
  · rw [goesOn.1 isShown]
    rfl
  · rw [goesOn.2 isShown, turnEnded_counters]
    rfl

/-- The box keeps what the judgement has left, but for its rounds and the mark that a DISPLAY clears. -/
theorem turnGoesOn.box (goesOn : turnGoesOn l b state shown s z x y) (here : b < x.boxes.length) :
    ∃ r d, y.boxes.getD b boxReset = { z with rounds := r, displayPending := d } ∧
      (shown → d = false) ∧ (¬ shown → d = z.displayPending) := by
  by_cases isShown : shown
  · rw [goesOn.1 isShown, displayOn_box here]
    exact ⟨z.rounds, false, rfl, fun _ => rfl, fun ends => absurd isShown ends⟩
  · obtain ⟨r, eq⟩ := turnEnded_box (z := z) here
    rw [goesOn.2 isShown, eq]
    exact ⟨r, z.displayPending, rfl, fun yes => absurd yes isShown, fun _ => rfl⟩

theorem turnGoesOn.seats (goesOn : turnGoesOn l b state shown t z x y) (seats : t.seats = s.seats) :
    turnGoesOn l b state shown s z x y := by
  have same : ∀ n, seatAt t n = seatAt s n := fun n => by rw [seatAt, seats, seatAt]
  rw [turnGoesOn, same, same] at goesOn
  exact goesOn

/-! ### A failed transaction and its turn -/

theorem notifyIf_fields (told : Prop) [Decidable told] (n : Notice) (s : State) :
    (notifyIf told n s).lines = s.lines ∧ (notifyIf told n s).seats = s.seats := by
  obtain ⟨m, eq⟩ := notifyIf_eq told n s
  rw [eq]
  exact ⟨rfl, rfl⟩

/-- The turn of a failed transaction: what follows a STATUS, and the end of the turn otherwise. -/
theorem failAndGoOn_putLine (inside : l < s.lines.lines.length) (here : tx.box < x.boxes.length) : ∃ y,
    failAndGoOn l tx f (putLine l (putBox tx.box z x) s) = putLine l y (failureNoted l tx.box tx.kind z s) ∧
      turnGoesOn l tx.box tx.turnState
        (tx.kind = .status ∧ displayIsNext tx False (failedBox tx.kind f z) (countedLine tx.kind f x)) s
        (failedBox tx.kind f z) (countedLine tx.kind f x) y := by
  obtain ⟨lines, seats⟩ := notifyIf_fields (failureTold tx.kind z = true) (.boxState l tx.box
    (stateAfterFailure z.state (min (z.faultCount + 4) 31)) (min (z.faultCount + 4) 31)) s
  have inside' : l < (failureNoted l tx.box tx.kind z s).lines.lines.length := by
    rw [failureNoted, lines]
    exact inside
  have here' : tx.box < (countedLine tx.kind f x).boxes.length := by rw [(countedLine_keeps _ _ _).1]; exact here
  have failed := failTransaction_putLine (f := f) (z := z) inside here
  by_cases status : tx.kind = .status
  · obtain ⟨y, goes, follows, ends⟩ := afterStatus_putLine (z := failedBox tx.kind f z) inside' here' false
    refine ⟨y, ?_, turnGoesOn.seats ⟨fun both => follows (by simpa using both.2), fun neither => ends ?_⟩ seats⟩
    · rw [failAndGoOn, status]
      dsimp only
      rw [failStatus, failed, goes, status]
    · exact fun next => neither ⟨status, by simpa using next⟩
  · refine ⟨turnEnded tx.box (putBox tx.box (failedBox tx.kind f z) (countedLine tx.kind f x)), ?_,
      fun both => absurd both.1 status, fun _ => rfl⟩
    rw [← endTurn_putLine inside', ← failed, failAndGoOn]
    cases kind : tx.kind with
    | status => exact absurd kind status
    | ident => rfl
    | display => rfl

/-- Each of the rows that find a failure ends the transaction with it. -/
theorem exec_failing {l : Fin 4} {c : Instr} (flight : (lineAt s l).transaction = some tx)
    (found : (c = .answerWindowExpiry l ∧ tx.kind ≠ .display ∧ f = (if tx.low then .framing else .noResponse)) ∨
      (c = .echo l ∧ f = .echo) ∨ (c = .displayTransactionEnd l ∧ tx.kind = .display ∧ tx.low = true ∧ f = .framing) ∨
      (∃ answer, c = .statusTransactionEnd l answer ∧ tx.kind = .status ∧ judgeAnswer tx 4 answer = some f) ∨
      (∃ answer, c = .identTransactionEnd l answer ∧ tx.kind = .ident ∧ (judgeAnswer tx 6 answer = some f ∨
        (judgeAnswer tx 6 answer = none ∧ byteAt (answer.map charByte) 2 ≠ 1 ∧ byteAt (answer.map charByte) 2 ≠ 2 ∧
          f = .check)))) :
    exec c s = .next (failAndGoOn l tx f s) := by
  have inFlight : inFlight l s = some tx := flight
  rcases found with ⟨rfl, kind, rfl⟩ | ⟨rfl, rfl⟩ | ⟨rfl, kind, low, rfl⟩ | ⟨answer, rfl, kind, judged⟩ |
    ⟨answer, rfl, kind, judged⟩
  · show execAnswerWindowExpiry l s = _
    rw [execAnswerWindowExpiry, inFlight]
    dsimp only
    cases isKind : tx.kind with
    | display => exact absurd isKind kind
    | status => rfl
    | ident => rfl
  · show execEcho l s = _
    rw [execEcho, echoFailure, inFlight]
  · show execDisplayTransactionEnd l s = _
    rw [execDisplayTransactionEnd, inFlight]
    dsimp only
    rw [kind, if_pos low]
  · show execStatusTransactionEnd l answer s = _
    rw [execStatusTransactionEnd, inFlight]
    dsimp only
    rw [kind, judged, failAndGoOn, kind]
  · show execIdentTransactionEnd l answer s = _
    rw [execIdentTransactionEnd, inFlight]
    dsimp only
    rw [kind]
    rcases judged with judged | ⟨judged, one, two, rfl⟩
    · rw [judged]
    · rw [judged]
      refine congrArg Host.Outcome.next (if_neg ?_)
      simp [seatCountOk, one, two]

end Sys2Proof.Machine

namespace Sys2Proof.Machine

variable {s t : State} {l b : Nat} {x y : Line} {z : Box} {tx : Transaction} {f : LineFailure}

theorem displayIsNext_failed_iff : (tx.kind = .status ∧ displayIsNext tx False (failedBox tx.kind f z)
      (countedLine tx.kind f x)) ↔
    tx.kind = .status ∧ tx.turnState = .active ∧ (failedBox tx.kind f z).state = .active ∧ z.displayPending = true ∧
      x.sleepPending = false := by
  rw [displayIsNext, (countedLine_keeps _ _ _).2]
  refine and_congr_right fun status => ?_
  have mark : (failedBox tx.kind f z).displayPending = z.displayPending := by simp [failedBox, status]
  rw [mark]
  tauto

theorem failureNoted_eq (l b : Nat) (kind : TxKind) (z : Box) (s : State) : failureNoted l b kind z s =
    if countsAtBox kind z = true ∧ stateAfterFailure z.state (min (z.faultCount + 4) 31) ≠ z.state then
      notify (.boxState l b (stateAfterFailure z.state (min (z.faultCount + 4) 31)) (min (z.faultCount + 4) 31)) s
    else s := by
  have told : (failureTold kind z = true) =
      (countsAtBox kind z = true ∧ stateAfterFailure z.state (min (z.faultCount + 4) 31) ≠ z.state) := by
    rw [failureTold, Bool.and_eq_true, decide_eq_true_iff]
  rw [failureNoted, notifyIf]
  simp only [told]

/-! ### A valid IDENT (R68) and a completed DISPLAY -/

/-- Box `z` once it has been identified by the data characters `data`. -/
def identified (data : List Byte) (z : Box) : Box :=
  { z with
    state := .active, faultCount := 0, seatCount := some (byteAt data 2), displayPending := true
    baselinePending := true, model := data.getD 0 0, firmware := data.getD 1 0, serial := (data.drop 3).take 3 }

theorem fitSeats_eq (l b count : Nat) (s : State) : fitSeats l b count s = { s with seats := { s.seats with
    seats := (s.seats.seats.modify (seatNumber l b 0) fun y => { y with fitted := true }).modify
      (seatNumber l b 1) fun y => { y with fitted := decide (count = 2) } } } := rfl

theorem activateBox_putLine (inside : l < s.lines.lines.length) (here : b < x.boxes.length) (absent : z.state = .absent)
    (data : List Byte) : activateBox l b data (putLine l (putBox b z x) s) =
      putLine l (putBox b (identified data z) x) (fitSeats l b (byteAt data 2) (notify (.boxState l b .active 0) s)) := by
  rw [activateBox]
  rw [setBox_putLine inside here, setBoxState_putLine inside here, notifyIf, if_pos (by rw [absent]; nofun)]
  rfl

theorem take_three (data : List Byte) (size : data.length = 7) :
    (data.drop 3).take 3 = [data.getD 3 0, data.getD 4 0, data.getD 5 0] := by
  match data, size with
  | [_, _, _, _, _, _, _], _ => rfl

theorem exec_identTransactionEnd {l : Fin 4} {answer : List LineChar} (flight : (lineAt s l).transaction = some tx)
    (kind : tx.kind = .ident) (good : goodAnswer tx 6 answer)
    (seats : byteAt (answer.map charByte) 2 = 1 ∨ byteAt (answer.map charByte) 2 = 2) :
    exec (.identTransactionEnd l answer) s =
      .next (endTurn l tx.box (activateBox l tx.box (answer.map charByte) s)) := by
  show execIdentTransactionEnd l answer s = _
  rw [execIdentTransactionEnd, inFlight, flight]
  dsimp only
  rw [kind, judgeAnswer_eq_none_iff.2 good]
  exact congrArg Host.Outcome.next (if_pos (by simpa [seatCountOk] using seats))

theorem exec_displayTransactionEnd {l : Fin 4} (flight : (lineAt s l).transaction = some tx)
    (kind : tx.kind = .display) (high : tx.low = false) :
    exec (.displayTransactionEnd l) s = .next (endTurn l tx.box s) := by
  show execDisplayTransactionEnd l s = _
  rw [execDisplayTransactionEnd, inFlight, flight]
  dsimp only
  rw [kind, if_neg (Bool.eq_false_iff.1 high)]

end Sys2Proof.Machine

namespace Sys2Proof.Proofs
open Sys2Proof Sys2Proof.Machine

/-- Settles O45: every failing row is `failAndGoOn`, carried to the line and the box of the transaction. -/
theorem failedTransactionsCountOnce : Obligations.FailedTransactionsCountOnce := by
  refine ⟨fun x => ⟨rfl, rfl, rfl, rfl⟩, ?_⟩
  rintro s l tx x c f count counted sized flight small rfl found rfl rfl
  have inside := sized.inside l
  have size := sized.boxes l
  have here : tx.box < (lineAt s l).boxes.length := by omega
  obtain ⟨y, goes, goesOn⟩ := failAndGoOn_putLine (f := f) (z := boxAt s l tx.box) inside here
  rw [state_writtenOut inside here] at goes
  obtain ⟨lines, -⟩ := notifyIf_fields (failureTold tx.kind (boxAt s l tx.box) = true) (.boxState l tx.box
    (stateAfterFailure (boxAt s l tx.box).state (min ((boxAt s l tx.box).faultCount + 4) 31))
    (min ((boxAt s l tx.box).faultCount + 4) 31)) s
  have inside' : l.val < (failureNoted l tx.box tx.kind (boxAt s l tx.box) s).lines.lines.length := by
    rw [failureNoted, lines]
    exact inside
  have size' : (countedLine tx.kind f (lineAt s l)).boxes.length = 12 := by rw [(countedLine_keeps _ _ _).1, size]
  have here' : tx.box < (countedLine tx.kind f (lineAt s l)).boxes.length := by omega
  obtain ⟨r, d, box, shows, hides⟩ := goesOn.box here'
  refine ⟨_, (exec_failing flight found).trans (congrArg Host.Outcome.next goes), ?counters, ?fault, ?state, ?mark,
    ?turn, ?told, otherLinesStay_putLine lines, putLine_manage_only (notifyIf_eq _ _ s)⟩
  case counters =>
    rw [lineAt_putLine inside']
    exact goesOn.counters
  case fault =>
    rw [boxAt_putLine inside', box]
    rfl
  case state =>
    rw [boxAt_putLine inside', box]
    rfl
  case mark =>
    intro kind echo
    rw [boxAt_putLine inside', box]
    have ends := hides fun next => nomatch kind.symm.trans next.1
    rw [failedBox] at ends
    simpa [kind, echo] using ends
  case turn =>
    rintro _ z rfl rfl
    have boxes : (countedLine tx.kind f (lineAt s l)).boxes = (lineAt s l).boxes := (countedLine_keeps _ _ _).1
    rw [lineAt_putLine inside', ← boxes]
    refine ⟨fun next => goesOn.displayBegun here' (displayIsNext_failed_iff.2 next), fun ends =>
      goesOn.turnEnds size' fun next => ?_⟩
    obtain ⟨status, active, still, pending, awake⟩ := displayIsNext_failed_iff.1 next
    rcases ends with other | other | other | other | other
    · exact other status
    · exact other active
    · exact other still
    · exact Bool.false_ne_true (other.symm.trans pending)
    · exact Bool.false_ne_true (awake.symm.trans other)
  case told => exact (congrArg State.manage (failureNoted_eq l tx.box tx.kind (boxAt s l tx.box) s) :)

/-- Settles O49: the box is identified, and its turn ends. -/
theorem identActivatesBox : Obligations.IdentActivatesBox := by
  rintro s l tx answer data sized flight kind small absent good rfl seats
  have inside := sized.inside l
  have size := sized.boxes l
  have here : tx.box < (lineAt s l).boxes.length := by omega
  have length : answer.length = 7 := good.2.1
  have serial := take_three (answer.map charByte) (by rw [List.length_map, length])
  have activated := activateBox_putLine inside here absent (answer.map charByte)
  rw [state_writtenOut inside here] at activated
  obtain ⟨m, told⟩ : ∃ m, notify (.boxState l tx.box .active 0) s = { s with manage := m } := ⟨_, notify_manage_only _ s⟩
  have ends := (exec_identTransactionEnd flight kind good seats).trans (congrArg (fun u => Host.Outcome.next
    (endTurn l tx.box u)) activated)
  have inside' : l.val < (fitSeats l tx.box (byteAt (answer.map charByte) 2)
      (notify (.boxState l tx.box .active 0) s)).lines.lines.length := by
    rw [told]
    exact inside
  rw [endTurn_putLine inside'] at ends
  refine ⟨_, ends, ?box, ?turn, ?seats, ?told, ?counters, otherLinesStay_putLine (by rw [told]; rfl), ?rest⟩
  case box =>
    obtain ⟨r, box⟩ := turnEnded_box (b := tx.box) (z := identified (answer.map charByte) (boxAt s l tx.box)) here
    rw [boxAt_putLine inside', box, identified, serial]
  case turn =>
    rw [lineAt_putLine inside', ← serial]
    exact turnEnded_turnEnds ((List.length_set ..).trans size)
  case seats =>
    rw [told, fitSeats_eq]
    rfl
  case told => rfl
  case counters =>
    rw [lineAt_putLine inside', turnEnded_counters]
    rfl
  case rest =>
    rw [told]
    rfl

/-- Settles O50: a completed DISPLAY ends its turn; a low of the pair by the line's state. -/
theorem displayEndAndPairLow : Obligations.DisplayEndAndPairLow := by
  rintro s l x sized entry
  obtain rfl := lineAt_of_entry entry
  have inside := sized.inside l
  refine ⟨fun tx flight kind high small => ?display, fun sending sleeping => ?wake, fun sending awake idle => ?idle,
    fun tx awake flight => ?low⟩
  case display =>
    have here : tx.box < (lineAt s l).boxes.length := by rw [sized.boxes l]; exact small
    have ends := endTurn_putLine (b := tx.box) (x := lineAt s l) inside
    rw [putLine_self inside] at ends
    obtain ⟨r, box⟩ := turnEnded_boxes tx.box (lineAt s l) tx.box
    have box' : boxAt (putLine l (turnEnded tx.box (lineAt s l)) s) l tx.box = { boxAt s l tx.box with rounds := r } := by
      rw [boxAt_putLine inside, box]
      rfl
    refine ⟨_, (exec_displayTransactionEnd flight kind high).trans (congrArg Host.Outcome.next ends), ?_, ?_, ?_, ?_,
      ?_, otherLinesStay_putLine rfl, rfl⟩
    · rw [box']
    · rw [box']
    · rw [box']
    · rw [lineAt_putLine inside]
      exact turnEnded_turnEnds (sized.boxes l)
    · rw [lineAt_putLine inside, turnEnded_counters]
  case wake =>
    have woken := pairLow_sleeping entry sleeping
    exact ⟨congrArg Host.Outcome.next ((woken sending).trans (woken false).symm),
      congrArg Host.Outcome.next (woken false)⟩
  case idle =>
    have listening : pairLow l false s = s := by
      rw [pairLow_listening entry awake, idle, Option.map_none, ← idle]
      exact putLine_same entry
    have none : echoFailure l s = s := by rw [echoFailure, inFlight_of_entry entry, idle]
    refine ⟨congrArg Host.Outcome.next ?_, congrArg Host.Outcome.next listening⟩
    cases sending with
    | true => rw [pairLow_sending entry awake, none]
    | false => exact listening
  case low =>
    refine ⟨congrArg Host.Outcome.next (pairLow_sending entry awake), congrArg Host.Outcome.next ?_, rfl⟩
    rw [pairLow_listening entry awake, flight, Option.map_some]

end Sys2Proof.Proofs

/-! A successful STATUS (R25 to R29, R67, R70 to R72): the box, the two seats, the stop and the beep, each written out
on a state whose line, box and seats stand apart. -/

namespace Sys2Proof.Machine

variable {s t : State} {l b n v : Nat} {x y : Line} {z : Box} {w : Seat} {tx : Transaction}

/-! ### The layout of the answer (section 11.6) -/

theorem delta_false (new last : BitVec 4) : delta false new last = (new.toNat + 16 - last.toNat) % 16 := by
  rw [delta, if_neg Bool.false_ne_true, BitVec.toNat_sub]
  omega

theorem delta_eq_zero_iff {baseline : Bool} {new last : BitVec 4} :
    delta baseline new last = 0 ↔ baseline = true ∨ new = last := by
  cases baseline with
  | true => simp [delta]
  | false =>
    rw [delta_false, BitVec.toNat_eq]
    have := new.isLt
    have := last.isLt
    simp only [Bool.false_eq_true, false_or]
    omega

theorem lowNibble_toNat (byte : Byte) : (lowNibble byte).toNat = byte.toNat % 16 := by
  rw [lowNibble, BitVec.toNat_setWidth]

theorem highNibble_toNat (byte : Byte) : (highNibble byte).toNat = byte.toNat / 16 := by
  have small := byte.isLt
  rw [highNibble, BitVec.toNat_setWidth, BitVec.toNat_ushiftRight, Nat.shiftRight_eq_div_pow]
  omega

theorem getLsbD_iff (byte : Byte) (i : Nat) : byte.getLsbD i = true ↔ byte.toNat / 2 ^ i % 2 = 1 := by
  rw [BitVec.getLsbD, Nat.testBit_eq_decide_div_mod_eq, decide_eq_true_iff]

/-! ### A stop press and a beep (R55, R120) -/

theorem findFrom_of_first {α : Type} {p : α → Bool} {first i : Nat} {list : List α} {a : α} (at_i : list[i]? = some a)
    (found : p a = true) (before : ∀ j c, j < i → list[j]? = some c → p c = false) :
    findFrom p first list = some (first + i) := by
  induction list generalizing first i with
  | nil => exact nomatch at_i
  | cons c rest ih =>
    rw [findFrom]
    cases i with
    | zero =>
      obtain rfl := Option.some.inj at_i
      rw [if_pos found]
      rfl
    | succ i =>
      rw [if_neg (Bool.eq_false_iff.1 (before 0 c (Nat.succ_pos i) rfl)),
        ih at_i fun j d below at_j => before (j + 1) d (Nat.succ_lt_succ below) at_j]
      exact congrArg some (by omega)

theorem findFrom_of_none {α : Type} {p : α → Bool} {first : Nat} {list : List α} (none : ∀ c ∈ list, p c = false) :
    findFrom p first list = Option.none := by
  induction list generalizing first with
  | nil => rfl
  | cons c rest ih =>
    rw [findFrom, if_neg (Bool.eq_false_iff.1 (none c List.mem_cons_self))]
    exact ih fun d inside => none d (List.mem_cons_of_mem c inside)

theorem stopPress_of_refused (refused : s.route.state = .stopped ∨ s.route.requested ≠ none) : stopPress l b s = s := by
  rw [stopPress, if_pos]
  rw [Bool.or_eq_true, decide_eq_true_iff]
  exact refused.imp_right Option.ne_none_iff_isSome.1

theorem stopPress_of_none (none : ∀ c ∈ s.route.cues, ¬ stopTargets c) : stopPress l b s = s := by
  rw [stopPress, findFrom_of_none fun c inside => Bool.eq_false_iff.2 fun target => none c inside (stopTarget_iff.1 target)]
  split <;> rfl

theorem stopPress_of_target {i : Nat} {c : Cue} (running : s.route.state ≠ .stopped) (free : s.route.requested = none)
    (at_i : s.route.cues[i]? = some c) (target : stopTargets c)
    (before : ∀ j d, j < i → s.route.cues[j]? = some d → ¬ stopTargets d) :
    stopPress l b s = notify (.stopRequested c.stop i l b)
      { s with route := { s.route with requested := some { stop := c.stop, cue := i } } } := by
  rw [stopPress, findFrom_of_first at_i (stopTarget_iff.2 target) fun j d below at_j =>
    Bool.eq_false_iff.2 fun hit => before j d below at_j (stopTarget_iff.1 hit), if_neg (by simp [running, free])]
  dsimp only
  rw [Nat.zero_add, cueAt, List.getD_eq_getElem?_getD, at_i, Option.getD_some]

theorem requestBeep_of_announcement {q : Sequence} {ticket : Option Nat} {mask : ZoneMask}
    (plays : s.mix.generator = some q) (use : q.use = .announcement ticket mask) : requestBeep l b s = s := by
  rw [requestBeep]
  dsimp only
  rw [plays]
  dsimp only
  rw [use]

theorem requestBeep_of_free
    (free : ∀ q ticket mask, s.mix.generator = some q → q.use ≠ .announcement ticket mask) :
    requestBeep l b s = { s with mix := { s.mix with
      generator := some (sequenceOf (.beep l b) (chimeRecord s s.lighting.params.beepChime)) } } := by
  rw [requestBeep]
  dsimp only
  cases plays : s.mix.generator with
  | none => rfl
  | some q =>
    dsimp only
    cases use : q.use with
    | beep _ _ => rfl
    | announcement ticket mask => exact absurd use (free q ticket mask plays)

/-- A beep touches the generator alone. -/
theorem requestBeep_mix_only (l b : Nat) (s : State) : requestBeep l b s = { s with mix := (requestBeep l b s).mix } := by
  by_cases free : ∀ q ticket mask, s.mix.generator = some q → q.use ≠ .announcement ticket mask
  · rw [requestBeep_of_free free]
  · push Not at free
    obtain ⟨q, ticket, mask, plays, use⟩ := free
    rw [requestBeep_of_announcement plays use]

theorem requestBeep_mix_congr (mix : t.mix = s.mix) (lighting : t.lighting = s.lighting) :
    (requestBeep l b t).mix = (requestBeep l b s).mix := by
  by_cases free : ∀ q ticket mask, s.mix.generator = some q → q.use ≠ .announcement ticket mask
  · rw [requestBeep_of_free free, requestBeep_of_free (by rw [mix]; exact free), chimeRecord, chimeRecord, mix, lighting]
  · push Not at free
    obtain ⟨q, ticket, mask, plays, use⟩ := free
    rw [requestBeep_of_announcement plays use, requestBeep_of_announcement (by rw [mix]; exact plays) use, mix]

/-- A stop press touches the requested stop and the notices, as the route alone has it. -/
theorem stopPress_parts (l b : Nat) (s : State) :
    stopPress l b s = { s with route := (stopPress l b s).route, manage := (stopPress l b s).manage } := by
  unfold stopPress
  split
  · rfl
  · split
    · rfl
    · exact (notify_manage_only _ _).trans (by rw [notify_route])

theorem stopPress_congr (route : t.route = s.route) : (stopPress l b t).route = (stopPress l b s).route ∧
    (t.manage = s.manage → (stopPress l b t).manage = (stopPress l b s).manage) := by
  unfold stopPress
  rw [route]
  split
  · exact ⟨route, id⟩
  · split
    · exact ⟨route, id⟩
    · next i _ =>
      have stop : cueAt t i = cueAt s i := by rw [cueAt, route, cueAt]
      rw [stop]
      refine ⟨by rw [notify_route, notify_route], fun manage => notify_manage_congr _ manage⟩

end Sys2Proof.Machine

namespace Sys2Proof.Machine

variable {s t : State} {l b n v : Nat} {x y : Line} {z : Box} {w : Seat} {tx : Transaction}

/-! ### One seat (R26 to R29, R31) -/

/-- `s` with seat `n` replaced by `w`. -/
def putSeat (n : Nat) (w : Seat) (s : State) : State :=
  { s with seats := { s.seats with seats := s.seats.seats.set n w } }

theorem seatAt_putSeat (here : n < s.seats.seats.length) : seatAt (putLine l x (putSeat n w s)) n = w := by
  rw [seatAt, List.getD_eq_getElem?_getD]
  exact congrArg (Option.getD · _) (List.getElem?_set_self here)

theorem putSeat_self (here : n < s.seats.seats.length) : putSeat n (seatAt s n) s = s := by
  rw [putSeat, seatAt, List.getD_eq_getElem _ _ here, List.set_getElem_self]

theorem setSeat_putSeat (here : n < s.seats.seats.length) (f : Seat → Seat) :
    setSeat n f (putLine l x (putSeat n w s)) = putLine l x (putSeat n (f w) s) := by
  have entry : (s.seats.seats.set n w)[n]? = some w := List.getElem?_set_self here
  have modified : (s.seats.seats.set n w).modify n f = s.seats.seats.set n (f w) := by
    rw [List.modify_eq_set_getElem?, entry]
    exact List.set_set ..
  exact congrArg (fun list => putLine l x { s with seats := { s.seats with seats := list } }) modified

/-- Seat `n` belongs to box `b` of line `l`. -/
def seatOf (l b n : Nat) : Prop := n / 24 = l ∧ n % 24 / 2 = b

theorem seatOf_seatNumber {side : Nat} (small : b < 12) (two : side < 2) : seatOf l b (seatNumber l b side) := by
  unfold seatOf seatNumber
  omega

/-- `z` marked display pending where `marks` (R31). -/
def markedBox (marks : Bool) (z : Box) : Box := { z with displayPending := z.displayPending || marks }

theorem markedBox_false (z : Box) : markedBox false z = z := by rw [markedBox, Bool.or_false]

theorem markedBox_markedBox (first second : Bool) (z : Box) :
    markedBox second (markedBox first z) = markedBox (first || second) z := by
  simp only [markedBox, Bool.or_assoc]

/-- Whether one side of a delivery marks the box of seat `w`: its jack, its ups, its downs, its languages (R31). -/
def sideMark (map : List LangEntry) (defaultStep : Nat) (baseline : Bool) (side : SideStatus) (w : Seat) : Bool :=
  let plugged := if side.jack && !w.jack then defaultStep else w.volume
  let raised := afterUp plugged (delta baseline side.up w.lastUp)
  w.fitted && (decide (plugged ≠ w.volume) || (decide (raised ≠ plugged) ||
    (decide (raised - delta baseline side.down w.lastDown ≠ raised) ||
      decide (stepLanguage map (delta baseline side.language w.lastLanguage) w.language ≠ w.language))))

theorem sideMark_iff {map : List LangEntry} {defaultStep : Nat} {baseline : Bool} {side : SideStatus} :
    sideMark map defaultStep baseline side w = true ↔ sideMarks map defaultStep baseline side w := by
  simp only [sideMark, sideMarks, afterUp, Bool.and_eq_true, Bool.or_eq_true, decide_eq_true_iff, exists_and_left,
    exists_eq_left]

section

variable (inside : l < s.lines.lines.length) (here : b < x.boxes.length) (owned : seatOf l b n)
  (seat : n < s.seats.seats.length)
include inside here owned

theorem markSeat_putLine : markSeat n (putLine l (putBox b z x) s) = putLine l (putBox b (markedBox true z) x) s := by
  rw [markSeat, owned.1, owned.2, markDisplay, setBox_putLine inside here, markedBox, Bool.or_true]

include seat

theorem setVolume_putSeat (v : Nat) : setVolume n v (putLine l (putBox b z x) (putSeat n w s)) =
    putLine l (putBox b (markedBox (decide (v ≠ w.volume)) z) x) (putSeat n { w with volume := v } s) := by
  rw [setVolume, seatAt_putSeat seat]
  by_cases same : w.volume = v
  · rw [if_pos same, decide_eq_false (not_not.2 same.symm), markedBox_false, ← same]
  · rw [if_neg same, setSeat_putSeat seat, markSeat_putLine (s := putSeat n _ s) inside here owned,
      decide_eq_true (Ne.symm same)]

theorem setLanguage_putSeat (language : Option Nat) : setLanguage n language (putLine l (putBox b z x) (putSeat n w s)) =
    putLine l (putBox b (markedBox (decide (language ≠ w.language)) z) x)
      (putSeat n { w with language := language } s) := by
  rw [setLanguage, seatAt_putSeat seat]
  by_cases same : w.language = language
  · rw [if_pos same, decide_eq_false (not_not.2 same.symm), markedBox_false, ← same]
  · rw [if_neg same, setSeat_putSeat seat, markSeat_putLine (s := putSeat n _ s) inside here owned,
      decide_eq_true (Ne.symm same)]

theorem takeJack_putSeat (jack : Bool) : takeJack n jack (putLine l (putBox b z x) (putSeat n w s)) =
    putLine l (putBox b (markedBox (decide
        ((if jack && !w.jack then s.mix.params.defaultStep else w.volume) ≠ w.volume)) z) x)
      (putSeat n { w with
        jack := jack, volume := if jack && !w.jack then s.mix.params.defaultStep else w.volume } s) := by
  rw [takeJack]
  rw [seatAt_putSeat seat, setSeat_putSeat seat]
  split
  · exact setVolume_putSeat inside here owned seat _
  · rw [decide_eq_false (not_not.2 rfl), markedBox_false]

/-- One side of a delivery at its seat: the seat by R26 to R29, and the mark by R31. -/
theorem deliverSide_putSeat (baseline : Bool) (side : SideStatus) :
    deliverSide baseline n side (putLine l (putBox b z x) (putSeat n w s)) =
      putLine l (putBox b (markedBox (sideMark s.seats.map s.mix.params.defaultStep baseline side w) z) x)
        (putSeat n (seatAfter s.seats.map s.mix.params.defaultStep baseline side w) s) := by
  rw [deliverSide, seatAt_putSeat seat]
  cases fitted : w.fitted with
  | false =>
    rw [seatAfter, sideMark, fitted, Bool.false_and, markedBox_false]
    rfl
  | true =>
    dsimp only
    rw [if_pos rfl, setSeat_putSeat seat, takeJack_putSeat inside here owned seat, seatAt_putSeat seat,
      setVolume_putSeat inside here owned seat, seatAt_putSeat seat, setVolume_putSeat inside here owned seat,
      seatAt_putSeat seat, setLanguage_putSeat inside here owned seat, markedBox_markedBox, markedBox_markedBox,
      markedBox_markedBox, seatAfter, if_pos fitted, sideMark, fitted, Bool.true_and]
    rfl

end

/-! ### What a STATUS delivers, part by part -/

/-- Seat `n`'s part of the state, the seat replaced by what `f` makes of it. -/
theorem modify_seat {f : Seat → Seat} (here : n < s.seats.seats.length) :
    s.seats.seats.set n (f (seatAt s n)) = s.seats.seats.modify n f := by
  rw [List.modify_eq_set_getElem?, seatAt, List.getD_eq_getElem?_getD, List.getElem?_eq_getElem here]
  rfl

/-- The seats once both sides of `a` have been delivered. -/
def deliveredSeats (l b : Nat) (baseline : Bool) (a : StatusAnswer) (s : State) : SeatStore :=
  { s.seats with
    seats := (s.seats.seats.modify (seatNumber l b 0)
        (seatAfter s.seats.map s.mix.params.defaultStep baseline a.sideA)).modify (seatNumber l b 1)
      (seatAfter s.seats.map s.mix.params.defaultStep baseline a.sideB) }

/-- The delivery marks the box: either side does. -/
def deliveryMark (l b : Nat) (baseline : Bool) (a : StatusAnswer) (s : State) : Bool :=
  sideMark s.seats.map s.mix.params.defaultStep baseline a.sideA (seatAt s (seatNumber l b 0)) ||
    sideMark s.seats.map s.mix.params.defaultStep baseline a.sideB (seatAt s (seatNumber l b 1))

theorem deliverStatus_putLine (inside : l < s.lines.lines.length) (here : b < x.boxes.length) (small : b < 12)
    (fourth : l < 4) (size : s.seats.seats.length = 96) (baseline : Bool) (a : StatusAnswer) :
    deliverStatus l b baseline a (putLine l (putBox b z x) s) =
      putLine l (putBox b (markedBox (deliveryMark l b baseline a s) z) x)
        { s with seats := deliveredSeats l b baseline a s } := by
  have seat0 : seatNumber l b 0 < s.seats.seats.length := by unfold seatNumber; omega
  have seat1 : seatNumber l b 1 < s.seats.seats.length := by unfold seatNumber; omega
  have apart : seatNumber l b 1 ≠ seatNumber l b 0 := by unfold seatNumber; omega
  have first := deliverSide_putSeat (z := z) (w := seatAt s (seatNumber l b 0)) inside here
    (seatOf_seatNumber small (side := 0) (by omega)) seat0 baseline a.sideA
  rw [putSeat_self seat0] at first
  rw [deliverStatus, first]
  generalize whole : putSeat (seatNumber l b 0) _ s = u
  have seats : u.seats.seats.length = s.seats.seats.length := by rw [← whole]; exact List.length_set
  have other : seatAt u (seatNumber l b 1) = seatAt s (seatNumber l b 1) := by
    rw [← whole, seatAt, seatAt, List.getD_eq_getElem?_getD, List.getD_eq_getElem?_getD]
    exact congrArg (Option.getD · _) (List.getElem?_set_ne (Ne.symm apart))
  have second := deliverSide_putSeat (s := u) (w := seatAt u (seatNumber l b 1)) (x := x) (l := l)
    (z := markedBox (sideMark s.seats.map s.mix.params.defaultStep baseline a.sideA (seatAt s (seatNumber l b 0))) z)
    (by rw [← whole]; exact inside) here (seatOf_seatNumber small (side := 1) (by omega)) (by rw [seats]; exact seat1) baseline a.sideB
  rw [putSeat_self (by rw [seats]; exact seat1)] at second
  rw [second, other, markedBox_markedBox]
  have lists : u.seats.seats.set (seatNumber l b 1) (seatAfter s.seats.map s.mix.params.defaultStep baseline a.sideB
      (seatAt s (seatNumber l b 1))) = (deliveredSeats l b baseline a s).seats := by
    rw [← other, modify_seat (by rw [seats]; exact seat1), ← whole]
    exact congrArg (List.modify · _ _) (modify_seat seat0)
  subst whole
  exact congrArg (fun list => putLine l _ { s with seats := { s.seats with seats := list } }) lists

/-- The box's state after a successful STATUS (R67). -/
def judgedState (z : Box) : BoxState :=
  match z.state with
  | .suspect => if z.faultCount - 1 < 8 then .active else .suspect
  | .isolated => .suspect
  | other => other

/-- The box's fault count after a successful STATUS (R67). -/
def judgedCount (z : Box) : Nat := if z.state = .isolated then 16 else z.faultCount - 1

/-- The box once a STATUS has succeeded at it (R67). -/
def judgedBox (z : Box) : Box := { z with state := judgedState z, faultCount := judgedCount z }

theorem judgedBox_baselinePending : (judgedBox z).baselinePending = z.baselinePending := rfl

theorem boxSuccess_putLine (inside : l < s.lines.lines.length) (here : b < x.boxes.length) (seen : z.state ≠ .absent) :
    boxSuccess l b (putLine l (putBox b z x) s) =
      putLine l (putBox b (judgedBox z) x)
        (notifyIf (judgedState z ≠ z.state) (.boxState l b (judgedState z) (judgedCount z)) s) := by
  rw [boxSuccess, boxAt_putBox inside here, judgedBox, judgedState, judgedCount]
  cases state : z.state
  case absent => exact absurd state seen
  all_goals
    dsimp only
    rw [setBoxState_putLine inside here, state]
    simp

theorem seatAfter_fitted (map : List LangEntry) (step : Nat) (baseline : Bool) (side : SideStatus) :
    (seatAfter map step baseline side w).fitted = w.fitted := by
  unfold seatAfter
  split <;> rfl

theorem getD_modify_fitted {list : List Seat} {f : Seat → Seat} (keeps : ∀ w, (f w).fitted = w.fitted) (n m : Nat)
    (d : Seat) : ((list.modify n f).getD m d).fitted = (list.getD m d).fitted := by
  rw [List.getD_eq_getElem?_getD, List.getD_eq_getElem?_getD, List.getElem?_modify]
  cases list[m]? with
  | none => rfl
  | some w => by_cases same : n = m <;> simp [same, keeps]

theorem headsetIn_delivered {baseline : Bool} {a : StatusAnswer} (seats : t.seats = deliveredSeats l b baseline a s) :
    headsetIn l b a t = headsetIn l b a s := by
  have fitted : ∀ m, (seatAt t m).fitted = (seatAt s m).fitted := fun m => by
    rw [seatAt, seats]
    exact (getD_modify_fitted (fun _ => seatAfter_fitted ..) _ m _).trans
      (getD_modify_fitted (fun _ => seatAfter_fitted ..) _ m _)
  rw [headsetIn, fitted, fitted, headsetIn]

theorem stopPress_putLine (m : Nat) : stopPress l b (putLine m x s) = putLine m x (stopPress l b s) := by
  obtain ⟨route, manage⟩ := stopPress_congr (l := l) (b := b) (t := putLine m x s) (s := s) rfl
  rw [stopPress_parts l b (putLine m x s), stopPress_parts l b s, route, manage rfl]
  rfl

theorem requestBeep_putLine (m : Nat) : requestBeep l b (putLine m x s) = putLine m x (requestBeep l b s) := by
  rw [requestBeep_mix_only l b (putLine m x s), requestBeep_mix_only l b s,
    requestBeep_mix_congr (t := putLine m x s) (s := s) rfl rfl]
  rfl

/-- A stop press and its beep, where `pressed` (R71). -/
def pressIf (pressed : Prop) [Decidable pressed] (l b : Nat) (s : State) : State :=
  if pressed then requestBeep l b (stopPress l b s) else s

theorem takeStop_putLine (inside : l < s.lines.lines.length) (here : b < x.boxes.length) (baseline : Bool)
    (stop : BitVec 4) : takeStop l b baseline stop (putLine l (putBox b z x) s) =
      putLine l (putBox b { z with lastStop := stop } x)
        (pressIf (baseline = false ∧ stop ≠ z.lastStop) l b s) := by
  rw [takeStop, boxAt_putBox inside here]
  rw [setBox_putLine inside here, pressIf]
  by_cases none : delta baseline stop z.lastStop = 0
  · rw [if_pos none, if_neg]
    rintro ⟨false, changed⟩
    rcases delta_eq_zero_iff.1 none with true | same
    · exact Bool.false_ne_true (false.symm.trans true)
    · exact changed same
  · rw [if_neg none, stopPress_putLine, requestBeep_putLine, if_pos]
    rw [delta_eq_zero_iff, not_or, Bool.not_eq_true] at none
    exact none

theorem takeBoxFault_putLine (inside : l < s.lines.lines.length) (here : b < x.boxes.length) (value : Bool) :
    takeBoxFault l b value (putLine l (putBox b z x) s) =
      putLine l (putBox b { z with boxFault := value } x) (notifyIf (value ≠ z.boxFault) (.boxFault l b value) s) := by
  rw [takeBoxFault, boxAt_putBox inside here, notifyIf]
  by_cases same : z.boxFault = value
  · rw [if_pos same, if_neg (not_not.2 same.symm), ← same]
  · rw [if_neg same, if_pos (Ne.symm same), setBox_putLine inside here, notify_putLine]

theorem setLine_quietRestart (inside : l < s.lines.lines.length) (headset : Prop) [Decidable headset] :
    (if headset then setLine l quietRestart (putLine l (putBox b z x) s) else putLine l (putBox b z x) s) =
      putLine l (putBox b z (if headset then quietRestart x else x)) s := by
  split
  · rw [setLine_putLine inside]
    rfl
  · rfl

/-- The box after a successful STATUS whose delivery marks it where `marks`. -/
def statusBox (a : StatusAnswer) (marks : Bool) (z : Box) : Box :=
  { z with
    state := judgedState z, faultCount := judgedCount z, baselinePending := false, lastStop := a.stop
    boxFault := a.boxFault, displayPending := z.displayPending || marks }

/-- The state but for its lines after a successful STATUS. -/
def statusRest (l b : Nat) (a : StatusAnswer) (z : Box) (s : State) : State :=
  notifyIf (a.boxFault ≠ z.boxFault) (.boxFault l b a.boxFault)
    (pressIf (z.baselinePending = false ∧ a.stop ≠ z.lastStop) l b
      { notifyIf (judgedState z ≠ z.state) (.boxState l b (judgedState z) (judgedCount z)) s with
        seats := deliveredSeats l b z.baselinePending a s })

theorem notifyIf_parts (told : Prop) [Decidable told] (n : Notice) (s : State) :
    notifyIf told n s = { s with manage := (notifyIf told n s).manage } := by
  obtain ⟨m, eq⟩ := notifyIf_eq told n s
  rw [eq]

theorem pressIf_parts (pressed : Prop) [Decidable pressed] (l b : Nat) (s : State) :
    ∃ m r g, pressIf pressed l b s = { s with mix := m, route := r, manage := g } := by
  unfold pressIf
  split
  · rw [requestBeep_mix_only, stopPress_parts]
    exact ⟨_, _, _, rfl⟩
  · exact ⟨_, _, _, rfl⟩

theorem pressIf_lines (pressed : Prop) [Decidable pressed] (l b : Nat) (s : State) :
    (pressIf pressed l b s).lines = s.lines := by
  obtain ⟨m, r, g, parts⟩ := pressIf_parts pressed l b s
  rw [parts]

theorem actOnStatus_putLine (inside : l < s.lines.lines.length) (here : b < x.boxes.length) (small : b < 12)
    (fourth : l < 4) (size : s.seats.seats.length = 96) (seen : z.state ≠ .absent) (a : StatusAnswer) :
    actOnStatus l b a (putLine l (putBox b z x) s) =
      putLine l (putBox b (statusBox a (deliveryMark l b z.baselinePending a s) z)
        (if headsetIn l b a s then quietRestart x else x)) (statusRest l b a z s) := by
  obtain ⟨g, told⟩ := notifyIf_eq (judgedState z ≠ z.state) (.boxState l b (judgedState z) (judgedCount z)) s
  generalize delivered : { s with manage := g, seats := deliveredSeats l b z.baselinePending a s } = u
  have inside' : l < u.lines.lines.length := by rw [← delivered]; exact inside
  have here' : b < (if headsetIn l b a s then quietRestart x else x).boxes.length := by split <;> exact here
  have headset : ∀ y, headsetIn l b a (putLine l y u) = headsetIn l b a s := fun y =>
    headsetIn_delivered (baseline := z.baselinePending) (by rw [← delivered]; rfl)
  have delivery := deliverStatus_putLine (z := judgedBox z) (s := { s with manage := g }) (by exact inside) here small
    fourth (by exact size) z.baselinePending a
  have delivery := delivery.trans (congrArg (putLine l _) (show _ = u from delivered))
  rw [actOnStatus, boxSuccess_putLine inside here seen, statusRest, told, boxAt_putBox (by exact inside) here,
    judgedBox_baselinePending, delivery, setBox_putLine inside' here, headset, setLine_quietRestart inside',
    takeStop_putLine inside' here', takeBoxFault_putLine ?_ here', delivered]
  · rfl
  · rw [pressIf_lines]
    exact inside'

end Sys2Proof.Machine

namespace Sys2Proof.Machine

variable {s t : State} {l b n v : Nat} {x y : Line} {z : Box} {w : Seat} {tx : Transaction} {a : StatusAnswer}

/-! ### What the rest of the state has after a STATUS -/

theorem pressIf_route (pressed : Prop) [Decidable pressed] (l b : Nat) (s : State) :
    (pressIf pressed l b s).route = if pressed then (stopPress l b s).route else s.route := by
  unfold pressIf
  split
  · rw [requestBeep_mix_only]
  · rfl

theorem pressIf_mix (pressed : Prop) [Decidable pressed] (l b : Nat) (s : State) :
    (pressIf pressed l b s).mix = if pressed then (requestBeep l b s).mix else s.mix := by
  unfold pressIf
  split
  · rw [stopPress_parts]
    exact requestBeep_mix_congr rfl rfl
  · rfl

theorem pressIf_manage (pressed : Prop) [Decidable pressed] (l b : Nat) (s : State) :
    (pressIf pressed l b s).manage = if pressed then (stopPress l b s).manage else s.manage := by
  unfold pressIf
  split
  · rw [requestBeep_mix_only]
  · rfl

/-- The state but for its lines, up to the notice of the box-fault. -/
theorem statusRest_eq (l b : Nat) (a : StatusAnswer) (z : Box) (s : State) : ∃ u,
    u.route = s.route ∧ u.mix = s.mix ∧ u.lighting = s.lighting ∧
      u.manage = (notifyIf (judgedState z ≠ z.state) (.boxState l b (judgedState z) (judgedCount z)) s).manage ∧
      u = { s with seats := deliveredSeats l b z.baselinePending a s, manage := u.manage } ∧
      statusRest l b a z s = notifyIf (a.boxFault ≠ z.boxFault) (.boxFault l b a.boxFault)
        (pressIf (z.baselinePending = false ∧ a.stop ≠ z.lastStop) l b u) := by
  obtain ⟨g, told⟩ := notifyIf_eq (judgedState z ≠ z.state) (.boxState l b (judgedState z) (judgedCount z)) s
  rw [statusRest, told]
  exact ⟨{ s with seats := deliveredSeats l b z.baselinePending a s, manage := g }, rfl, rfl, rfl, rfl, rfl, rfl⟩

theorem statusRest_parts (l b : Nat) (a : StatusAnswer) (z : Box) (s : State) : ∃ m r g,
    statusRest l b a z s =
      { s with seats := deliveredSeats l b z.baselinePending a s, mix := m, route := r, manage := g } := by
  obtain ⟨u, -, -, -, -, parts, eq⟩ := statusRest_eq l b a z s
  obtain ⟨m, r, g, pressed⟩ := pressIf_parts (z.baselinePending = false ∧ a.stop ≠ z.lastStop) l b u
  rw [eq, notifyIf_parts, pressed, parts]
  exact ⟨m, r, _, rfl⟩

theorem statusRest_route_mix (l b : Nat) (a : StatusAnswer) (z : Box) (s : State) :
    ((statusRest l b a z s).route =
      if z.baselinePending = false ∧ a.stop ≠ z.lastStop then (stopPress l b s).route else s.route) ∧
    (statusRest l b a z s).mix =
      if z.baselinePending = false ∧ a.stop ≠ z.lastStop then (requestBeep l b s).mix else s.mix := by
  obtain ⟨u, route, mix, lighting, -, -, eq⟩ := statusRest_eq l b a z s
  rw [eq, notifyIf_parts]
  dsimp only
  rw [pressIf_route, pressIf_mix, (stopPress_congr route).1, requestBeep_mix_congr mix lighting, route, mix]
  exact ⟨rfl, rfl⟩

theorem notifyIf_manage_congr (told : Prop) [Decidable told] (n : Notice) (same : t.manage = s.manage) :
    (notifyIf told n t).manage = (notifyIf told n s).manage := by
  unfold notifyIf
  split
  · exact notify_manage_congr n same
  · exact same

theorem notifyIf_not (same : Prop) [Decidable same] (n : Notice) (s : State) :
    notifyIf (¬ same) n s = if same then s else notify n s := ite_not ..

theorem statusRest_manage {u v : State}
    (first : u = if judgedState z = z.state then s else notify (.boxState l b (judgedState z) (judgedCount z)) s)
    (second : v = if z.baselinePending = false ∧ a.stop ≠ z.lastStop then stopPress l b u else u) :
    (statusRest l b a z s).manage =
      (if a.boxFault = z.boxFault then v else notify (.boxFault l b a.boxFault) v).manage := by
  obtain ⟨m, route, -, -, manage, -, eq⟩ := statusRest_eq l b a z s
  rw [← notifyIf_not (judgedState z = z.state)] at first
  have manage' : m.manage = u.manage := by rw [manage, first]
  have route' : m.route = u.route := by rw [route, first, notifyIf_parts]
  rw [eq, ← notifyIf_not (a.boxFault = z.boxFault)]
  refine notifyIf_manage_congr _ _ ?_
  rw [pressIf_manage, second]
  split
  · exact (stopPress_congr route').2 manage'
  · exact manage'

/-- The sleep of a line after a STATUS: a headset restarts the quiet timer (R70, R74). -/
theorem turnGoesOn.quiet {shown : Prop} {state : BoxState} (goesOn : turnGoesOn l b state shown s z x y)
    (awake : x.sleepPending = false) : y.quiet = x.quiet ∧ y.sleepPending = false := by
  by_cases isShown : shown
  · rw [goesOn.1 isShown]
    exact ⟨rfl, awake⟩
  · rw [goesOn.2 isShown]
    exact turnEnded_quiet (x := putBox b z x) awake

theorem exec_statusTransactionEnd {l : Fin 4} {answer : List LineChar} (flight : (lineAt s l).transaction = some tx)
    (kind : tx.kind = .status) (good : goodAnswer tx 4 answer) :
    exec (.statusTransactionEnd l answer) s =
      .next (afterStatus l tx true (actOnStatus l tx.box (decodeStatus (answer.map charByte)) s)) := by
  show execStatusTransactionEnd l answer s = _
  rw [execStatusTransactionEnd, inFlight, flight]
  dsimp only
  rw [kind, judgeAnswer_eq_none_iff.2 good]

theorem headsetIn_iff : headsetIn l b a s = true ↔
    (a.sideA.jack = true ∧ (seatAt s (seatNumber l b 0)).fitted = true) ∨
      (a.sideB.jack = true ∧ (seatAt s (seatNumber l b 1)).fitted = true) := by
  rw [headsetIn, Bool.or_eq_true, Bool.and_eq_true, Bool.and_eq_true]

theorem deliveryMark_iff {baseline : Bool} : deliveryMark l b baseline a s = true ↔
    sideMarks s.seats.map s.mix.params.defaultStep baseline a.sideA (seatAt s (seatNumber l b 0)) ∨
      sideMarks s.seats.map s.mix.params.defaultStep baseline a.sideB (seatAt s (seatNumber l b 1)) := by
  rw [deliveryMark, Bool.or_eq_true, sideMark_iff, sideMark_iff]

theorem statusBox_displayPending {marks : Bool} :
    (statusBox a marks z).displayPending = true ↔ z.displayPending = true ∨ marks = true := Bool.or_eq_true_iff

/-- The line of a STATUS: with a headset in, its quiet timer restarted. -/
def quietLine (headset : Bool) (x : Line) : Line := if headset then quietRestart x else x

theorem quietLine_awake {headset : Bool} :
    (quietLine headset x).sleepPending = false ↔ (x.sleepPending = true → headset = true) := by
  cases headset with
  | true => exact ⟨fun _ _ => rfl, fun _ => rfl⟩
  | false => rw [quietLine, if_neg Bool.false_ne_true]; simp

theorem displayIsNext_status_iff {marks headset : Bool} :
    displayIsNext tx (true = true) (statusBox a marks z) (quietLine headset x) ↔
      (z.displayPending = true ∨ marks = true) ∧
        ((tx.turnState = .active ∧ judgedState z = .active) ∨ tx.turnState = .suspect) ∧
        (x.sleepPending = true → headset = true) := by
  rw [displayIsNext, statusBox_displayPending, quietLine_awake, and_iff_left (rfl : true = true)]
  rfl

theorem quietLine_counters (headset : Bool) (x : Line) : failureCounters (quietLine headset x) = failureCounters x := by
  unfold quietLine
  split <;> rfl

theorem quietLine_boxes (headset : Bool) (x : Line) : (quietLine headset x).boxes = x.boxes := by
  unfold quietLine
  split <;> rfl

/-- The line that R70 leaves, recognised by its quiet timer and its sleep. -/
theorem putBox_quietLine {headset : Bool} (restarted : headset = true → y.quiet = some (Config.ms 60000) ∧
      y.sleepPending = false)
    (left : ¬ headset = true → y.quiet = x.quiet ∧ y.sleepPending = x.sleepPending) : putBox b z (quietLine headset x) =
      { x with quiet := y.quiet, sleepPending := y.sleepPending, boxes := x.boxes.set b z } := by
  cases headset with
  | true =>
    obtain ⟨quiet, sleep⟩ := restarted rfl
    rw [quiet, sleep]
    rfl
  | false =>
    obtain ⟨quiet, sleep⟩ := left Bool.false_ne_true
    rw [quiet, sleep]
    rfl

end Sys2Proof.Machine

namespace Sys2Proof.Proofs
open Sys2Proof Sys2Proof.Machine

/-- Settles O47: the STATUS acts on its box, its two seats and the rest of the state, each written out, and the turn
goes on from there. -/
theorem statusDeliversBothSides : Obligations.StatusDeliversBothSides := by
  refine ⟨fun new last => ⟨rfl, delta_false new last⟩, ?layout, fun s l b => ⟨stopPress_of_refused, fun none =>
    stopPress_of_none none, fun i c running free at_i target before => stopPress_of_target running free at_i target before,
    fun q ticket mask plays use => requestBeep_of_announcement plays use, requestBeep_of_free⟩, ?acts⟩
  case layout =>
    rintro bytes a rfl
    refine ⟨lowNibble_toNat _, highNibble_toNat _, lowNibble_toNat _, highNibble_toNat _, lowNibble_toNat _,
      highNibble_toNat _, lowNibble_toNat _, getLsbD_iff _ 4, getLsbD_iff _ 5, getLsbD_iff _ 6⟩
  case acts =>
    rintro s l tx x answer a now count headset marked shown sized flight kind small rfl seen good rfl isCount isNow
      headsetIff markedIff shownIff
    obtain rfl : count = judgedCount (boxAt s l tx.box) := isCount
    obtain rfl : now = judgedState (boxAt s l tx.box) := isNow
    have inside := sized.inside l
    have size := sized.boxes l
    have here : tx.box < (lineAt s l).boxes.length := by omega
    rw [← headsetIn_iff] at headsetIff
    rw [← deliveryMark_iff] at markedIff
    have acted := actOnStatus_putLine inside here small l.isLt sized.2.1 seen (decodeStatus (answer.map charByte))
    rw [state_writtenOut inside here] at acted
    have ran := exec_statusTransactionEnd flight kind good
    generalize decodeStatus (answer.map charByte) = a at *
    generalize isBox : boxAt s l tx.box = x at *
    generalize isMark : deliveryMark l tx.box x.baselinePending a s = marks at *
    generalize isHeadset : headsetIn l tx.box a s = plugged at *
    obtain ⟨mix, route, manage, parts⟩ := statusRest_parts l tx.box a x s
    have lines : (statusRest l tx.box a x s).lines = s.lines := by rw [parts]
    have inside' : l.val < (statusRest l tx.box a x s).lines.lines.length := by rw [lines]; exact inside
    have size' : (quietLine plugged (lineAt s l)).boxes.length = 12 := by rw [quietLine_boxes, size]
    have here' : tx.box < (quietLine plugged (lineAt s l)).boxes.length := by omega
    obtain ⟨y, goes, follows, ends⟩ := afterStatus_putLine (tx := tx) (z := statusBox a marks x) inside' here' true
    have shows : shown ↔ displayIsNext tx (true = true) (statusBox a marks x) (quietLine plugged (lineAt s l)) := by
      rw [displayIsNext_status_iff, shownIff, markedIff, headsetIff]
    have goesOn : turnGoesOn l tx.box tx.turnState shown (statusRest l tx.box a x s) (statusBox a marks x)
        (quietLine plugged (lineAt s l)) y := ⟨fun next => follows (shows.1 next), fun last => ends (mt shows.2 last)⟩
    obtain ⟨r, d, box, cleared, kept⟩ := goesOn.box here'
    have boxIs : boxAt (putLine l y (statusRest l tx.box a x s)) l tx.box =
      { statusBox a marks x with rounds := r, displayPending := d } := by rw [boxAt_putLine inside', box]
    refine ⟨putLine l y (statusRest l tx.box a x s), ?exec, ?seats, ?_, ?_, ?_, ?_, ?_, ?counters, ?quiet, ?still, ?pressed,
      ?turn, ?mark, ?told, otherLinesStay_putLine lines, ?rest⟩
    case exec => rw [ran, acted, ← goes]; rfl
    case seats => rw [parts]; rfl
    case counters => rw [lineAt_putLine inside', goesOn.counters, quietLine_counters]
    case quiet =>
      intro plug
      rw [lineAt_putLine inside']
      obtain ⟨quiet, awake⟩ := goesOn.quiet (quietLine_awake.2 fun _ => headsetIff.1 plug)
      rw [quiet, quietLine, if_pos (headsetIff.1 plug)]
      exact ⟨rfl, awake⟩
    case still =>
      intro none
      have no : ¬ (x.baselinePending = false ∧ a.stop ≠ x.lastStop) := fun ⟨delivered, changed⟩ =>
        none.elim (fun yes => Bool.false_ne_true (delivered.symm.trans yes)) changed
      obtain ⟨routeIs, mixIs⟩ := statusRest_route_mix l tx.box a x s
      rw [if_neg no] at routeIs mixIs
      exact ⟨routeIs, mixIs⟩
    case pressed =>
      intro delivered changed
      obtain ⟨routeIs, mixIs⟩ := statusRest_route_mix l tx.box a x s
      rw [if_pos ⟨delivered, changed⟩] at routeIs mixIs
      exact ⟨routeIs, mixIs⟩
    case turn =>
      intro X d' isD restarted left isX
      have isD' : d' = (statusBox a marks x).displayPending := by
        rw [Bool.eq_iff_iff, isD, markedIff, statusBox_displayPending]
      have isLine : X = putBox tx.box (statusBox a marks x) (quietLine plugged (lineAt s l)) := by
        rw [putBox_quietLine (fun plug => restarted (headsetIff.2 plug)) fun none => left (mt headsetIff.1 none)]
        rw [isD'] at isX
        exact isX
      rw [isLine, lineAt_putLine inside']
      exact ⟨(goesOn.seats (t := statusRest l tx.box a x s) rfl).displayBegun here', goesOn.turnEnds size'⟩
    case mark =>
      rw [boxIs, markedIff, ← statusBox_displayPending (a := a)]
      by_cases next : shown
      · rw [cleared next]
        exact ⟨nofun, fun both => absurd next both.2⟩
      · rw [kept next]
        exact ⟨fun yes => ⟨yes, next⟩, fun both => both.1⟩
    case told =>
      rintro u v first second
      exact statusRest_manage first second
    case rest => rw [parts]; rfl
    all_goals rw [boxIs]; rfl

end Sys2Proof.Proofs

/-! The announcement controller (chapter 8): the entry that starts, what follows an ending, and the endings by the
timers, the chime, the END and the first kept block (R141 to R145, R147, R150). -/

namespace Sys2Proof.Machine

variable {s t : State} {e w : Entry} {rest : List Entry} {notices : List Notice}

/-! ### The alert scene (R147, R157) -/

theorem setAlert_relit (scene : Option Nat) (s : State) :
    relit s.lighting { s.lighting with alert := scene } (setAlert scene s).lighting := by
  by_cases held : s.lighting.alert = scene
  · subst held
    rw [setAlert, if_pos rfl]
    exact relit_refl _
  · rw [setAlert, if_neg held]
    exact relit_resolve (fun same => held (congrArg Lighting.alert same).symm) rfl

theorem setAlert_lighting_only (scene : Option Nat) (s : State) :
    setAlert scene s = { s with lighting := (setAlert scene s).lighting } := by
  unfold setAlert
  split <;> rfl

theorem setAlert_lighting_congr {scene : Option Nat} (same : t.lighting = s.lighting) :
    (setAlert scene t).lighting = (setAlert scene s).lighting := by
  unfold setAlert
  rw [same]
  split
  · exact same
  · rfl

/-! ### The entry that takes the path (R141, R143) -/

/-- The entry `w` as it takes the path. -/
def startedEntry (s : State) (w : Entry) : Entry :=
  { w with
    state := if (classRecord s w.cls).chime.isSome then .startingChime else .startingClip
    ticket := some (nextTicket s.announce.tickets), chime := (classRecord s w.cls).chime
    maxSeconds := (classRecord s w.cls).maxSeconds }

/-- The chime generator once `w` has taken the path. -/
def startedGenerator (s : State) (w : Entry) : Option Sequence :=
  match (classRecord s w.cls).chime with
  | some n => some (sequenceOf (.announcement (some (nextTicket s.announce.tickets)) w.mask) (chimeRecord s n))
  | none => s.mix.generator

theorem startEntry_eq (w : Entry) (s : State) : startEntry w s =
    { s with
      announce := { s.announce with
        path := some (startedEntry s w), tickets := nextTicket s.announce.tickets
        startTimer := if (classRecord s w.cls).chime.isSome then s.announce.startTimer else some (Config.ms 250)
        durationTimer := if (classRecord s w.cls).chime.isSome then s.announce.durationTimer else none }
      mix := { s.mix with generator := startedGenerator s w } } := by
  rw [startEntry, startedEntry, startedGenerator]
  dsimp only
  cases chime : (classRecord s w.cls).chime with
  | none => rfl
  | some n => rfl

/-! ### The start step and what follows an ending (R141, R145, R147), while the link is UP -/

theorem startStep_of_empty (path : s.announce.path = none) (waiting : s.announce.waiting = []) :
    startStep s = (s, false) := by
  rw [startStep, path]
  dsimp only
  split
  · rw [waiting]
  · rw [waiting, List.length_nil, startDown]

theorem startStep_of_next (path : s.announce.path = none) (waiting : s.announce.waiting = w :: rest)
    (up : s.link.state = .up) : startStep s = (startEntry w (setWaiting rest s), false) := by
  rw [startStep, path]
  dsimp only
  rw [if_pos up, waiting]

theorem reportAlert_of_free (path : s.announce.path = none) : reportAlert s = setAlert none s := by
  rw [reportAlert, path]
  rfl

theorem reportAlert_of_held (path : s.announce.path = some e) : reportAlert s = setAlert e.scene s := by
  rw [reportAlert, path]
  rfl

theorem reportIfFree_of_held (path : s.announce.path = some e) : reportIfFree s = s := by
  rw [reportIfFree, path]

theorem reportIfFree_of_free (path : s.announce.path = none) : reportIfFree s = pathFreeReport s := by
  rw [reportIfFree, path]

theorem pathFreeReport_of_other (other : s.segment.live ≠ .requested) : pathFreeReport s = s := by
  unfold pathFreeReport
  split
  · next requested => exact absurd requested other
  · rfl

theorem pathFreeReport_of_requested (requested : s.segment.live = .requested) :
    pathFreeReport s = grantLive (s.segment.heldMask &&& eligible s) s := by
  rw [pathFreeReport, requested]

theorem setAlert_announce (scene : Option Nat) (s : State) : (setAlert scene s).announce = s.announce := by
  rw [setAlert_lighting_only]

/-- An ending with nothing waiting leaves the path IDLE. -/
theorem afterEnding_of_empty (path : s.announce.path = none) (waiting : s.announce.waiting = []) :
    afterEnding s = pathFreeReport (setAlert none s) := by
  rw [afterEnding, startStep_of_empty path waiting, reportAlert_of_free path, reportIfFree_of_free]
  rw [setAlert_announce, path]

theorem startEntry_path (w : Entry) (s : State) : (startEntry w s).announce.path = some (startedEntry s w) := by
  rw [startEntry_eq]

/-- The best WAITING entry takes the path that an ending leaves. -/
theorem afterEnding_of_next (path : s.announce.path = none) (waiting : s.announce.waiting = w :: rest)
    (up : s.link.state = .up) : afterEnding s = setAlert w.scene (startEntry w (setWaiting rest s)) := by
  have held := startEntry_path w (setWaiting rest s)
  rw [afterEnding, startStep_of_next path waiting up, reportAlert_of_held held, reportIfFree_of_held (e := _)]
  · rfl
  · rw [setAlert_announce, held]

theorem notifyAll_removePath (notices : List Notice) (s : State) : notifyAll notices (removePath s) =
    { s with
      announce := { s.announce with path := none, startTimer := none, durationTimer := none }
      manage := (notifyAll notices s).manage } := by
  rw [notifyAll_manage_only notices (removePath s),
    show (notifyAll notices (removePath s)).manage = (notifyAll notices s).manage from notifyAll_manage_congr notices rfl]
  rfl

/-- What follows the end of the path entry is what R145 and R147 say. -/
theorem entryEnded_afterEnding (up : s.link.state = .up) :
    entryEnded notices s (afterEnding (notifyAll notices (removePath s))) := by
  rw [notifyAll_removePath]
  generalize removed : { s with
    announce := { s.announce with path := none, startTimer := none, durationTimer := none }
    manage := (notifyAll notices s).manage } = u
  have path : u.announce.path = none := by rw [← removed]
  have waits : u.announce.waiting = s.announce.waiting := by rw [← removed]
  have link : u.link.state = .up := by rw [← removed]; exact up
  have lit : u.lighting = s.lighting := by rw [← removed]
  refine ⟨fun empty other => ?idle, fun empty requested => ?granted, fun w rest waiting => ?next⟩
  case idle =>
    rw [afterEnding_of_empty path (waits.trans empty), pathFreeReport_of_other (by rw [setAlert_lighting_only, ← removed]; exact other)]
    refine ⟨?_, ?_, lit ▸ setAlert_relit none u, ?_⟩
    · rw [setAlert_lighting_only, ← removed]
    · rw [setAlert_lighting_only, ← removed]
    · rw [setAlert_lighting_only, ← removed]
  case granted =>
    have live : (setAlert none u).segment.live = .requested := by rw [setAlert_segment, ← removed]; exact requested
    have mask : (setAlert none u).segment.heldMask &&& eligible (setAlert none u) = s.segment.heldMask &&& eligible s := by
      rw [setAlert_lighting_only, ← removed]
      rfl
    rw [afterEnding_of_empty path (waits.trans empty), pathFreeReport_of_requested live, mask, grantLive]
    refine ⟨by rw [notify_segment], by rw [notify_segment], by rw [notify_segment], ?_, ?_⟩
    · rw [notify_segment]
      refine notify_manage_congr _ ?_
      rw [setAlert_lighting_only, ← removed]
    · rw [notify_lighting]
      exact lit ▸ setAlert_relit none u
  case next =>
    rw [afterEnding_of_next path (waits.trans waiting) link]
    refine ⟨startedEntry (setWaiting rest u) w, ?_, ?_, rfl, rfl, ?_, ?_, ?_, ?_⟩
    · rw [setAlert_announce, startEntry_path]
    · rw [setAlert_announce, startEntry_eq]
      rfl
    · rw [← removed]
      rfl
    · rw [setAlert_segment, startEntry_segment, ← removed]
      rfl
    · rw [setAlert_lighting_only, startEntry_eq, ← removed]
      rfl
    · rw [setAlert_lighting_congr (s := u) (by rw [startEntry_eq]; rfl)]
      exact lit ▸ setAlert_relit w.scene u

/-! ### The endings and the phases of the path (R142 to R145, R150) -/

theorem ticketOnPath_iff {ticket : Nat} : ticketOnPath ticket s = true ↔ ticketRuns s ticket := by
  unfold ticketOnPath ticketRuns
  cases s.announce.path with
  | none => simp
  | some e => simp

theorem startTimedOut_of_free (path : s.announce.path = none) : startTimedOut s = s := by
  rw [startTimedOut, path]

theorem startTimedOut_of_other (path : s.announce.path = some e)
    (other : e.state ≠ .startingClip ∨ s.announce.startTimer ≠ some 0) : startTimedOut s = s := by
  rw [startTimedOut, path]
  exact if_neg fun both => other.elim (fun no => no both.1) fun no => no both.2

theorem startTimedOut_of_due (path : s.announce.path = some e) (starting : e.state = .startingClip)
    (due : s.announce.startTimer = some 0) : startTimedOut s =
      afterEnding (notifyAll [.clipFailed (e.ticket.getD 0) e.clip e.cls .noStart] (removePath s)) := by
  rw [startTimedOut, path]
  exact if_pos ⟨starting, due⟩

theorem durationRanOut_of_free (path : s.announce.path = none) : durationRanOut s = s := by
  rw [durationRanOut, path]

theorem durationRanOut_of_other (path : s.announce.path = some e)
    (other : e.state ≠ .playing ∨ s.announce.durationTimer ≠ some 0) : durationRanOut s = s := by
  rw [durationRanOut, path]
  exact if_neg fun both => other.elim (fun no => no both.1) fun no => no both.2

theorem durationRanOut_of_due (path : s.announce.path = some e) (playing : e.state = .playing)
    (due : s.announce.durationTimer = some 0) : durationRanOut s =
      afterEnding (notifyAll [.clipEnded (e.ticket.getD 0) e.clip e.cls .timeout, .clipCancel (e.ticket.getD 0)]
        (removePath s)) := by
  rw [durationRanOut, path]
  exact if_pos ⟨playing, due⟩

theorem endReported_of_other {ticket : Nat} (other : ¬ ticketRuns s ticket) : endReported ticket s = s := by
  unfold endReported
  split
  · rfl
  · exact if_neg fun runs => other (ticketOnPath_iff.1 runs)

theorem endReported_of_running {ticket : Nat} (path : s.announce.path = some e) (runs : ticketRuns s ticket) :
    endReported ticket s = afterEnding (notifyAll [.clipEnded ticket e.clip e.cls .endMark] (removePath s)) := by
  rw [endReported, path]
  exact if_pos (ticketOnPath_iff.2 runs)

theorem blockKept_of_free {ticket : Nat} (path : s.announce.path = none) : blockKept ticket s = s := by
  rw [blockKept, path]

theorem blockKept_of_other {ticket : Nat} (path : s.announce.path = some e)
    (other : e.state ≠ .startingClip ∨ e.ticket ≠ some ticket) : blockKept ticket s = s := by
  rw [blockKept, path]
  refine if_neg fun both => ?_
  rw [Bool.and_eq_true, decide_eq_true_iff, decide_eq_true_iff] at both
  exact other.elim (fun no => no both.1) fun no => no both.2

theorem blockKept_of_starting {ticket : Nat} (path : s.announce.path = some e) (starting : e.state = .startingClip)
    (own : e.ticket = some ticket) : blockKept ticket s = { s with announce := { s.announce with
      path := some { e with state := .playing }, startTimer := none
      durationTimer := some (Config.ms (e.maxSeconds * 1000)) } } := by
  rw [blockKept, path]
  exact if_pos (by rw [starting, own]; simp)

theorem stopTimers_of_stopped (start : s.announce.startTimer = none) (duration : s.announce.durationTimer = none) :
    stopTimers s = s := by
  have same : { s.announce with startTimer := none, durationTimer := none } = s.announce := by
    generalize s.announce = a at start duration
    cases a
    cases start
    cases duration
    rfl
  exact congrArg (fun a => { s with announce := a }) same

theorem chimeEnded_of_free (path : s.announce.path = none) : chimeEnded s = s := by
  rw [chimeEnded, path]

theorem chimeEnded_of_starting (path : s.announce.path = some e) (starting : e.state = .startingChime) :
    chimeEnded s = enterStartingClip e s := by
  rw [chimeEnded, path]
  dsimp only
  rw [starting]

theorem chimeEnded_of_chimeOnly (path : s.announce.path = some e) (run : e.state = .chimeOnly) :
    chimeEnded s = afterEnding (setPath none s) := by
  rw [chimeEnded, path]
  dsimp only
  rw [run]

theorem chimeEnded_of_other (path : s.announce.path = some e) (chime : e.state ≠ .startingChime)
    (run : e.state ≠ .chimeOnly) : chimeEnded s = s := by
  rw [chimeEnded, path]
  dsimp only
  split
  · next starting => exact absurd starting chime
  · next only => exact absurd only run
  · rfl

end Sys2Proof.Machine

namespace Sys2Proof.Proofs
open Sys2Proof Sys2Proof.Machine

/-- Settles O34: each ending is `entryEnded_afterEnding` with its notices. -/
theorem announcementTimersEndEntry : Obligations.AnnouncementTimersEndEntry := by
  refine ⟨fun s path => ⟨congrArg Host.Outcome.next (startTimedOut_of_free path),
    congrArg Host.Outcome.next (durationRanOut_of_free path), chimeEnded_of_free path, fun ticket =>
      ⟨blockKept_of_free path, endReported_of_other fun ⟨e, held, _⟩ => nomatch path.symm.trans held⟩⟩, ?_⟩
  intro s e path
  refine ⟨fun other => congrArg Host.Outcome.next (startTimedOut_of_other path other),
    fun other => congrArg Host.Outcome.next (durationRanOut_of_other path other), fun up command notices ends => ?timers,
    fun ticket => ⟨endReported_of_other, fun up runs => ?endMark⟩, fun starting => chimeEnded_of_starting path starting,
    fun run up first second => ?chime, chimeEnded_of_other path, fun ticket => ⟨blockKept_of_starting path,
      blockKept_of_other path⟩⟩
  case timers =>
    rcases ends with ⟨rfl, starting, due, rfl⟩ | ⟨rfl, playing, due, rfl⟩
    · exact ⟨_, congrArg Host.Outcome.next (startTimedOut_of_due path starting due), entryEnded_afterEnding up⟩
    · exact ⟨_, congrArg Host.Outcome.next (durationRanOut_of_due path playing due), entryEnded_afterEnding up⟩
  case endMark =>
    rw [endReported_of_running path runs]
    exact entryEnded_afterEnding up
  case chime =>
    have stopped : removePath s = setPath none s := stopTimers_of_stopped (s := setPath none s) first second
    rw [chimeEnded_of_chimeOnly path run, ← stopped]
    exact entryEnded_afterEnding (notices := []) up

end Sys2Proof.Proofs

/-! Announcement requests at the queue (R136 to R141), the ANNOUNCE request (R138) and CANCEL (R146). -/

namespace Sys2Proof.Machine

variable {s t : State} {e w : Entry} {rest others : List Entry} {q : AnnRequest}

/-! ### The rank order (R136) -/

/-- An entry stands behind those it does not rank before, and before the first that it does. -/
theorem insertRanked_split (e : Entry) (list : List Entry) : ∃ before after, list = before ++ after ∧
    insertRanked e list = before ++ e :: after ∧ (∀ w ∈ before, ¬ ranksBefore e w) ∧
      ∀ w rest, after = w :: rest → ranksBefore e w := by
  induction list with
  | nil => exact ⟨[], [], rfl, rfl, nofun, nofun⟩
  | cons x xs ih =>
    rw [insertRanked]
    by_cases first : outranks e x = true
    · rw [if_pos first]
      refine ⟨[], x :: xs, rfl, rfl, nofun, fun w rest head => ?_⟩
      obtain ⟨rfl, -⟩ := List.cons.inj head
      exact outranks_iff.1 first
    · rw [if_neg first]
      obtain ⟨before, after, split, inserted, worse, better⟩ := ih
      refine ⟨x :: before, after, congrArg (x :: ·) split, congrArg (x :: ·) inserted, ?_, better⟩
      exact List.forall_mem_cons.2 ⟨fun ranks => first (outranks_iff.2 ranks), worse⟩

/-- A CLEARANCE entry stands before every entry of another class. -/
theorem insertRanked_clearance (clearance : e.cls = .clearance) {list : List Entry}
    (lower : ∀ w ∈ list, w.cls ≠ .clearance) : insertRanked e list = e :: list := by
  cases list with
  | nil => rfl
  | cons x xs =>
    refine if_pos (outranks_iff.2 (.inl ?_))
    have other := lower x List.mem_cons_self
    rw [clearance]
    cases cls : x.cls with
    | clearance => exact absurd cls other
    | safety => decide
    | stop => decide
    | service => decide

/-- An entry of another class stands behind a CLEARANCE entry at the front. -/
theorem insertRanked_behind (front : w.cls = .clearance) (lower : e.cls ≠ .clearance) (list : List Entry) :
    insertRanked e (w :: list) = w :: insertRanked e list := by
  refine if_neg fun ranks => ?_
  rcases outranks_iff.1 ranks with code | ⟨cls, -⟩
  · rw [front] at code
    exact Nat.not_lt_zero _ code
  · exact lower (cls.trans front)

/-! ### A request at the queue (R137, R139) -/

/-- The request `q` as a WAITING entry with the arrival order `n`. -/
def newEntry (q : AnnRequest) (n : Nat) : Entry :=
  { cls := q.cls, clip := q.clip, mask := q.mask, origin := q.origin, scene := q.scene, state := .waiting
    ticket := none, arrival := n, chime := none, maxSeconds := 0 }

theorem alike_iff {clip : Nat} {cls : AnnClass} : alike clip cls e = true ↔ e.clip = clip ∧ e.cls = cls := by
  rw [alike, Bool.and_eq_true, decide_eq_true_iff, decide_eq_true_iff]

theorem announceRequest_of_alike (some : ∃ w ∈ s.announce.waiting, w.clip = q.clip ∧ w.cls = q.cls) :
    announceRequest q s = { s with announce := { s.announce with waiting := s.announce.waiting.map fun w =>
      if w.clip = q.clip ∧ w.cls = q.cls then { w with mask := w.mask ||| q.mask } else w } } := by
  obtain ⟨w, inside, same⟩ := some
  rw [announceRequest, if_pos (List.any_eq_true.2 ⟨w, inside, alike_iff.2 same⟩), mergeRequest]
  simp only [alike_iff]
  rfl

theorem none_alike (none : ∀ w ∈ s.announce.waiting, ¬ (w.clip = q.clip ∧ w.cls = q.cls)) :
    s.announce.waiting.any (alike q.clip q.cls) = false :=
  List.any_eq_false.2 fun w inside same => none w inside (alike_iff.1 same)

/-- A request with a place free joins the queue. -/
theorem announceRequest_of_room (none : ∀ w ∈ s.announce.waiting, ¬ (w.clip = q.clip ∧ w.cls = q.cls))
    (room : queuedCount s < 8) : announceRequest q s = afterInsertion q.cls (insertRequest q s) := by
  rw [announceRequest, none_alike none, if_neg Bool.false_ne_true]
  exact if_pos room

theorem announceRequest_of_full (none : ∀ w ∈ s.announce.waiting, ¬ (w.clip = q.clip ∧ w.cls = q.cls))
    (full : ¬ queuedCount s < 8) {worst : Entry} (last : s.announce.waiting = others ++ [worst]) : announceRequest q s =
      if q.cls.code < worst.cls.code then
        afterInsertion q.cls (insertRequest q (notify (.announceDisplaced worst.cls worst.clip worst.origin)
          (setWaiting others s)))
      else notify (.announceDropped q.cls q.clip q.origin) s := by
  rw [announceRequest, none_alike none, if_neg Bool.false_ne_true, if_neg (by exact full), last, List.getLast?_concat,
    List.dropLast_concat]

/-- While the path is held, an insertion that does not preempt it changes nothing more. -/
theorem afterInsertion_of_held (path : s.announce.path = some e) {cls : AnnClass}
    (keeps : cls ≠ .clearance ∨ e.cls = .clearance) : afterInsertion cls s = s := by
  unfold afterInsertion
  split
  · next x running =>
    have own : x = e := by
      rw [runningEntry, path] at running
      dsimp only at running
      split at running
      · exact nomatch running
      · exact (Option.some.inj running).symm
    refine if_neg fun preempts => ?_
    rw [Bool.and_eq_true, decide_eq_true_iff, decide_eq_true_iff, own] at preempts
    rcases keeps with lower | clearance
    · exact lower preempts.1
    · rw [clearance] at preempts
      exact Nat.not_lt_zero _ preempts.2
  · rw [afterArrival, path]

theorem insertRequest_eq (q : AnnRequest) (s : State) : insertRequest q s = { s with announce := { s.announce with
    waiting := insertRanked (newEntry q s.announce.nextArrival) s.announce.waiting
    nextArrival := s.announce.nextArrival + 1 } } := rfl

theorem queuedCount_of_held (path : s.announce.path = some e) : queuedCount s = s.announce.waiting.length + 1 := by
  rw [queuedCount, path]
  rfl

/-- With the path IDLE, nothing waiting and the link UP a request takes the path at once (R141). -/
theorem announceRequest_of_idle (path : s.announce.path = none) (waiting : s.announce.waiting = [])
    (up : s.link.state = .up) : announceRequest q s = setAlert q.scene (startEntry (newEntry q s.announce.nextArrival)
      { s with announce := { s.announce with waiting := [], nextArrival := s.announce.nextArrival + 1 } }) := by
  rw [announceRequest_of_room (by rw [waiting]; exact nofun) (by rw [queuedCount, path, waiting]; decide)]
  have inserted : insertRequest q s = { s with announce := { s.announce with
      waiting := [newEntry q s.announce.nextArrival], nextArrival := s.announce.nextArrival + 1 } } := by
    rw [insertRequest_eq, waiting]
    rfl
  generalize joined : insertRequest q s = u
  have path' : u.announce.path = none := by rw [← joined, inserted]; exact path
  have waiting' : u.announce.waiting = [newEntry q s.announce.nextArrival] := by rw [← joined, inserted]
  have taken := startStep_of_next path' waiting' (by rw [← joined, inserted]; exact up)
  have idle : runningEntry u = none := by rw [runningEntry, path']
  rw [afterInsertion, idle]
  dsimp only
  rw [afterArrival, path']
  dsimp only
  rw [taken, if_neg Bool.false_ne_true, reportAlert_of_held (startEntry_path _ _), ← joined, inserted]
  rfl

end Sys2Proof.Machine

namespace Sys2Proof.Machine

variable {s t : State} {e w : Entry} {rest others : List Entry} {q : AnnRequest}

/-! ### Preemption (R139) -/

/-- The entry `e` as it waits again, with the mask `mask` (R140). -/
def waitingAgain (mask : ZoneMask) (e : Entry) : Entry :=
  { e with state := .waiting, ticket := none, chime := none, maxSeconds := 0, mask := mask }

theorem not_alike_eq (e : Entry) : (fun w => !alike e.clip e.cls w) =
    fun w : Entry => decide (¬ (w.clip = e.clip ∧ w.cls = e.cls)) := by
  funext w
  rw [decide_not, Bool.not_inj_iff, Bool.eq_iff_iff, alike_iff, decide_eq_true_iff]

theorem returnToWaiting_eq (e : Entry) (s : State) : returnToWaiting e s = { s with announce := { s.announce with
    path := none
    waiting := insertRanked
      (waitingAgain ((waitingMask e.clip e.cls s.announce.waiting).elim e.mask fun m => e.mask ||| m) e)
      (s.announce.waiting.filter fun w => decide (¬ (w.clip = e.clip ∧ w.cls = e.cls))) } } := by
  rw [returnToWaiting, not_alike_eq]
  cases waitingMask e.clip e.cls s.announce.waiting <;> rfl

theorem waitingMask_of_none {list : List Entry} (apart : ∀ w ∈ list, ¬ (w.clip = e.clip ∧ w.cls = e.cls)) :
    waitingMask e.clip e.cls list = none := by
  rw [waitingMask, List.find?_eq_none.2 fun w inside same => apart w inside (alike_iff.1 same), Option.map_none]

theorem filter_of_none_alike {list : List Entry} (apart : ∀ w ∈ list, ¬ (w.clip = e.clip ∧ w.cls = e.cls)) :
    (list.filter fun w => decide (¬ (w.clip = e.clip ∧ w.cls = e.cls))) = list :=
  List.filter_eq_self.2 fun w inside => decide_eq_true (apart w inside)

theorem returnToWaiting_of_none (apart : ∀ w ∈ s.announce.waiting, ¬ (w.clip = e.clip ∧ w.cls = e.cls)) :
    returnToWaiting e s = { s with announce := { s.announce with
      path := none, waiting := insertRanked (waitingAgain e.mask e) s.announce.waiting } } := by
  rw [returnToWaiting_eq, waitingMask_of_none apart, filter_of_none_alike apart]
  rfl

/-- The state that a preempted path leaves. -/
theorem preempt_eq (apart : ∀ w ∈ s.announce.waiting, ¬ (w.clip = e.clip ∧ w.cls = e.cls)) : ∃ g,
    preempt e s = { s with
      announce := { s.announce with
        path := none, startTimer := none, durationTimer := none
        waiting := insertRanked (waitingAgain e.mask e) s.announce.waiting }
      mix := { s.mix with generator := g }
      manage := (notify (.clipCancel (e.ticket.getD 0)) s).manage } := by
  obtain ⟨g, stopped⟩ : ∃ g, (if e.state = .startingChime then stopChime s else s) =
      { s with mix := { s.mix with generator := g } } := by
    split
    · exact ⟨_, stopChime_eq s⟩
    · exact ⟨s.mix.generator, rfl⟩
  generalize eq : stopTimers { s with mix := { s.mix with generator := g } } = u
  have manage : (notify (.clipCancel (e.ticket.getD 0)) u).manage = (notify (.clipCancel (e.ticket.getD 0)) s).manage :=
    notify_manage_congr _ (by rw [← eq]; rfl)
  have waiting : (notify (.clipCancel (e.ticket.getD 0)) u).announce.waiting = s.announce.waiting := by
    rw [notify_announce, ← eq]
    rfl
  refine ⟨g, ?_⟩
  rw [preempt, stopped, eq, returnToWaiting_of_none (by rw [waiting]; exact apart), waiting, notify_manage_only, manage,
    ← eq]
  rfl

/-- A CLEARANCE request over a lower class takes the path, and the old entry waits again (R139). -/
theorem announceRequest_preempts (path : s.announce.path = some e) (running : e.state ≠ .chimeOnly)
    (apart : ∀ w ∈ s.announce.waiting, w.cls ≠ .clearance ∧ ¬ (w.clip = e.clip ∧ w.cls = e.cls))
    (clearance : q.cls = .clearance) (lower : e.cls ≠ .clearance) (room : s.announce.waiting.length < 7)
    (up : s.link.state = .up) : ∃ u, announceRequest q s =
      setAlert q.scene (startEntry (newEntry q s.announce.nextArrival) u) ∧
      u.announce.tickets = s.announce.tickets ∧ u.announce.waiting = insertRanked
        (waitingAgain e.mask e) s.announce.waiting ∧
      u.manage = (notify (.clipCancel (e.ticket.getD 0)) s).manage ∧ u.lighting = s.lighting := by
  have none : ∀ w ∈ s.announce.waiting, ¬ (w.clip = q.clip ∧ w.cls = q.cls) := fun w inside same =>
    (apart w inside).1 (same.2.trans clearance)
  have isNew : (newEntry q s.announce.nextArrival).cls = .clearance := clearance
  have front := insertRanked_clearance isNew fun w inside => (apart w inside).1
  rw [announceRequest_of_room none (by rw [queuedCount_of_held path]; omega)]
  have inserted := insertRequest_eq q s
  rw [front] at inserted
  generalize insertRequest q s = v at inserted ⊢
  have waits : v.announce.waiting = newEntry q s.announce.nextArrival :: s.announce.waiting := by rw [inserted]
  have link : v.link.state = .up := by rw [inserted]; exact up
  have held : runningEntry v = some e := by
    rw [runningEntry, inserted]
    dsimp only
    rw [path]
    exact if_neg running
  have cls : (decide (q.cls = .clearance) && decide (0 < e.cls.code)) = true := by
    rw [Bool.and_eq_true, decide_eq_true_iff, decide_eq_true_iff]
    refine ⟨clearance, Nat.pos_of_ne_zero fun zero => lower (AnnClass.code_inj (zero.trans rfl))⟩
  have alone : ∀ w ∈ v.announce.waiting, ¬ (w.clip = e.clip ∧ w.cls = e.cls) := by
    rw [waits]
    exact List.forall_mem_cons.2 ⟨fun same => lower (same.2.symm.trans isNew), fun w inside => (apart w inside).2⟩
  have again : insertRanked (waitingAgain e.mask e) v.announce.waiting =
      newEntry q s.announce.nextArrival :: insertRanked (waitingAgain e.mask e) s.announce.waiting := by
    rw [waits]
    exact insertRanked_behind (e := waitingAgain e.mask e) isNew lower _
  obtain ⟨g, preempted⟩ := preempt_eq alone
  rw [again] at preempted
  rw [afterInsertion, held]
  dsimp only
  rw [if_pos cls, afterArrival, preempted]
  dsimp only
  rw [startStep_of_next rfl rfl (by exact link), if_neg Bool.false_ne_true, reportAlert_of_held (startEntry_path _ _)]
  refine ⟨_, rfl, by rw [inserted]; rfl, rfl, ?_, by rw [inserted]; rfl⟩
  exact notify_manage_congr _ (by rw [inserted])

end Sys2Proof.Machine

namespace Sys2Proof.Proofs
open Sys2Proof Sys2Proof.Machine

/-- Settles O32: the rules of R137 one by one, and the preemption. -/
theorem announceQueueRules : Obligations.AnnounceQueueRules := by
  refine ⟨insertRanked_split, ?_⟩
  rintro s q e new path running rfl
  refine ⟨announceRequest_of_alike, fun none keeps => ⟨fun room => ?joins, fun others worst last full => ?full⟩,
    fun apart clearance lower chime room up => ?preempts⟩
  case joins =>
    rw [announceRequest_of_room none (by rw [queuedCount_of_held path]; omega), afterInsertion_of_held
      (s := insertRequest q s) path keeps]
    rfl
  case full =>
    have asked := announceRequest_of_full none (by rw [queuedCount_of_held path]; omega) last
    refine ⟨fun better => ?_, fun worse => by rw [asked, if_neg (by omega)]⟩
    rw [asked, if_pos better, afterInsertion_of_held (e := e) _ keeps, insertRequest_eq, notify_announce,
      notify_manage_only _ (setWaiting others s), notify_manage_only _ s,
      show (notify (.announceDisplaced worst.cls worst.clip worst.origin) (setWaiting others s)).manage = _ from
        notify_manage_congr (s := s) _ rfl]
    · rfl
    · rw [insertRequest_eq, notify_announce]
      exact path
  case preempts =>
    obtain ⟨u, took, tickets, waiting, manage, lighting⟩ :=
      announceRequest_preempts path chime apart clearance lower room up
    rw [took]
    refine ⟨startedEntry u (newEntry q s.announce.nextArrival), ?_, clearance, rfl, rfl, rfl, ?_, ?_, ?_, ?_⟩
    · rw [setAlert_announce, startEntry_path]
    · rw [← tickets]
      rfl
    · rw [setAlert_announce, startEntry_eq]
      exact waiting
    · rw [setAlert_lighting_only, startEntry_eq, ← manage]
    · rw [setAlert_lighting_congr (s := u) (by rw [startEntry_eq])]
      exact lighting ▸ setAlert_relit q.scene u

end Sys2Proof.Proofs

/-! The ANNOUNCE and CANCEL requests (R138, R146). -/

namespace Sys2Proof.Machine

variable {s t : State} {e w : Entry} {rest : List Request} {r : Request}

theorem announceClass_code_decode (cls : AnnClass) : AnnClass.ofCode cls.code = some cls := by cases cls <;> rfl

theorem announceClass_none {n : Nat} (unknown : 3 < n) : AnnClass.ofCode n = none := by
  unfold AnnClass.ofCode
  split
  · omega
  · omega
  · omega
  · omega
  · rfl

theorem announceClass_some {n : Nat} {cls : AnnClass} (known : AnnClass.ofCode n = some cls) : n ≤ 3 := by
  by_contra unknown
  rw [announceClass_none (by omega)] at known
  exact nomatch known

/-- A field of an ANNOUNCE outside its set is refused (R138). -/
theorem announceFromHead_of_bad (bad : 3 < byteAt r.params 0 ∨ 1023 < wordAt r.params 1 ∨
    (16 ≤ byteAt r.params 4 ∧ byteAt r.params 4 ≤ 254)) : announceFromHead r s = refuse .badField s := by
  rw [announceFromHead]
  split
  · next cls scene isCls isScene =>
    refine if_pos (.inr ?_)
    rcases bad with unknown | high | ⟨low, high⟩
    · exact absurd (announceClass_some isCls) (Nat.not_le.2 unknown)
    · exact high
    · obtain ⟨range, -⟩ := optOf_eq_some.1 isScene
      have : paramAt r 4 = byteAt r.params 4 := rfl
      omega
  · rfl

/-- An ANNOUNCE with its fields in their sets is handed over (R138). -/
theorem announceFromHead_of_fields {cls : AnnClass} {clip : Nat} {mask : Byte} {scene : Option Nat} (low : clip ≤ 1023)
    (known : ∀ n, scene = some n → n ≤ 15)
    (params : r.params = natBytes 1 cls.code ++ natBytes 2 clip ++ [mask] ++ natBytes 1 (optCode scene)) :
    announceFromHead r s = done (announceRequest
      { cls := cls, clip := clip, mask := mask.truncate 4, origin := .headUnit, scene := scene } s) := by
  have length : r.params.length = 5 := by rw [params]; rfl
  have isClass : paramAt r 0 = cls.code := by
    rw [paramAt, params]
    cases cls <;> rfl
  have isClip : wordAt r.params 1 = clip := by
    rw [params]
    simp [wordAt, byteAt, natBytes]
    omega
  have isMask : maskOf (paramAt r 3) = mask.truncate 4 := by
    rw [paramAt, params]
    refine BitVec.eq_of_toNat_eq ?_
    simp [maskOf, byteAt, natBytes]
  have isScene : optOf 15 (paramAt r 4) = some scene := by
    have code : paramAt r 4 = optCode scene := by
      rw [paramAt, params]
      cases scene with
      | none => rfl
      | some n =>
        have := known n rfl
        simp [byteAt, natBytes, optCode]
        omega
    rw [code, optOf_eq_some]
    cases scene with
    | none => exact ⟨.inr rfl, rfl⟩
    | some n =>
      have := known n rfl
      exact ⟨.inl this, by rw [optCode, if_neg (by omega)]⟩
  rw [announceFromHead, isClass, announceClass_code_decode, isScene]
  dsimp only
  rw [if_neg (by omega), isClip, isMask]

/-! ### CANCEL (R145, R146) -/

/-- An ending with nothing waiting and live not REQUESTED leaves the path IDLE, whatever the link. -/
theorem afterEnding_idle (notices : List Notice) (empty : s.announce.waiting = [])
    (other : s.segment.live ≠ .requested) : afterEnding (notifyAll notices (removePath s)) =
      { s with
        announce := { s.announce with path := none, startTimer := none, durationTimer := none }
        manage := (notifyAll notices s).manage, lighting := (setAlert none s).lighting } := by
  rw [notifyAll_removePath]
  generalize removed : { s with
    announce := { s.announce with path := none, startTimer := none, durationTimer := none }
    manage := (notifyAll notices s).manage } = u
  have path : u.announce.path = none := by rw [← removed]
  have waits : u.announce.waiting = [] := by rw [← removed]; exact empty
  have live : (setAlert none u).segment.live ≠ .requested := by rw [setAlert_segment, ← removed]; exact other
  rw [afterEnding_of_empty path waits, pathFreeReport_of_other live, setAlert_lighting_only,
    setAlert_lighting_congr (s := s) (by rw [← removed]), ← removed]

/-- The path entry is cancelled with the notices that R145 gives it. -/
theorem cancelPath_eq (e : Entry) (s : State) : cancelPath e s = afterEnding (notifyAll
    (if e.state = .chimeOnly then [] else [.clipCancel (e.ticket.getD 0)])
    (removePath (if e.state = .startingChime ∨ e.state = .chimeOnly then stopChime s else s))) := by
  have same : (decide (e.state = .startingChime) || decide (e.state = .chimeOnly)) = true ↔
      e.state = .startingChime ∨ e.state = .chimeOnly := by rw [Bool.or_eq_true, decide_eq_true_iff, decide_eq_true_iff]
  rw [cancelPath]
  rw [ite_cond_congr (propext same)]
  split <;> rfl

theorem stopChimeIf_eq (p : Prop) [Decidable p] (s : State) : ∃ g,
    (if p then stopChime s else s) = { s with mix := { s.mix with generator := g } } := by
  split
  · exact ⟨_, stopChime_eq s⟩
  · exact ⟨s.mix.generator, rfl⟩

/-- A cancelled entry with nothing waiting and live not REQUESTED leaves the path IDLE. -/
theorem cancelPath_idle (empty : s.announce.waiting = []) (other : s.segment.live ≠ .requested) : cancelPath e s =
    { s with
      announce := { s.announce with path := none, startTimer := none, durationTimer := none }
      mix := (if e.state = .startingChime ∨ e.state = .chimeOnly then stopChime s else s).mix
      manage := (notifyAll (if e.state = .chimeOnly then [] else [.clipCancel (e.ticket.getD 0)]) s).manage
      lighting := (setAlert none s).lighting } := by
  obtain ⟨g, stopped⟩ := stopChimeIf_eq (e.state = .startingChime ∨ e.state = .chimeOnly) s
  rw [cancelPath_eq, stopped]
  generalize (if e.state = .chimeOnly then [] else [.clipCancel (e.ticket.getD 0)] : List Notice) = notices
  generalize stops : { s with mix := { s.mix with generator := g } } = u
  rw [afterEnding_idle notices (by rw [← stops]; exact empty) (by rw [← stops]; exact other),
    setAlert_lighting_congr (t := u) (s := s) (by rw [← stops]), notifyAll_manage_congr (t := u) (s := s) notices
      (by rw [← stops]), ← stops]

theorem stopChime_mix_congr (same : t.mix = s.mix) : (stopChime t).mix = (stopChime s).mix := by
  unfold stopChime
  rw [same]
  split
  · exact same
  · split
    · exact same
    · rfl

/-- The reply to a CANCEL whose entry leaves the path IDLE. -/
theorem cancelPath_idle_answered (r : Request) (rest : List Request) (e : Entry) (s : State)
    (other : s.segment.live ≠ .requested) : addReply { tag := r.tag, kind := r.kind, code := .done, data := [] }
      (cancelPath e (setWaiting [] (setRequests rest s))) =
    { s with
      announce := { s.announce with path := none, waiting := [], startTimer := none, durationTimer := none }
      mix := (if e.state = .startingChime ∨ e.state = .chimeOnly then stopChime s else s).mix
      manage := (answered r rest .done []
        (notifyAll (if e.state = .chimeOnly then [] else [.clipCancel (e.ticket.getD 0)]) s)).manage
      lighting := (setAlert none s).lighting } := by
  have manage : (notifyAll (if e.state = .chimeOnly then [] else [.clipCancel (e.ticket.getD 0)])
      (setWaiting [] (setRequests rest s))).manage = (setRequests rest (notifyAll
        (if e.state = .chimeOnly then [] else [.clipCancel (e.ticket.getD 0)]) s)).manage := by
    rw [← notifyAll_setRequests]
    exact notifyAll_manage_congr _ rfl
  have mix : (if e.state = .startingChime ∨ e.state = .chimeOnly then stopChime (setWaiting [] (setRequests rest s))
      else setWaiting [] (setRequests rest s)).mix =
        (if e.state = .startingChime ∨ e.state = .chimeOnly then stopChime s else s).mix := by
    split
    · exact stopChime_mix_congr rfl
    · rfl
  rw [cancelPath_idle rfl (by exact other), mix, manage,
    setAlert_lighting_congr (t := setWaiting [] (setRequests rest s)) (s := s) rfl]
  rfl

theorem runningEntry_eq_some_iff : runningEntry s = some e ↔ s.announce.path = some e ∧ e.state ≠ .chimeOnly := by
  unfold runningEntry
  split
  · next x path =>
    rw [path]
    split
    · next only =>
      refine ⟨nofun, fun both => absurd only ?_⟩
      rw [Option.some.inj both.1]
      exact both.2
    · next running =>
      refine ⟨fun own => ⟨own, ?_⟩, fun both => both.1⟩
      rw [← Option.some.inj own]
      exact running
  · next path =>
    rw [path]
    exact ⟨nofun, fun both => nomatch both.1⟩

theorem cancelTicket_of_own {ticket : Nat} (path : s.announce.path = some e) (running : e.state ≠ .chimeOnly)
    (own : e.ticket = some ticket) : cancelTicket ticket s = (cancelPath e s, true) := by
  rw [cancelTicket, runningEntry_eq_some_iff.2 ⟨path, running⟩]
  exact if_pos own

theorem cancelTicket_of_other {ticket : Nat}
    (other : ∀ e, s.announce.path = some e → e.state = .chimeOnly ∨ e.ticket ≠ some ticket) :
    cancelTicket ticket s = (s, false) := by
  unfold cancelTicket
  split
  · next e running =>
    obtain ⟨path, runs⟩ := runningEntry_eq_some_iff.1 running
    exact if_neg ((other e path).resolve_left runs)
  · rfl

theorem cancelClass_of_path {cls : AnnClass} (path : s.announce.path = some e) (own : e.cls = cls) : cancelClass cls s =
    (cancelPath e (setWaiting (s.announce.waiting.filter fun w => !decide (w.cls = cls)) s), true) := by
  rw [cancelClass]
  rw [path]
  exact if_pos own

/-- Some WAITING entry of the class goes exactly when fewer are kept. -/
theorem filter_shorter_iff {cls : AnnClass} (list : List Entry) :
    decide ((list.filter fun w => !decide (w.cls = cls)).length < list.length) =
      list.any fun w => decide (w.cls = cls) := by
  rw [Bool.eq_iff_iff, decide_eq_true_iff, List.length_filter_lt_length_iff_exists, List.any_eq_true]
  simp

theorem cancelClass_of_other {cls : AnnClass} (other : ∀ e, s.announce.path = some e → e.cls ≠ cls) : cancelClass cls s =
    (setWaiting (s.announce.waiting.filter fun w => !decide (w.cls = cls)) s,
      s.announce.waiting.any fun w => decide (w.cls = cls)) := by
  rw [cancelClass, ← filter_shorter_iff]
  cases path : s.announce.path with
  | none => rfl
  | some e => exact if_neg (other e path)

end Sys2Proof.Machine

namespace Sys2Proof.Proofs
open Sys2Proof Sys2Proof.Machine

/-- Settles O31: the fields of the request, and the request at an IDLE path. -/
theorem announceTakesIdlePath : Obligations.AnnounceTakesIdlePath := by
  intro s r rest head kind
  have row : exec .announce s = .next (replied r (announceFromHead r (setRequests rest s))) :=
    congrArg Host.Outcome.next (executeHead_replied head (isKind_iff.2 (by rw [kind]; rfl)))
  refine ⟨fun length bad => ?bad, fun n => rfl, fun cls clip mask scene low known params => ?taken⟩
  case bad => rw [row, announceFromHead_of_bad bad, replied_refuse]
  case taken =>
    have asked : exec .announce s = .next (addReply { tag := r.tag, kind := r.kind, code := .done, data := [] }
        (announceRequest { cls := cls, clip := clip, mask := mask.truncate 4, origin := .headUnit, scene := scene }
          (setRequests rest s))) := by
      rw [row, announceFromHead_of_fields low known params]
      rfl
    refine ⟨asked, ?_⟩
    rintro record ticket e path waiting up isRecord rfl rfl
    have inForce : classRecord s cls = record := by
      rw [classRecord, List.getD_eq_getElem?_getD, isRecord, Option.getD_some]
    subst inForce
    refine ⟨_, asked, ?_⟩
    rw [announceRequest_of_idle (s := setRequests rest s) path waiting up, setAlert_lighting_only, startEntry_eq]
    refine ⟨rfl, ?mix, setAlert_relit scene _, rfl⟩
    case mix =>
      refine congrArg (fun g => { s.mix with generator := g }) ?_
      show startedGenerator (setRequests rest s) (newEntry _ s.announce.nextArrival) = _
      rw [startedGenerator, show classRecord (setRequests rest s) (newEntry _ s.announce.nextArrival).cls =
        classRecord s cls from rfl]
      cases (classRecord s cls).chime <;> rfl

/-- Settles O33: the cancelled entry's ending is `cancelPath_eq`, and the answers follow R146. -/
theorem cancelRemovesEntries : Obligations.CancelRemovesEntries := by
  refine ⟨fun s e path up => ?ends, fun s r rest b head kind => ?request⟩
  case ends =>
    rw [cancelPath_eq]
    refine entryEnded_afterEnding ?_
    obtain ⟨g, stopped⟩ := stopChimeIf_eq (e.state = .startingChime ∨ e.state = .chimeOnly) s
    rw [stopped]
    exact up
  case request =>
    have ofKind : r.kind.toNat = 5 := by rw [kind]; rfl
    have byTicket (b : Byte) (params : r.params = [0#8, b]) : badAction 2 1 r = false ∧ paramAt r 1 = b.toNat ∧
        exec .cancelByTicket s = .next (replied r (cancelByTicket r (setRequests rest s))) := by
      have action : byteAt r.params 0 = 0 := by rw [params]; rfl
      exact ⟨badAction_eq_false (by rw [params]; rfl) (by rw [action]; decide), by rw [paramAt, params]; rfl,
        congrArg Host.Outcome.next (executeHead_replied head (isAction_of_action ofKind action))⟩
    have byClass (params : r.params = [1#8, b]) : badAction 2 1 r = false ∧ paramAt r 1 = b.toNat ∧
        exec .cancelByClass s = .next (replied r (cancelByClass r (setRequests rest s))) := by
      have action : byteAt r.params 0 = 1 := by rw [params]; rfl
      exact ⟨badAction_eq_false (by rw [params]; rfl) (by rw [action]), by rw [paramAt, params]; rfl,
        congrArg Host.Outcome.next (executeHead_replied head (isAction_of_action ofKind action))⟩
    have nonzero (other : b ≠ 0#8) : b.toNat ≠ 0 := fun zero => other (BitVec.eq_of_toNat_eq zero)
    refine ⟨fun params => ?zero, fun params other none => ?notFound, fun e params other path running own => ?ticket,
      fun params unknown => ?unknown, fun cls params known none => ?noPath, fun cls e params known path own => ?cls⟩
    case zero =>
      obtain ⟨good, ticket, row⟩ := byTicket 0#8 params
      rw [row, cancelByTicket, good, ticket, if_pos (by rfl), replied_refuse]
    case notFound =>
      obtain ⟨good, ticket, row⟩ := byTicket b params
      rw [row, cancelByTicket, good, ticket, cancelTicket_of_other (s := setRequests rest s) none, if_neg (by simp [nonzero other])]
      rfl
    case ticket =>
      obtain ⟨good, ticket, row⟩ := byTicket b params
      have ran : exec .cancelByTicket s = .next (addReply { tag := r.tag, kind := r.kind, code := .done, data := [] }
          (cancelPath e (setRequests rest s))) := by
        rw [row, cancelByTicket, good, ticket, cancelTicket_of_own (s := setRequests rest s) path running own,
          if_neg (by simp [nonzero other])]
        rfl
      refine ⟨ran, fun empty live => ⟨_, ran, ?_⟩⟩
      have cleared : setWaiting [] (setRequests rest s) = setRequests rest s := by
        rw [← empty]
        rfl
      have idle := cancelPath_idle_answered r rest e s live
      rw [cleared, if_neg running, own] at idle
      simp only [or_iff_left running] at idle
      rw [idle]
      exact ⟨by rw [← empty], rfl, setAlert_relit none s, rfl, rfl⟩
    case unknown =>
      obtain ⟨good, code, row⟩ := byClass params
      rw [row, cancelByClass, good, code, announceClass_none unknown, if_neg Bool.false_ne_true, replied_refuse]
    case noPath =>
      obtain ⟨good, code, row⟩ := byClass params
      rw [row, cancelByClass, good, code, known, if_neg Bool.false_ne_true]
      dsimp only
      rw [cancelClass_of_other (s := setRequests rest s) none, cancelled]
      have filters : (s.announce.waiting.filter fun w => decide (w.cls ≠ cls)) =
          s.announce.waiting.filter fun w => !decide (w.cls = cls) := by simp only [ne_eq, decide_not]
      rw [filters]
      dsimp only
      show Host.Outcome.next (replied r (if (s.announce.waiting.any fun w => decide (w.cls = cls)) = true then _ else _)) = _
      split <;> rfl
    case cls =>
      obtain ⟨good, code, row⟩ := byClass params
      have ran : exec .cancelByClass s = .next (addReply { tag := r.tag, kind := r.kind, code := .done, data := [] }
          (cancelPath e (setWaiting (s.announce.waiting.filter fun w => !decide (w.cls = cls))
            (setRequests rest s)))) := by
        rw [row, cancelByClass, good, code, known, if_neg Bool.false_ne_true]
        dsimp only
        rw [cancelClass_of_path (s := setRequests rest s) path own]
        rfl
      refine ⟨ran, fun all live => ⟨_, ran, ?_⟩⟩
      have none : (s.announce.waiting.filter fun w => !decide (w.cls = cls)) = [] :=
        List.filter_eq_nil_iff.2 fun w inside => by simp [all w inside]
      rw [none, cancelPath_idle_answered r rest e s live]
      refine ⟨rfl, rfl, setAlert_relit Option.none s, ?_, rfl⟩
      dsimp only
      by_cases only : e.state = .chimeOnly
      · rw [if_pos only, if_pos only]
        rfl
      · rw [if_neg only, if_neg only]
        rfl

end Sys2Proof.Proofs

/-! LIVE (R128, R130) and a LIVE OFF that falls together with an event (R133). -/

namespace Sys2Proof.Machine

variable {s t : State} {e : Entry} {rest : List Request} {r : Request} {high low : Byte} {event : State → State}

/-! ### The path as live control reads it (R128) -/

theorem pathBusy_of_running (path : s.announce.path = some e)
    (running : e.state = .startingChime ∨ e.state = .startingClip ∨ e.state = .playing) : pathBusy s = true := by
  have runs : e.state ≠ .chimeOnly := by
    rintro only
    rw [only] at running
    simp at running
  rw [pathBusy, runningEntry_eq_some_iff.2 ⟨path, runs⟩]
  rfl

theorem chimeOnlyMask_eq_some_iff {mask : ZoneMask} : chimeOnlyMask s = some mask ↔
    ∃ q, s.mix.generator = some q ∧ q.use = .announcement none mask := by
  unfold chimeOnlyMask
  cases plays : s.mix.generator with
  | none => simp
  | some q =>
    cases use : q.use with
    | beep _ _ => simp [use]
    | announcement ticket m => cases ticket <;> simp [use]

theorem pathBusy_of_chimeOnly {q : Sequence} {mask : ZoneMask} (plays : s.mix.generator = some q)
    (use : q.use = .announcement none mask) : pathBusy s = true := by
  rw [pathBusy, chimeOnlyMask_eq_some_iff.2 ⟨q, plays, use⟩]
  exact Bool.or_true _

theorem pathBusy_of_free (path : ∀ e, s.announce.path = some e → e.state = .chimeOnly)
    (generator : ∀ q mask, s.mix.generator = some q → q.use ≠ .announcement none mask) : pathBusy s = false := by
  have running : runningEntry s = none := Option.eq_none_iff_forall_not_mem.2 fun e runs => by
    obtain ⟨held, other⟩ := runningEntry_eq_some_iff.1 runs
    exact other (path e held)
  have chime : chimeOnlyMask s = none := Option.eq_none_iff_forall_not_mem.2 fun mask plays => by
    obtain ⟨q, held, use⟩ := chimeOnlyMask_eq_some_iff.1 plays
    exact generator q mask held use
  rw [pathBusy, running, chime]
  rfl

/-! ### A LIVE OFF at the head (R130, R133) -/

theorem liveOffDue_of_head (head : headIs r rest s) (kind : r.kind = 6#8) (params : r.params = [1#8, high, low]) :
    liveOffDue s = true := by
  obtain ⟨first, free⟩ := head
  simp [liveOffDue, headRequest, first, Config.replyDepth, free, kindOf, kind, badAction, paramAt, params, byteAt]

theorem head_of_liveOffDue (due : liveOffDue s = true) : ∃ r rest high low, headIs r rest s ∧ r.kind = 6#8 ∧
    r.params = [1#8, high, low] := by
  unfold liveOffDue at due
  split at due
  · next r front =>
    rw [headRequest] at front
    split at front
    · next free =>
      rw [Bool.and_eq_true, Bool.and_eq_true, decide_eq_true_iff, decide_eq_true_iff, Bool.not_eq_true'] at due
      obtain ⟨⟨kind, good⟩, action⟩ := due
      rw [badAction, Bool.or_eq_false_iff, decide_eq_false_iff_not, not_not] at good
      cases requests : s.manage.requests with
      | nil =>
        rw [requests] at front
        exact nomatch front
      | cons x rest =>
        rw [requests] at front
        obtain rfl := Option.some.inj front
        match params : x.params, good.1 with
        | [first, high, low], _ =>
          refine ⟨x, rest, high, low, ⟨requests, free⟩, BitVec.eq_of_toNat_eq kind, ?_⟩
          rw [params]
          have isOne : first = 1#8 := by
            rw [paramAt, params] at action
            exact BitVec.eq_of_toNat_eq action
          rw [isOne]
    · exact nomatch front
  · exact nomatch due

theorem takeEvent_of_none (none : ∀ r rest high low, headIs r rest s → r.kind = 6#8 → r.params ≠ [1#8, high, low]) :
    takeEvent true event s = event s := by
  refine if_neg fun both => ?_
  rw [Bool.true_and] at both
  obtain ⟨r, rest, high, low, head, kind, params⟩ := head_of_liveOffDue both
  exact none r rest high low head kind params

theorem liveOffAround_of_head (head : headIs r rest s) (kind : r.kind = 6#8) (params : r.params = [1#8, high, low]) :
    liveOffAround event s = addReply { tag := r.tag, kind := r.kind, code := .done, data := [] }
      (endLiveAround event (setRequests rest s)) := by
  have action : byteAt r.params 0 = 1 := by rw [params]; rfl
  have good : badAction 3 1 r = false := badAction_eq_false (by rw [params]; rfl) (by rw [action])
  rw [liveOffAround, executeHead_replied head (isAction_of_action (by rw [kind]; rfl) action), takeAction, good,
    if_neg Bool.false_ne_true]
  rfl

theorem takeEvent_of_liveOff (head : headIs r rest s) (kind : r.kind = 6#8) (params : r.params = [1#8, high, low]) :
    takeEvent true event s = addReply { tag := r.tag, kind := r.kind, code := .done, data := [] }
      (endLiveAround event (setRequests rest s)) := by
  rw [takeEvent, liveOffDue_of_head head kind params, Bool.true_and, if_pos rfl,
    liveOffAround_of_head head kind params]

theorem endLiveAround_of_off (off : s.segment.live = .off) : endLiveAround event s = event s := by
  rw [endLiveAround, off]

theorem endLiveAround_of_on (on : s.segment.live ≠ .off) : endLiveAround event s = retry (event (dropLive s)) := by
  unfold endLiveAround
  split
  · next off => exact absurd off on
  · rfl

/-- Each of the four rows is an event that a LIVE OFF may fall together with. -/
theorem segmentRow_event {row : Bool → Instr} (isRow : segmentRow row) :
    ∃ event, ∀ first s, exec (row first) s = .next (takeEvent first event s) := by
  obtain ⟨choice, ticks, rfl | rfl | rfl | rfl⟩ := isRow
  · exact ⟨takeOdometerEdge choice, fun _ _ => rfl⟩
  · exact ⟨closeRefGate choice, fun _ _ => rfl⟩
  · exact ⟨closeInputGate ticks choice, fun _ _ => rfl⟩
  · exact ⟨reachWaitLimit choice, fun _ _ => rfl⟩

/-! ### LIVE ON (R128) -/

theorem liveOn_of_fields (params : r.params = [0#8, high, low]) (inside : high.toNat ≤ 15) : liveOn r s =
    { state := (askLive (BitVec.ofNat 12 (high.toNat * 256 + low.toNat)) s).1
      code := (askLive (BitVec.ofNat 12 (high.toNat * 256 + low.toNat)) s).2, data := [] } := by
  have good : badAction 3 1 r = false := badAction_eq_false (by rw [params]; rfl) (by rw [params]; exact Nat.zero_le 1)
  have word : wordAt r.params 1 = high.toNat * 256 + low.toNat := by rw [params]; rfl
  have := low.isLt
  rw [liveOn, good, word, if_neg]
  rw [Bool.false_or, decide_eq_true_iff]
  omega

theorem liveOn_of_high (params : r.params = [0#8, high, low]) (outside : 15 < high.toNat) :
    liveOn r s = refuse .badField s := by
  have word : wordAt r.params 1 = high.toNat * 256 + low.toNat := by rw [params]; rfl
  rw [liveOn, word, if_pos]
  rw [Bool.or_eq_true, decide_eq_true_iff]
  exact .inr (by omega)

theorem askLive_of_on (mask : LanguageMask) (on : s.segment.live = .on) : askLive mask s =
    ({ s with segment := { s.segment with liveMask := mask &&& eligible s } }, .done) := by
  rw [askLive, on]

theorem askLive_of_busy (mask : LanguageMask) (other : s.segment.live ≠ .on) (busy : pathBusy s = true) :
    askLive mask s =
      ({ s with segment := { s.segment with live := .requested, heldMask := mask &&& eligible s } }, .deferred) := by
  unfold askLive
  dsimp only
  split
  · next on => exact absurd on other
  · exact if_pos busy

theorem askLive_of_free (mask : LanguageMask) (other : s.segment.live ≠ .on) (free : pathBusy s = false) :
    askLive mask s = (grantLive (mask &&& eligible s) s, .done) := by
  unfold askLive
  dsimp only
  split
  · next on => exact absurd on other
  · exact if_neg (Bool.eq_false_iff.1 free)

theorem flagBits_testBit (flags : List Bool) (i : Nat) : (flagBits flags).testBit i = flags.getD i false := by
  induction flags generalizing i with
  | nil => simp [flagBits]
  | cons flag rest ih =>
    rw [flagBits]
    cases i with
    | zero => cases flag <;> simp [Nat.add_mod]
    | succ i =>
      rw [Nat.testBit_add_one, List.getD_cons_succ, ← ih]
      congr 1
      split <;> omega

/-- The languages enabled and live-eligible (R128). -/
theorem eligible_getLsbD {i : Nat} : (eligible s).getLsbD i = true ↔
    i < 12 ∧ ∃ e, s.seats.map[i]? = some e ∧ e.enabled = true ∧ e.liveEligible = true := by
  rw [eligible, BitVec.getLsbD_ofNat, flagBits_testBit, Bool.and_eq_true, decide_eq_true_iff,
    List.getD_eq_getElem?_getD, List.getElem?_map]
  cases s.seats.map[i]? with
  | none => simp
  | some e => simp

/-- The answer to a LIVE ON that is granted. -/
theorem grant_answered (r : Request) (rest : List Request) (n : Notice) (segment : Segment) (s : State) :
    replied r { state := notify n { setRequests rest s with segment := segment }, code := .done, data := [] } =
      { answered r rest .done [] (notify n s) with segment := segment } := by
  have manage : (notify n { setRequests rest s with segment := segment }).manage =
      (setRequests rest (notify n s)).manage := by
    rw [← notify_setRequests]
    exact notify_manage_congr n rfl
  rw [notify_manage_only n { setRequests rest s with segment := segment }, manage]
  generalize told : notify n s = u
  rw [show u = { s with manage := u.manage } by rw [← told]; exact notify_manage_only n s]
  rfl

/-! ### The frame start's event (R14, R133) -/

theorem reportWhen_segment (build : Bool) (s : State) : (reportWhen build s).segment = s.segment := by
  unfold reportWhen buildReport
  split
  · split <;> rfl
  · rfl

theorem exec_frameStart (reportFirst chimeFirst first : Bool) (s : State) :
    exec (.frameStart reportFirst ⟨chimeFirst, first⟩) s = .next (reportWhen (!reportFirst)
      (endReport (endTicket (handOver (reportWhen reportFirst
          { s with playout := { s.playout with frameTimer := 2 } })).1)
        (frameWork chimeFirst (handOver (reportWhen reportFirst
            { s with playout := { s.playout with frameTimer := 2 } })).1
          (takeEvent first (fun x => (handOver x).2)
            (reportWhen reportFirst { s with playout := { s.playout with frameTimer := 2 } }))))) := rfl

end Sys2Proof.Machine

namespace Sys2Proof.Proofs
open Sys2Proof Sys2Proof.Machine

/-- Settles O35: the answers of LIVE by the live state, and a LIVE OFF taken before an event by `takeEvent_of_liveOff`. -/
theorem liveRequestsByState : Obligations.LiveRequestsByState := by
  refine ⟨fun s => ⟨?busy, pathBusy_of_free⟩, fun s row isRow none => ?noneDue, fun s v reportFirst chimeFirst isView =>
    ⟨fun none => ?noneAtFrame, fun r rest high low head kind params => ?atFrame⟩, ?requests⟩
  case busy =>
    rintro (⟨e, path, running⟩ | ⟨q, mask, plays, use⟩)
    · exact pathBusy_of_running path running
    · exact pathBusy_of_chimeOnly plays use
  case noneDue =>
    obtain ⟨event, row⟩ := segmentRow_event isRow
    rw [row, row, takeEvent_of_none none, takeEvent_false]
  case noneAtFrame => rw [exec_frameStart, exec_frameStart, ← isView, takeEvent_of_none none, takeEvent_false]
  case atFrame =>
    have live : (setRequests rest v).segment = s.segment := by
      rw [isView]
      exact reportWhen_segment _ _
    refine ⟨endLiveAround (fun x => (handOver x).2) (setRequests rest v), ?_, fun off => ?_, fun u isDropped on => ?_⟩
    · rw [exec_frameStart, ← isView, takeEvent_of_liveOff head kind params]
    · exact endLiveAround_of_off (by rw [live]; exact off)
    · rw [endLiveAround_of_on (by rw [live]; exact on), dropLive, live, isDropped]
  case requests =>
    intro s r rest high low mask head kind isMask
    have liveOnRow (params : r.params = [0#8, high, low]) :
        exec .liveOn s = .next (replied r (liveOn r (setRequests rest s))) := congrArg Host.Outcome.next
      (executeHead_replied head (isAction_of_action (by rw [kind]; rfl) (by rw [params]; rfl)))
    refine ⟨fun i => eligible_getLsbD, fun params outside => ?high, fun params inside on => ?on,
      fun params inside other busy => ?defers, fun params inside other free => ?grants, fun params off => ?off,
      fun u isDropped => ⟨fun params on => ?ends, fun row v isRow params => ?coincides⟩⟩
    case high => rw [liveOnRow params, liveOn_of_high params outside, replied_refuse]
    case on =>
      rw [liveOnRow params, liveOn_of_fields params inside, askLive_of_on (s := setRequests rest s) _ on, isMask]
      rfl
    case defers =>
      rw [liveOnRow params, liveOn_of_fields params inside, askLive_of_busy (s := setRequests rest s) _ other busy, isMask]
      rfl
    case grants =>
      rw [liveOnRow params, liveOn_of_fields params inside, askLive_of_free (s := setRequests rest s) _ other free,
        isMask, grantLive]
      refine congrArg Host.Outcome.next ?_
      exact grant_answered r rest _ _ s
    case off =>
      have ends := liveOffAround_of_head (event := fun x => x) head kind params
      rw [endLiveAround_of_off (s := setRequests rest s) off] at ends
      exact congrArg Host.Outcome.next ends
    case ends =>
      have ends := liveOffAround_of_head (event := fun x => x) head kind params
      rw [endLiveAround_of_on (s := setRequests rest s) on] at ends
      rw [isDropped]
      exact congrArg Host.Outcome.next ends
    case coincides =>
      obtain ⟨event, rows⟩ := segmentRow_event isRow
      refine ⟨fun on ran => ?_, fun off ran => ?_⟩
      · rw [rows, takeEvent_false, isDropped] at ran
        rw [rows, takeEvent_of_liveOff head kind params, endLiveAround_of_on (s := setRequests rest s) on,
          ← Host.Outcome.next.inj ran]
        rfl
      · rw [rows, takeEvent_false] at ran
        rw [rows, takeEvent_of_liveOff head kind params, endLiveAround_of_off (s := setRequests rest s) off,
          ← Host.Outcome.next.inj ran]

end Sys2Proof.Proofs

/-! The announcement path at a link loss and under it (R140, R148 to R150). -/

namespace Sys2Proof.Machine

variable {s t : State} {e w : Entry} {rest : List Entry} {record : ClassRec} {n : Nat}

theorem notify_of_manage (notice : Notice) (same : t.manage = s.manage) :
    notify notice t = { t with manage := (notify notice s).manage } := by
  rw [notify_manage_only, notify_manage_congr notice same]

theorem setAlert_of_lighting {scene : Option Nat} (same : t.lighting = s.lighting) :
    setAlert scene t = { t with lighting := (setAlert scene s).lighting } := by
  rw [setAlert_lighting_only, setAlert_lighting_congr same]

/-! ### The start step under link loss (R149, R150) -/

theorem startDown_of_lower (fuel : Nat) (lower : ∀ w ∈ s.announce.waiting, w.cls ≠ .clearance) :
    startDown fuel s = (s, false) := by
  cases fuel with
  | zero => rfl
  | succ fuel =>
    rw [startDown]
    split
    · rfl
    · next w rest waiting => exact if_neg (lower w (by rw [waiting]; exact List.mem_cons_self))

/-- While the link is not UP no entry but a CLEARANCE one starts. -/
theorem startStep_of_lower (path : s.announce.path = none) (down : s.link.state ≠ .up)
    (lower : ∀ w ∈ s.announce.waiting, w.cls ≠ .clearance) : startStep s = (s, false) := by
  rw [startStep, path]
  exact (if_neg down).trans (startDown_of_lower _ lower)

theorem startStep_of_first_lower (path : s.announce.path = none) (down : s.link.state ≠ .up)
    (waiting : s.announce.waiting = w :: rest) (lower : w.cls ≠ .clearance) : startStep s = (s, false) := by
  rw [startStep, path]
  refine (if_neg down).trans ?_
  rw [waiting, List.length_cons, startDown, waiting]
  exact if_neg lower

theorem classRecord_of_entry {cls : AnnClass} (isRecord : s.mix.classes[cls.code]? = some record) :
    classRecord s cls = record := by
  rw [classRecord, List.getD_eq_getElem?_getD, isRecord, Option.getD_some]

theorem beginChimeOnly_of_chime (chime : (classRecord s e.cls).chime = some n) : beginChimeOnly e s =
    (requestChime n none e.mask
      (setPath (some { e with state := .chimeOnly, ticket := none, chime := some n }) s), false) := by
  rw [beginChimeOnly, chime]

theorem beginChimeOnly_of_none (chime : (classRecord s e.cls).chime = none) :
    beginChimeOnly e s = (setPath none s, true) := by
  rw [beginChimeOnly, chime]

/-- A CLEARANCE entry with a chime runs chime-only, with CLIP-FAILED for ticket 0. -/
theorem startStep_of_clearance (path : s.announce.path = none) (down : s.link.state ≠ .up)
    (waiting : s.announce.waiting = w :: rest) (clearance : w.cls = .clearance)
    (isRecord : s.mix.classes[AnnClass.clearance.code]? = some record) (chime : record.chime = some n) :
    (startStep s).1 = { s with
      announce := { s.announce with
        path := some { w with state := .chimeOnly, ticket := none, chime := some n, maxSeconds := record.maxSeconds }
        waiting := rest }
      manage := (notify (.clipFailed 0 w.clip w.cls .link) s).manage
      mix := { s.mix with generator := some (sequenceOf (.announcement none w.mask) (chimeRecord s n)) } } := by
  have told : notify (.clipFailed 0 w.clip w.cls .link) (setWaiting rest s) =
      { setWaiting rest s with manage := (notify (.clipFailed 0 w.clip w.cls .link) s).manage } :=
    notify_of_manage _ rfl
  have isRecord' : classRecord s w.cls = record := by rw [clearance]; exact classRecord_of_entry isRecord
  rw [startStep, path]
  dsimp only
  rw [if_neg down, waiting, List.length_cons, startDown, waiting]
  dsimp only
  rw [if_pos clearance, told, isRecord', beginChimeOnly_of_chime (n := n) (isRecord'.symm ▸ chime), if_neg Bool.false_ne_true]
  rfl

/-! ### The path at a link loss (R148, R150) -/

/-- The state of a running path with its timers and its chime stopped. -/
def pathStopped (e : Entry) (s : State) : State := stopTimers (if e.state = .startingChime then stopChime s else s)

theorem pathStopped_eq (e : Entry) (s : State) : ∃ g, pathStopped e s = { s with
    announce := { s.announce with startTimer := none, durationTimer := none }
    mix := { s.mix with generator := g } } := by
  unfold pathStopped
  split
  · refine ⟨(stopChime s).mix.generator, ?_⟩
    rw [stopChime_eq]
    rfl
  · exact ⟨s.mix.generator, rfl⟩

/-- A running path stopped, with its CLIP-FAILED. -/
theorem pathStopped_noted (e : Entry) (s : State) : ∃ g,
    notify (.clipFailed (e.ticket.getD 0) e.clip e.cls .link) (pathStopped e s) = { s with
      announce := { s.announce with startTimer := none, durationTimer := none }
      mix := { s.mix with generator := g }
      manage := (notify (.clipFailed (e.ticket.getD 0) e.clip e.cls .link) s).manage } := by
  obtain ⟨g, stopped⟩ := pathStopped_eq e s
  rw [stopped]
  exact ⟨g, notify_of_manage _ rfl⟩

theorem announceLinkLoss_of_still (still : s.announce.path = none ∨ ∃ e, s.announce.path = some e ∧
    (e.state = .chimeOnly ∨ e.state = .waiting)) : announceLinkLoss s = (s, false) := by
  rw [announceLinkLoss]
  rcases still with path | ⟨e, path, only | waits⟩
  · rw [path]
  · rw [path]
    dsimp only
    rw [only]
  · rw [path]
    dsimp only
    rw [waits]

/-- A running entry deals with the loss. -/
theorem announceLinkLoss_of_running (path : s.announce.path = some e) (runs : e.state ≠ .chimeOnly)
    (held : e.state ≠ .waiting) : announceLinkLoss s =
      if e.cls = .clearance then
        (reportAlert (if (beginChimeOnly e (notify (.clipFailed (e.ticket.getD 0) e.clip e.cls .link)
            (pathStopped e s))).2
          then (startStep (beginChimeOnly e (notify (.clipFailed (e.ticket.getD 0) e.clip e.cls .link)
            (pathStopped e s))).1).1
          else (beginChimeOnly e (notify (.clipFailed (e.ticket.getD 0) e.clip e.cls .link) (pathStopped e s))).1), true)
      else if e.state = .startingChime then (reportAlert (startStep (returnToWaiting e (pathStopped e s))).1, true)
      else (reportAlert (startStep (notify (.clipFailed (e.ticket.getD 0) e.clip e.cls .link)
        (setPath none (pathStopped e s)))).1, true) := by
  rw [announceLinkLoss, path]
  dsimp only
  split
  · next only => exact absurd only runs
  · next waits => exact absurd waits held
  · rfl

theorem insertRanked_forall {P : Entry → Prop} {list : List Entry} (own : P e) (others : ∀ w ∈ list, P w) :
    ∀ w ∈ insertRanked e list, P w := fun w inside => by
  rcases List.mem_cons.1 ((insertRanked_perm e list).mem_iff.1 inside) with rfl | old
  · exact own
  · exact others w old

/-- An entry in STARTING-CLIP or PLAYING is removed with its CLIP-FAILED. -/
theorem announceLinkLoss_of_clip (path : s.announce.path = some e) (running : e.state = .startingClip ∨ e.state = .playing)
    (lower : e.cls ≠ .clearance) (others : ∀ w ∈ s.announce.waiting, w.cls ≠ .clearance) (down : s.link.state ≠ .up) :
    (announceLinkLoss s).1 = { s with
      announce := { s.announce with path := none, startTimer := none, durationTimer := none }
      manage := (notify (.clipFailed (e.ticket.getD 0) e.clip e.cls .link) s).manage
      lighting := (setAlert none s).lighting } := by
  have noChime : e.state ≠ .startingChime := by rcases running with state | state <;> rw [state] <;> nofun
  have runs : e.state ≠ .chimeOnly := by rcases running with state | state <;> rw [state] <;> nofun
  have held : e.state ≠ .waiting := by rcases running with state | state <;> rw [state] <;> nofun
  have stopped : pathStopped e s = stopTimers s := congrArg stopTimers (if_neg noChime)
  rw [announceLinkLoss_of_running path runs held, if_neg lower, if_neg noChime, stopped,
    notify_of_manage (t := setPath none (stopTimers s)) (s := s) _ rfl, startStep_of_lower rfl (by exact down) (by exact others),
    reportAlert_of_free rfl]
  · exact setAlert_of_lighting rfl

/-- An entry in STARTING-CHIME waits again, merged with one alike (R140). -/
theorem announceLinkLoss_of_chime (path : s.announce.path = some e) (chime : e.state = .startingChime)
    (lower : e.cls ≠ .clearance) (others : ∀ w ∈ s.announce.waiting, w.cls ≠ .clearance) (down : s.link.state ≠ .up) :
    (announceLinkLoss s).1 = { s with
      announce := { s.announce with
        path := none, startTimer := none, durationTimer := none
        waiting := insertRanked
          (waitingAgain ((waitingMask e.clip e.cls s.announce.waiting).elim e.mask fun m => e.mask ||| m) e)
          (s.announce.waiting.filter fun w => decide (¬ (w.clip = e.clip ∧ w.cls = e.cls))) }
      mix := (stopChime s).mix, lighting := (setAlert none s).lighting } := by
  have stopped : pathStopped e s = { s with
      announce := { s.announce with startTimer := none, durationTimer := none }, mix := (stopChime s).mix } := by
    obtain ⟨g, eq⟩ : ∃ g, stopChime s = { s with mix := { s.mix with generator := g } } := ⟨_, stopChime_eq s⟩
    rw [pathStopped, if_pos chime, eq]
    rfl
  rw [announceLinkLoss_of_running path (by rw [chime]; nofun) (by rw [chime]; nofun), if_neg lower, if_pos chime, stopped,
    returnToWaiting_eq, startStep_of_lower rfl (by exact down), reportAlert_of_free rfl]
  · exact setAlert_of_lighting rfl
  · exact insertRanked_forall lower fun w inside => others w (List.mem_of_mem_filter inside)

/-- A CLEARANCE entry runs chime-only. -/
theorem announceLinkLoss_of_clearance (path : s.announce.path = some e) (runs : e.state ≠ .chimeOnly)
    (held : e.state ≠ .waiting) (clearance : e.cls = .clearance) (chime : (classRecord s e.cls).chime = some n) :
    (announceLinkLoss s).1 = { s with
      announce := { s.announce with
        path := some { e with state := .chimeOnly, ticket := none, chime := some n }
        startTimer := none, durationTimer := none }
      mix := { s.mix with generator := some (sequenceOf (.announcement none e.mask) (chimeRecord s n)) }
      manage := (notify (.clipFailed (e.ticket.getD 0) e.clip e.cls .link) s).manage
      lighting := (setAlert e.scene s).lighting } := by
  obtain ⟨g, stopped⟩ := pathStopped_noted e s
  rw [announceLinkLoss_of_running path runs held, if_pos clearance, stopped,
    beginChimeOnly_of_chime (n := n) (by exact chime), if_neg Bool.false_ne_true,
    reportAlert_of_held rfl]
  · exact setAlert_of_lighting rfl

/-- A CLEARANCE entry whose class has no chime is removed. -/
theorem announceLinkLoss_of_silent (path : s.announce.path = some e) (runs : e.state ≠ .chimeOnly)
    (held : e.state ≠ .waiting) (clearance : e.cls = .clearance) (chime : (classRecord s e.cls).chime = none)
    (others : ∀ w ∈ s.announce.waiting, w.cls ≠ .clearance) (down : s.link.state ≠ .up) : ∃ g,
    (announceLinkLoss s).1 = { s with
      announce := { s.announce with path := none, startTimer := none, durationTimer := none }
      mix := { s.mix with generator := g }
      manage := (notify (.clipFailed (e.ticket.getD 0) e.clip e.cls .link) s).manage
      lighting := (setAlert none s).lighting } := by
  obtain ⟨g, stopped⟩ := pathStopped_noted e s
  refine ⟨g, ?_⟩
  rw [announceLinkLoss_of_running path runs held, if_pos clearance, stopped,
    beginChimeOnly_of_none (by exact chime), if_pos rfl,
    startStep_of_lower rfl (by exact down) (by exact others), reportAlert_of_free rfl]
  · exact setAlert_of_lighting rfl

/-- The mask of the WAITING entry alike. -/
theorem waitingMask_of_alike {list : List Entry}
    (distinct : list.Pairwise fun a b => ¬ (a.clip = b.clip ∧ a.cls = b.cls)) (inside : w ∈ list) (clip : w.clip = e.clip)
    (cls : w.cls = e.cls) : waitingMask e.clip e.cls list = some w.mask := by
  have found : list.find? (alike e.clip e.cls) = some w := by
    obtain ⟨before, after, rfl⟩ := List.append_of_mem inside
    refine List.find?_eq_some_iff_append.2 ⟨alike_iff.2 ⟨clip, cls⟩, before, after, rfl, fun a old => ?_⟩
    rw [Bool.not_eq_true', Bool.eq_false_iff]
    intro same
    obtain ⟨aClip, aCls⟩ := alike_iff.1 same
    exact (List.pairwise_append.1 distinct).2.2 a old w List.mem_cons_self ⟨aClip.trans clip.symm, aCls.trans cls.symm⟩
  rw [waitingMask, found, Option.map_some]

end Sys2Proof.Machine

namespace Sys2Proof.Proofs
open Sys2Proof Sys2Proof.Machine

/-- Settles O10: the rows of R148 to R150, one lemma each. -/
theorem linkLossFailsRunningClip : Obligations.LinkLossFailsRunningClip := by
  refine ⟨fun s e path running lower others down room => ?clip, fun s still => ?still,
    fun s e mask path chime lower others down distinct isMask => ?chime,
    fun s e record n path runs held clearance down isRecord chime => ?clearance,
    fun s e record path runs held clearance down isRecord chime others => ?silent,
    fun s w rest path waiting down => ⟨fun lower => ?lower, fun record n clearance isRecord chime => ?starts⟩⟩
  case clip =>
    rw [announceLinkLoss_of_clip path running lower others down]
    exact ⟨rfl, congrArg State.manage (if_pos room), setAlert_relit none s⟩
  case still =>
    rw [announceLinkLoss_of_still (still.imp_right fun ⟨e, path, only⟩ => ⟨e, path, .inl only⟩)]
  case chime =>
    rw [announceLinkLoss_of_chime path chime lower others down]
    refine ⟨?_, rfl, rfl, setAlert_relit none s⟩
    rcases isMask with ⟨rfl, apart⟩ | ⟨w, inside, clip, cls, rfl⟩
    · rw [waitingMask_of_none apart]
      rfl
    · rw [waitingMask_of_alike distinct inside clip cls]
      rfl
  case clearance =>
    rw [announceLinkLoss_of_clearance (n := n) path runs held clearance]
    · exact ⟨rfl, rfl, rfl, setAlert_relit e.scene s⟩
    · rw [clearance, classRecord_of_entry isRecord, chime]
  case silent =>
    obtain ⟨g, lost⟩ := announceLinkLoss_of_silent path runs held clearance
      (by rw [clearance, classRecord_of_entry isRecord, chime]) others down
    rw [lost]
    exact ⟨rfl, rfl, setAlert_relit none s⟩
  case lower => rw [startStep_of_first_lower path down waiting lower]
  case starts =>
    rw [startStep_of_clearance path down waiting clearance isRecord chime]
    exact ⟨rfl, rfl, rfl⟩

end Sys2Proof.Proofs

/-! The supervision timer's expiry and a link that is UP again (R129, R131, R148, R151, R181). What the announcement
controller makes of a loss depends on the link, the announcement state, the mix engine and the lighting alone, and its
notices on those queued before. -/

namespace Sys2Proof.Machine

variable {s t : State} {e w : Entry} {told : Prop}

/-! ### What the path's fate depends on -/

/-- `t` and `s` agree on all that the announcement controller reads, and, where `told`, on the notices. -/
structure PathAlike (told : Prop) (s t : State) : Prop where
  link : t.link = s.link
  announce : t.announce = s.announce
  mix : t.mix = s.mix
  lighting : t.lighting = s.lighting
  manage : told → t.manage = s.manage

namespace PathAlike

theorem refl (s : State) : PathAlike told s s := ⟨rfl, rfl, rfl, rfl, fun _ => rfl⟩

theorem notify (alike : PathAlike told s t) (n : Notice) : PathAlike told (notify n s) (notify n t) where
  link := by rw [notify_link, notify_link, alike.link]
  announce := by rw [notify_announce, notify_announce, alike.announce]
  mix := by rw [notify_mix, notify_mix, alike.mix]
  lighting := by rw [notify_lighting, notify_lighting, alike.lighting]
  manage := fun yes => notify_manage_congr n (alike.manage yes)

/-- An update of the announcement state and the generator that both states take alike. -/
theorem update (alike : PathAlike told s t) (f : Announcer → Announcer) (g : MixEngine → MixEngine) :
    PathAlike told { s with announce := f s.announce, mix := g s.mix }
      { t with announce := f t.announce, mix := g t.mix } :=
  ⟨alike.link, congrArg f alike.announce, congrArg g alike.mix, alike.lighting, alike.manage⟩

theorem stopChime (alike : PathAlike told s t) : PathAlike told (stopChime s) (stopChime t) := by
  have mix := stopChime_mix_congr alike.mix
  rw [stopChime_eq s, stopChime_eq t]
  refine ⟨alike.link, alike.announce, ?_, alike.lighting, alike.manage⟩
  dsimp only
  rw [mix, alike.mix]

theorem setAlert (alike : PathAlike told s t) (scene : Option Nat) : PathAlike told (setAlert scene s) (setAlert scene t) := by
  have lighting := setAlert_lighting_congr (scene := scene) alike.lighting
  rw [setAlert_lighting_only scene s, setAlert_lighting_only scene t]
  exact ⟨alike.link, alike.announce, alike.mix, lighting, alike.manage⟩

theorem reportAlert (alike : PathAlike told s t) : PathAlike told (reportAlert s) (reportAlert t) := by
  rw [Machine.reportAlert, Machine.reportAlert, alike.announce]
  exact alike.setAlert _

theorem classRecord (alike : PathAlike told s t) (cls : AnnClass) : classRecord t cls = classRecord s cls := by
  rw [Machine.classRecord, alike.mix, Machine.classRecord]

theorem requestChime (alike : PathAlike told s t) (n : Nat) (ticket : Option Nat) (mask : ZoneMask) :
    PathAlike told (requestChime n ticket mask s) (requestChime n ticket mask t) :=
  alike.update id fun m => { m with
    generator := some (sequenceOf (.announcement ticket mask) (m.chimes.getD n { count := 0, tones := [] })) }

theorem setPath (alike : PathAlike told s t) (path : Option Entry) : PathAlike told (setPath path s) (setPath path t) :=
  alike.update (fun a => { a with path := path }) id

theorem setWaiting (alike : PathAlike told s t) (list : List Entry) :
    PathAlike told (setWaiting list s) (setWaiting list t) :=
  alike.update (fun a => { a with waiting := list }) id

theorem stopTimers (alike : PathAlike told s t) : PathAlike told (stopTimers s) (stopTimers t) :=
  alike.update (fun a => { a with startTimer := none, durationTimer := none }) id

theorem startEntry (alike : PathAlike told s t) (w : Entry) : PathAlike told (startEntry w s) (startEntry w t) := by
  have entry : startedEntry t w = startedEntry s w := by
    rw [startedEntry, startedEntry, alike.classRecord, alike.announce]
  have generator : startedGenerator t w = startedGenerator s w := by
    rw [startedGenerator, startedGenerator, alike.classRecord, alike.announce, alike.mix]
    unfold chimeRecord
    rw [alike.mix]
  rw [startEntry_eq, startEntry_eq, entry, generator, alike.classRecord, alike.announce, alike.mix]
  exact ⟨alike.link, rfl, rfl, alike.lighting, alike.manage⟩

theorem returnToWaiting (alike : PathAlike told s t) (e : Entry) :
    PathAlike told (returnToWaiting e s) (returnToWaiting e t) := by
  rw [returnToWaiting_eq, returnToWaiting_eq, alike.announce]
  exact ⟨alike.link, rfl, alike.mix, alike.lighting, alike.manage⟩

/-- An outcome with its answer, alike on both states. -/
def Outcomes (told : Prop) (a b : State × Bool) : Prop := PathAlike told a.1 b.1 ∧ b.2 = a.2

theorem beginChimeOnly (alike : PathAlike told s t) (e : Entry) :
    Outcomes told (beginChimeOnly e s) (beginChimeOnly e t) := by
  cases chime : (Machine.classRecord s e.cls).chime with
  | none =>
    rw [beginChimeOnly_of_none chime, beginChimeOnly_of_none ((alike.classRecord e.cls).symm ▸ chime)]
    exact ⟨alike.setPath none, rfl⟩
  | some n =>
    rw [beginChimeOnly_of_chime chime, beginChimeOnly_of_chime ((alike.classRecord e.cls).symm ▸ chime)]
    exact ⟨(alike.setPath _).requestChime n none e.mask, rfl⟩

theorem startDown (alike : PathAlike told s t) (fuel : Nat) : Outcomes told (startDown fuel s) (startDown fuel t) := by
  induction fuel generalizing s t with
  | zero => exact ⟨alike, rfl⟩
  | succ fuel ih =>
    rw [Machine.startDown, Machine.startDown, alike.announce]
    cases s.announce.waiting with
    | nil => exact ⟨alike, rfl⟩
    | cons w rest =>
      dsimp only
      split
      · rw [alike.classRecord]
        obtain ⟨begun, removed⟩ := ((alike.setWaiting rest).notify (.clipFailed 0 w.clip w.cls .link)).beginChimeOnly
          { w with maxSeconds := (Machine.classRecord s w.cls).maxSeconds }
        rw [removed]
        split
        · exact ⟨(ih begun).1, rfl⟩
        · exact ⟨begun, rfl⟩
      · exact ⟨alike, rfl⟩

theorem startStep (alike : PathAlike told s t) : Outcomes told (startStep s) (startStep t) := by
  rw [Machine.startStep, Machine.startStep, alike.announce, alike.link]
  cases s.announce.path with
  | some e => exact ⟨alike, rfl⟩
  | none =>
    dsimp only
    split
    · cases s.announce.waiting with
      | nil => exact ⟨alike, rfl⟩
      | cons w rest => exact ⟨(alike.setWaiting rest).startEntry w, rfl⟩
    · exact alike.startDown _

theorem pathStopped (alike : PathAlike told s t) (e : Entry) : PathAlike told (pathStopped e s) (pathStopped e t) := by
  unfold Machine.pathStopped
  split
  · exact alike.stopChime.stopTimers
  · exact alike.stopTimers

/-- The path deals with a loss alike. -/
theorem announceLinkLoss (alike : PathAlike told s t) : Outcomes told (announceLinkLoss s) (announceLinkLoss t) := by
  by_cases still : s.announce.path = none ∨ ∃ e, s.announce.path = some e ∧ (e.state = .chimeOnly ∨ e.state = .waiting)
  · rw [announceLinkLoss_of_still still, announceLinkLoss_of_still (by rw [alike.announce]; exact still)]
    exact ⟨alike, rfl⟩
  · rw [not_or] at still
    obtain ⟨held, running⟩ := still
    obtain ⟨e, path⟩ := Option.ne_none_iff_exists'.1 held
    have runs : e.state ≠ .chimeOnly := fun only => running ⟨e, path, .inl only⟩
    have other : e.state ≠ .waiting := fun waits => running ⟨e, path, .inr waits⟩
    rw [announceLinkLoss_of_running path runs other,
      announceLinkLoss_of_running (by rw [alike.announce]; exact path) runs other]
    have stopped := alike.pathStopped e
    split
    · obtain ⟨begun, removed⟩ := (stopped.notify (.clipFailed (e.ticket.getD 0) e.clip e.cls .link)).beginChimeOnly e
      rw [removed]
      refine ⟨reportAlert ?_, rfl⟩
      split
      · exact begun.startStep.1
      · exact begun
    · split
      · exact ⟨(stopped.returnToWaiting e).startStep.1.reportAlert, rfl⟩
      · exact ⟨((stopped.setPath none).notify _).startStep.1.reportAlert, rfl⟩

end PathAlike

/-! ### What the loss brings besides the path's (R15, R131, R181) -/

namespace PathAlike

variable {u : State}

theorem trans (first : PathAlike told s t) (second : PathAlike told t u) : PathAlike told s u :=
  ⟨second.link.trans first.link, second.announce.trans first.announce, second.mix.trans first.mix,
    second.lighting.trans first.lighting, fun yes => (second.manage yes).trans (first.manage yes)⟩

theorem weaken (alike : PathAlike told s t) : PathAlike False s t :=
  ⟨alike.link, alike.announce, alike.mix, alike.lighting, nofun⟩

theorem notified (n : Notice) (s : State) : PathAlike False s (Machine.notify n s) :=
  ⟨notify_link s n, notify_announce s n, notify_mix s n, notify_lighting s n, nofun⟩

theorem reportIfFree (s : State) : PathAlike False s (reportIfFree s) := by
  unfold Machine.reportIfFree
  split
  · exact .refl s
  · unfold pathFreeReport
    split
    · have told := notified (.liveGranted (s.segment.heldMask &&& eligible s))
        { s with segment := { s.segment with
          live := .on, liveMask := s.segment.heldMask &&& eligible s, heldMask := 0 } }
      exact ⟨told.link, told.announce, told.mix, told.lighting, nofun⟩
    · exact .refl s

end PathAlike

/-- Segment control as a loss of the link leaves it. -/
def segmentDown (x : Segment) : Segment := { x with live := .off, liveMask := 0, heldMask := 0 }

theorem dropLive_eq (s : State) : dropLive s =
    { s with segment := segmentDown s.segment, manage := (notify .liveEnded s).manage } :=
  notify_of_manage _ rfl

theorem retry_of_down (down : s.link.state ≠ .up) : retry s = s :=
  retry_of_none_servable fun _ _ can => down can.2.1

/-- With the link down no retry finds a cue to serve. -/
theorem endLive_of_down (down : s.link.state ≠ .up) :
    endLive s = if s.segment.live = .off then s else dropLive s := by
  split
  · next off => exact endLiveAround_of_off off
  · next on =>
    refine (endLiveAround_of_on on).trans (retry_of_down ?_)
    rw [dropLive_eq]
    exact down

theorem endLive_alike (down : s.link.state ≠ .up) : PathAlike False s (endLive s) := by
  rw [endLive_of_down down]
  split
  · exact .refl s
  · rw [dropLive_eq]
    exact ⟨rfl, rfl, rfl, rfl, nofun⟩

theorem endLive_pathFrame (down : s.link.state ≠ .up) : PathFrame s (endLive s) := by
  rw [endLive_of_down down]
  split
  · exact .refl s
  · have told := notify_pathFrame { s with segment := segmentDown s.segment } .liveEnded
    exact ⟨told.link, told.playout, told.seats, told.lines, told.sense, told.route, told.report, told.clockPhase,
      told.pending, told.requests, told.replies, told.mix⟩

/-- The link LOST, and nothing else changed. -/
def linkDown (s : State) : State := { s with link := { s.link with state := .lost, supervision := none } }

/-- The playout buffer's flush is told to nobody. -/
theorem playoutLinkLoss_linkDown (s : State) : playoutLinkLoss (linkDown s) = { linkDown s with
    playout := { s.playout with queue := [], state := .filling, lastSequence := none, segmentCopy := 0 } } := by
  unfold playoutLinkLoss setSegmentCopy
  dsimp only
  split
  · exact retry_of_down nofun
  · rfl

theorem playoutLinkLoss_alike (s : State) : PathAlike True (linkDown s) (playoutLinkLoss (linkDown s)) := by
  rw [playoutLinkLoss_linkDown]
  exact ⟨rfl, rfl, rfl, rfl, fun _ => rfl⟩

theorem announceLinkLoss_segment (s : State) : (announceLinkLoss s).1.segment = s.segment := by
  have stopped (e : Entry) : (pathStopped e s).segment = s.segment := by
    obtain ⟨g, eq⟩ := pathStopped_eq e s
    rw [eq]
  by_cases still : s.announce.path = none ∨ ∃ e, s.announce.path = some e ∧ (e.state = .chimeOnly ∨ e.state = .waiting)
  · rw [announceLinkLoss_of_still still]
  · rw [not_or] at still
    obtain ⟨held, running⟩ := still
    obtain ⟨e, path⟩ := Option.ne_none_iff_exists'.1 held
    rw [announceLinkLoss_of_running path (fun only => running ⟨e, path, .inl only⟩)
      (fun waits => running ⟨e, path, .inr waits⟩)]
    split
    · refine (setAlert_segment _ _).trans ?_
      split
      · rw [startStep_segment, beginChimeOnly_segment, notify_segment, stopped]
      · rw [beginChimeOnly_segment, notify_segment, stopped]
    · split
      · refine (setAlert_segment _ _).trans ?_
        rw [startStep_segment, returnToWaiting_eq]
        exact stopped e
      · refine (setAlert_segment _ _).trans ?_
        rw [startStep_segment, notify_segment]
        exact stopped e

/-- The path-free report may be due where the path entry was running. -/
theorem announceLinkLoss_freed : (announceLinkLoss s).2 = true ↔
    ∃ e, s.announce.path = some e ∧ e.state ≠ .chimeOnly ∧ e.state ≠ .waiting := by
  constructor
  · intro freed
    by_contra idle
    have still : s.announce.path = none ∨ ∃ e, s.announce.path = some e ∧
        (e.state = .chimeOnly ∨ e.state = .waiting) := by
      cases path : s.announce.path with
      | none => exact .inl rfl
      | some e =>
        refine .inr ⟨e, rfl, ?_⟩
        by_contra runs
        rw [not_or] at runs
        exact idle ⟨e, path, runs⟩
    rw [announceLinkLoss_of_still still] at freed
    exact absurd freed Bool.false_ne_true
  · rintro ⟨e, path, runs, held⟩
    rw [announceLinkLoss_of_running path runs held]
    split
    · rfl
    · split <;> rfl

/-! ### The link's loss as a whole (R129, R181) -/

/-- What the path makes of the loss, with the path-free report. -/
def pathDown (s : State) : State :=
  if (announceLinkLoss s).2 then reportIfFree (announceLinkLoss s).1 else (announceLinkLoss s).1

theorem loseLink_eq (liveFirst : Bool) (s : State) : ∃ v, loseLink liveFirst s = setRequests [] v ∧
    v = if liveFirst then pathDown (endLive (playoutLinkLoss (linkDown s)))
      else endLive (pathDown (playoutLinkLoss (linkDown s))) := by
  cases liveFirst <;> exact ⟨_, rfl, rfl⟩

theorem pathDown_pathFrame (s : State) : PathFrame s (pathDown s) := by
  unfold pathDown
  split
  · exact (announceLinkLoss_pathFrame _).trans (reportIfFree_pathFrame _)
  · exact announceLinkLoss_pathFrame _

theorem pathDown_alike (s : State) : PathAlike False (announceLinkLoss s).1 (pathDown s) := by
  unfold pathDown
  split
  · exact .reportIfFree _
  · exact .refl _

/-- The loss in either order keeps what the path and live control do not own. -/
theorem loseLink_frame {liveFirst : Bool} {v : State}
    (isV : v = if liveFirst then pathDown (endLive (playoutLinkLoss (linkDown s)))
      else endLive (pathDown (playoutLinkLoss (linkDown s)))) :
    PathFrame (playoutLinkLoss (linkDown s)) v ∧ PathAlike False (announceLinkLoss (linkDown s)).1 v := by
  have lost := (playoutLinkLoss_alike s).weaken
  have down : (playoutLinkLoss (linkDown s)).link.state ≠ .up := by
    rw [lost.link]
    nofun
  subst isV
  cases liveFirst with
  | true =>
    exact ⟨(endLive_pathFrame down).trans (pathDown_pathFrame _),
      (lost.trans (endLive_alike down)).announceLinkLoss.1.trans (pathDown_alike _)⟩
  | false =>
    have path := pathDown_pathFrame (playoutLinkLoss (linkDown s))
    have pathIsDown : (pathDown (playoutLinkLoss (linkDown s))).link.state ≠ .up := by rw [path.link]; exact down
    exact ⟨path.trans (endLive_pathFrame pathIsDown),
      (lost.announceLinkLoss.1.trans (pathDown_alike _)).trans (endLive_alike pathIsDown)⟩

theorem pathDown_of_other (other : s.segment.live ≠ .requested) : pathDown s = (announceLinkLoss s).1 := by
  unfold pathDown
  split
  · unfold reportIfFree
    split
    · rfl
    · exact pathFreeReport_of_other (by rw [announceLinkLoss_segment]; exact other)
  · rfl

/-- The notices with which the path ends, the grant of a REQUESTED live among them. -/
theorem pathDown_manage (s : State) : (pathDown s).manage =
    (if s.segment.live = .requested ∧ (announceLinkLoss s).1.announce.path = none ∧
        (∃ e, s.announce.path = some e ∧ e.state ≠ .chimeOnly ∧ e.state ≠ .waiting) then
      notify (.liveGranted (s.segment.heldMask &&& eligible s)) (announceLinkLoss s).1
    else (announceLinkLoss s).1).manage := by
  have segment := announceLinkLoss_segment s
  have seats : (announceLinkLoss s).1.seats = s.seats := (announceLinkLoss_pathFrame s).seats
  by_cases requested : s.segment.live = .requested
  · by_cases freed : ∃ e, s.announce.path = some e ∧ e.state ≠ .chimeOnly ∧ e.state ≠ .waiting
    · rw [pathDown, if_pos (announceLinkLoss_freed.2 freed)]
      cases path : (announceLinkLoss s).1.announce.path with
      | none =>
        rw [reportIfFree_of_free path, pathFreeReport_of_requested (by rw [segment]; exact requested), grantLive,
          if_pos ⟨requested, rfl, freed⟩, eligible, segment, seats]
        exact notify_manage_congr _ rfl
      | some e => rw [reportIfFree_of_held path, if_neg fun all => nomatch all.2.1]
    · rw [pathDown, if_neg fun yes => freed (announceLinkLoss_freed.1 yes), if_neg fun all => freed all.2.2]
  · rw [pathDown_of_other requested, if_neg fun all => requested all.1]

theorem pathDown_granted (s : State) : GrantOnly s (pathDown s) := by
  have lost : GrantOnly s (announceLinkLoss s).1 := .of_same (announceLinkLoss_segment s)
  unfold pathDown
  split
  · exact lost.trans (.reportIfFree _)
  · exact lost

theorem GrantOnly.request (granted : GrantOnly s t) :
    t.segment.requested = s.segment.requested ∧ t.segment.count = s.segment.count := by
  rcases granted with same | ⟨_, granted⟩
  · rw [same]
    exact ⟨rfl, rfl⟩
  · rw [granted]
    exact ⟨rfl, rfl⟩

/-- A loss with live OFF is the path's alone. -/
theorem loss_of_off {liveFirst : Bool} (off : s.segment.live = .off) (down : s.link.state ≠ .up) :
    (if liveFirst then pathDown (endLive s) else endLive (pathDown s)) = (announceLinkLoss s).1 := by
  have path : pathDown s = (announceLinkLoss s).1 := pathDown_of_other (by rw [off]; nofun)
  have stillOff : (announceLinkLoss s).1.segment.live = .off := by rw [announceLinkLoss_segment]; exact off
  cases liveFirst with
  | true => exact (congrArg pathDown ((endLive_of_down down).trans (if_pos off))).trans path
  | false => exact (congrArg endLive path).trans (endLiveAround_of_off stillOff)

/-- Live control takes the loss first. -/
theorem loss_of_live_first (on : s.segment.live ≠ .off) (down : s.link.state ≠ .up) :
    pathDown (endLive s) = (announceLinkLoss (dropLive s)).1 := by
  rw [endLive_of_down down, if_neg on]
  refine pathDown_of_other ?_
  rw [dropLive_eq]
  nofun

/-- The path takes the loss first. -/
theorem loss_of_path_first (on : s.segment.live ≠ .off) (down : s.link.state ≠ .up) :
    endLive (pathDown s) = dropLive (pathDown s) := by
  rw [endLive_of_down (by rw [(pathDown_pathFrame s).link]; exact down),
    if_neg fun off => on ((pathDown_granted s).live_off.1 off)]

/-- The segment request stands, and live is OFF with both masks empty where it was not. -/
theorem loss_segment (liveFirst : Bool) (down : s.link.state ≠ .up) (isT : t =
    if liveFirst then pathDown (endLive s) else endLive (pathDown s)) :
    t.segment.live = .off ∧ (s.segment.live ≠ .off → t.segment.liveMask = 0 ∧ t.segment.heldMask = 0) ∧
      t.segment.requested = s.segment.requested ∧ t.segment.count = s.segment.count := by
  subst isT
  by_cases off : s.segment.live = .off
  · rw [loss_of_off off down, announceLinkLoss_segment]
    exact ⟨off, fun on => absurd off on, rfl, rfl⟩
  · cases liveFirst with
    | true =>
      rw [if_pos rfl, loss_of_live_first off down, announceLinkLoss_segment, dropLive_eq]
      exact ⟨rfl, fun _ => ⟨rfl, rfl⟩, rfl, rfl⟩
    | false =>
      rw [if_neg Bool.false_ne_true, loss_of_path_first off down, dropLive_eq]
      exact ⟨rfl, fun _ => ⟨rfl, rfl⟩, (pathDown_granted s).request⟩

/-! ### The link UP again (R151, R181) -/

theorem validFrame_of_up (up : s.link.state = .up) :
    validFrame s = { s with link := { s.link with state := .up, supervision := some (Config.ms 100) } } := by
  unfold validFrame
  rw [up]
  rfl

theorem validFrame_of_wait (wait : s.link.state = .wait) : validFrame s =
    announceLinkUp (retry { s with link := { s.link with state := .up, supervision := some (Config.ms 100) } }) := by
  unfold validFrame
  rw [wait]
  rfl

theorem validFrame_of_lost (lost : s.link.state = .lost) : validFrame s = announceLinkUp (retry (notify .linkRestored
    { s with link := { s.link with state := .up, supervision := some (Config.ms 100) } })) := by
  unfold validFrame
  rw [lost]
  rfl

theorem announceLinkUp_of_held (path : s.announce.path = some e) : announceLinkUp s = s := by
  rw [announceLinkUp, afterArrival, path]

theorem announceLinkUp_of_empty (path : s.announce.path = none) (waiting : s.announce.waiting = []) :
    announceLinkUp s = setAlert none s := by
  rw [announceLinkUp, afterArrival, path]
  dsimp only
  rw [startStep_of_empty path waiting, if_neg Bool.false_ne_true, reportAlert_of_free path]

theorem announceLinkUp_of_next {rest : List Entry} (path : s.announce.path = none)
    (waiting : s.announce.waiting = w :: rest) (up : s.link.state = .up) :
    announceLinkUp s = setAlert w.scene (startEntry w (setWaiting rest s)) := by
  rw [announceLinkUp, afterArrival, path]
  dsimp only
  rw [startStep_of_next path waiting up, if_neg Bool.false_ne_true,
    reportAlert_of_held (e := startedEntry (setWaiting rest s) w) (by rw [startEntry_eq])]
  rfl

end Sys2Proof.Machine

namespace Sys2Proof.Proofs
open Sys2Proof Sys2Proof.Machine

/-- Settles O9: the loss by what it keeps and by the order in which live control and the path take it; the recovery row
by row. -/
theorem supervisionExpiryLosesLink : Obligations.SupervisionExpiryLosesLink := by
  refine ⟨fun s liveFirst => ⟨fun up expired => ?loss, fun other => ?early⟩, fun s u isUp => ?recovery⟩
  case loss =>
    have ran : exec (.supervisionTimerExpiry liveFirst) s = .next (loseLink liveFirst s) := by
      refine congrArg Host.Outcome.next ?_
      rw [up, expired]
      rfl
    obtain ⟨v, lost, isV⟩ := loseLink_eq liveFirst s
    obtain ⟨frame, path⟩ := loseLink_frame isV
    have alike := (playoutLinkLoss_alike s).announceLinkLoss.1
    have flushed := playoutLinkLoss_linkDown s
    have down : (playoutLinkLoss (linkDown s)).link.state ≠ .up := by rw [flushed]; nofun
    have segment := loss_segment liveFirst down isV
    rw [lost] at ran
    rw [flushed] at segment frame
    obtain ⟨off, masks, requested, count⟩ := segment
    refine ⟨_, ran, frame.link, frame.playout, off, masks, requested, count, rfl, frame.replies, frame.seats, frame.lines,
      frame.sense, frame.route, frame.mix, frame.report, fun u isU => ?_⟩
    subst isU
    have emptied {a b : Management} (same : a = b) : { a with requests := [] } = { b with requests := [] } := by rw [same]
    have before (on : s.segment.live ≠ .off) : (playoutLinkLoss (linkDown s)).segment.live ≠ .off := by
      rw [flushed]
      exact on
    refine ⟨path.announce, path.lighting, path.mix, fun isOff => emptied ?off, fun on order => emptied ?pathFirst,
      fun w isW on order => emptied ?liveFirst⟩
    case off =>
      rw [isV, loss_of_off (by rw [flushed]; exact isOff) down]
      exact alike.manage trivial
    case pathFirst =>
      rw [isV, order, if_neg Bool.false_ne_true, loss_of_path_first (before on) down, dropLive_eq]
      have same := alike.manage trivial
      have sameSegment : (playoutLinkLoss (linkDown s)).segment = s.segment := (congrArg State.segment flushed).trans rfl
      have sameAnnounce : (playoutLinkLoss (linkDown s)).announce = s.announce := (congrArg State.announce flushed).trans rfl
      have sameMap : eligible (playoutLinkLoss (linkDown s)) = eligible s := (congrArg eligible flushed).trans rfl
      refine notify_manage_congr _ ((pathDown_manage _).trans ?_)
      rw [alike.announce, sameSegment, sameAnnounce, sameMap]
      split
      · next granted => exact (notify_manage_congr _ same).trans (congrArg State.manage (if_pos granted)).symm
      · next kept => exact same.trans (congrArg State.manage (if_neg kept)).symm
    case liveFirst =>
      rw [isV, order, if_pos rfl, loss_of_live_first (before on) down, isW]
      refine PathAlike.manage (told := True) (PathAlike.announceLinkLoss ?_).1 trivial
      have told : PathAlike True { linkDown s with segment := segmentDown s.segment }
          { playoutLinkLoss (linkDown s) with segment := segmentDown (playoutLinkLoss (linkDown s)).segment } := by
        rw [flushed]
        exact ⟨rfl, rfl, rfl, rfl, fun _ => rfl⟩
      exact told.notify .liveEnded
  case early =>
    refine congrArg Host.Outcome.next ?_
    change (match s.link.state, s.link.supervision with
      | .up, some 0 => loseLink liveFirst s
      | _, _ => s) = s
    split
    · next up expired => exact absurd other (by simp [up, expired])
    · rfl
  case recovery =>
    subst isUp
    refine ⟨validFrame_of_up, validFrame_of_lost, validFrame_of_wait, fun e => announceLinkUp_of_held,
      fun path waiting => ?empty, fun w rest path waiting => ?next⟩
    case empty =>
      rw [announceLinkUp_of_empty path waiting]
      exact ⟨setAlert_lighting_only _ _, setAlert_relit _ _⟩
    case next =>
      rw [announceLinkUp_of_next path waiting rfl, startEntry_eq, setAlert_of_lighting (t := State.mk ..) rfl]
      exact ⟨_, rfl, rfl, rfl, rfl, rfl, rfl, setAlert_relit _ _, rfl⟩

end Sys2Proof.Proofs

/-! The keeping of channel blocks by tag (R7 to R10), and the kept announcement block that starts a clip (R143). -/

namespace Sys2Proof.Machine

variable {s : State} {b : ChannelBlock} {k : KeptBlock} {kept : List KeptBlock} {blocks : List ChannelBlock} {e : Entry}

/-! ### The test by tag -/

theorem tagClaimed_iff {map : List LangEntry} {tag : Nat} :
    tagClaimed map tag = true ↔ ∃ e ∈ map, e.enabled = true ∧ e.tag = tag := by
  simp [tagClaimed]

theorem blockTest_iff : blockTest s b = true ↔ passesTagTest s b := by
  unfold blockTest passesTagTest
  split
  · next commentary =>
    rw [tagClaimed_iff]
    exact ⟨fun claimed => .inl ⟨commentary, claimed⟩, fun passes => by
      rcases passes with ⟨_, claimed⟩ | thirty | ⟨last, _⟩
      · exact claimed
      · omega
      · omega⟩
  · next above =>
    split
    · next thirty => exact ⟨fun _ => .inr (.inl thirty), fun _ => rfl⟩
    · next other =>
      split
      · next last =>
        rw [ticketOnPath_iff]
        exact ⟨fun runs => .inr (.inr ⟨last, runs⟩), fun passes => by
          rcases passes with ⟨low, _⟩ | thirty | ⟨_, runs⟩
          · exact absurd low above
          · exact absurd thirty other
          · exact runs⟩
      · next none =>
        refine ⟨nofun, fun passes => ?_⟩
        rcases passes with ⟨low, _⟩ | thirty | ⟨last, _⟩
        · exact absurd low above
        · exact absurd thirty other
        · exact absurd last none

theorem tagHeld_iff {tag : Nat} : kept.any (fun k => decide (k.tag = tag)) = true ↔ ∃ k ∈ kept, k.tag = tag := by
  simp

/-! ### What is kept (R7) -/

/-- A block is kept where none of its tag is and it passes the test. -/
def keptNow (s : State) (kept : List KeptBlock) (b : ChannelBlock) : Prop :=
  (∀ k ∈ kept, k.tag ≠ b.tag) ∧ passesTagTest s b

theorem keepBlocks_of_kept (now : keptNow s kept b) :
    keepBlocks s (b :: blocks) kept = keepBlocks s blocks (kept ++ [keptBlock b]) := by
  obtain ⟨fresh, passes⟩ := now
  rw [keepBlocks, if_neg fun held => ?_, if_pos (blockTest_iff.2 passes)]
  obtain ⟨k, inside, tag⟩ := tagHeld_iff.1 held
  exact fresh k inside tag

theorem keepBlocks_of_discarded (other : ¬ keptNow s kept b) :
    keepBlocks s (b :: blocks) kept = keepBlocks s blocks kept := by
  rw [keepBlocks]
  split
  · rfl
  · next fresh =>
    refine if_neg fun passes => other ⟨fun k inside tag => fresh (tagHeld_iff.2 ⟨k, inside, tag⟩), blockTest_iff.1 passes⟩

theorem keepBlocks_keeps (blocks : List ChannelBlock) (inside : k ∈ kept) : k ∈ keepBlocks s blocks kept := by
  induction blocks generalizing kept with
  | nil => exact inside
  | cons b rest ih =>
    by_cases now : keptNow s kept b
    · rw [keepBlocks_of_kept now]
      exact ih (List.mem_append_left _ inside)
    · rw [keepBlocks_of_discarded now]
      exact ih inside

theorem keepBlocks_nodup (blocks : List ChannelBlock) (distinct : (kept.map KeptBlock.tag).Nodup) :
    ((keepBlocks s blocks kept).map KeptBlock.tag).Nodup := by
  induction blocks generalizing kept with
  | nil => exact distinct
  | cons b rest ih =>
    by_cases now : keptNow s kept b
    · rw [keepBlocks_of_kept now]
      refine ih ?_
      rw [List.map_append, List.map_singleton, List.nodup_append]
      refine ⟨distinct, List.nodup_singleton _, fun tag held own isOwn => ?_⟩
      obtain ⟨k, inside, rfl⟩ := List.mem_map.1 held
      rw [List.mem_singleton.1 isOwn]
      exact now.1 k inside
    · rw [keepBlocks_of_discarded now]
      exact ih distinct

theorem mem_keepBlocks (inside : k ∈ keepBlocks s blocks kept) :
    k ∈ kept ∨ ∃ b ∈ blocks, passesTagTest s b ∧ k = keptBlock b := by
  induction blocks generalizing kept with
  | nil => exact .inl inside
  | cons b rest ih =>
    have behind (found : ∃ c ∈ rest, passesTagTest s c ∧ k = keptBlock c) :
        ∃ c ∈ b :: rest, passesTagTest s c ∧ k = keptBlock c := by
      obtain ⟨c, held, is⟩ := found
      exact ⟨c, List.mem_cons_of_mem b held, is⟩
    by_cases now : keptNow s kept b
    · rw [keepBlocks_of_kept now] at inside
      rcases ih inside with old | found
      · rcases List.mem_append.1 old with held | own
        · exact .inl held
        · exact .inr ⟨b, List.mem_cons_self, now.2, List.mem_singleton.1 own⟩
      · exact .inr (behind found)
    · rw [keepBlocks_of_discarded now] at inside
      exact (ih inside).imp_right behind

/-- The first block of a tag that passes its test is kept. -/
theorem first_mem_keepBlocks {i : Nat} (atI : blocks[i]? = some b) (passes : passesTagTest s b)
    (fresh : ∀ k ∈ kept, k.tag ≠ b.tag)
    (first : ∀ (j : Nat) (c : ChannelBlock), j < i → blocks[j]? = some c → c.tag = b.tag → ¬ passesTagTest s c) :
    keptBlock b ∈ keepBlocks s blocks kept := by
  induction blocks generalizing kept i with
  | nil => nomatch atI
  | cons c rest ih =>
    cases i with
    | zero =>
      obtain rfl : c = b := Option.some.inj atI
      rw [keepBlocks_of_kept ⟨fresh, passes⟩]
      exact keepBlocks_keeps rest (List.mem_append_right _ (List.mem_singleton_self _))
    | succ i =>
      have later (j : Nat) (d : ChannelBlock) (before : j < i) (atJ : rest[j]? = some d) :=
        first (j + 1) d (Nat.succ_lt_succ before) atJ
      by_cases now : keptNow s kept c
      · rw [keepBlocks_of_kept now]
        refine ih atI (fun k inside => ?_) later
        rcases List.mem_append.1 inside with held | own
        · exact fresh k held
        · rw [List.mem_singleton.1 own]
          exact fun tag => first 0 c (Nat.succ_pos i) rfl tag now.2
      · rw [keepBlocks_of_discarded now]
        exact ih atI fresh later

/-- A block kept carries a mark on tag 31 alone. -/
theorem keptBlock_mark_of_last (last : b.tag = 31) :
    (keptBlock b).mark = some { ticket := b.ticket, endMark := b.endMark } := if_pos last

theorem keptBlock_mark_of_other (other : b.tag ≠ 31) : (keptBlock b).mark = none := if_neg other

/-! ### The first kept block of a clip (R143) -/

theorem reportKept_of_unmarked (unmarked : ∀ k ∈ kept, k.mark = none) : reportKept kept s = s := by
  induction kept with
  | nil => rfl
  | cons k rest ih =>
    rw [reportKept, unmarked k List.mem_cons_self]
    exact ih fun x inside => unmarked x (List.mem_cons_of_mem k inside)

theorem reportKept_of_other (path : s.announce.path = some e) (other : e.state ≠ .startingClip) :
    reportKept kept s = s := by
  induction kept with
  | nil => rfl
  | cons k rest ih =>
    unfold reportKept
    split
    · rw [blockKept_of_other path (.inl other), ih]
    · exact ih

theorem reportKept_of_marked (path : s.announce.path = some e) (starting : e.state = .startingClip)
    (own : ∀ k ∈ kept, ∀ m, k.mark = some m → e.ticket = some m.ticket) (marked : ∃ k ∈ kept, k.mark ≠ none) :
    reportKept kept s = { s with announce := { s.announce with
      path := some { e with state := .playing }, startTimer := none
      durationTimer := some (Config.ms (e.maxSeconds * 1000)) } } := by
  induction kept with
  | nil =>
    obtain ⟨k, inside, _⟩ := marked
    nomatch inside
  | cons k rest ih =>
    unfold reportKept
    split
    · next m mark =>
      rw [blockKept_of_starting path starting (own k List.mem_cons_self m mark)]
      exact reportKept_of_other rfl nofun
    · next unmarked =>
      refine ih (fun x inside => own x (List.mem_cons_of_mem k inside)) ?_
      obtain ⟨x, inside, mark⟩ := marked
      rcases List.mem_cons.1 inside with rfl | behind
      · exact absurd unmarked mark
      · exact ⟨x, behind, mark⟩

theorem takeAudio_of_first {f : AudioFrame} (nothing : s.playout.lastSequence = none) : ∃ p,
    takeAudio f s = reportKept (keepBlocks s f.blocks []) { s with playout := p } :=
  ⟨_, if_pos (isNewer_iff.2 (.inl nothing))⟩

end Sys2Proof.Machine

namespace Sys2Proof.Proofs
open Sys2Proof Sys2Proof.Machine

/-- Settles O12: what `keepBlocks` keeps, by induction on the blocks, and what the kept blocks tell the path. -/
theorem keptBlocksPassTagTests : Obligations.KeptBlocksPassTagTests := by
  intro s blocks
  have sound (k : KeptBlock) (inside : k ∈ keepBlocks s blocks []) :
      ∃ b ∈ blocks, passesTagTest s b ∧ k = keptBlock b := (mem_keepBlocks inside).resolve_left nofun
  refine ⟨keepBlocks_nodup blocks List.nodup_nil, fun k inside => ?tags, fun ticket => ticketOnPath_iff,
    fun i b atI passes first => first_mem_keepBlocks atI passes nofun first, sound,
    fun f e isBlocks nothing path => ⟨fun told starting => ?starts, fun silent => ?stays⟩⟩
  case tags =>
    obtain ⟨b, held, passes, rfl⟩ := sound k inside
    rcases passes with ⟨low, claimed⟩ | thirty | ⟨last, runs⟩
    · have other : b.tag ≠ 31 := by omega
      exact ⟨show b.tag ≤ 31 by omega, fun _ => claimed, fun last => absurd last other,
        fun _ => keptBlock_mark_of_other other⟩
    · have other : b.tag ≠ 31 := by omega
      exact ⟨show b.tag ≤ 31 by omega, fun low => absurd (show b.tag ≤ 29 from low) (by omega),
        fun last => absurd last other, fun _ => keptBlock_mark_of_other other⟩
    · exact ⟨show b.tag ≤ 31 by omega, fun low => absurd (show b.tag ≤ 29 from low) (by omega),
        fun _ => ⟨_, keptBlock_mark_of_last last, ticketOnPath_iff.2 runs⟩, fun other => absurd last other⟩
  case starts =>
    obtain ⟨p, taken⟩ := takeAudio_of_first (f := f) nothing
    rw [taken, isBlocks, reportKept_of_marked (by exact path) starting]
    · intro k inside m mark
      obtain ⟨b, held, passes, rfl⟩ := sound k inside
      by_cases last : b.tag = 31
      · rw [keptBlock_mark_of_last last, Option.some.injEq] at mark
        subst mark
        rcases passes with ⟨low, _⟩ | thirty | ⟨_, e', held', _, own⟩
        · omega
        · omega
        · obtain rfl : e = e' := Option.some.inj (path.symm.trans held')
          exact own
      · rw [keptBlock_mark_of_other last] at mark
        nomatch mark
    · obtain ⟨k, inside, last⟩ := told
      obtain ⟨b, held, passes, rfl⟩ := sound k inside
      exact ⟨_, inside, by rw [keptBlock_mark_of_last last]; nofun⟩
  case stays =>
    obtain ⟨p, taken⟩ := takeAudio_of_first (f := f) nothing
    rw [taken, isBlocks]
    rcases silent with untold | other
    · rw [reportKept_of_unmarked fun k inside => ?_]
      obtain ⟨b, held, passes, rfl⟩ := sound k inside
      exact keptBlock_mark_of_other (untold _ inside)
    · rw [reportKept_of_other (by exact path) other]

end Sys2Proof.Proofs

/-! The frames of the coach link (R167, R179 to R181, R183): how the frame checker judges the bytes of a formed frame, what
a valid one brings, and what bad frames and gaps leave. -/

namespace Sys2Proof.Machine

variable {s : State} {kind : Byte} {body bytes tail : List Byte} {check : BitVec 16}

/-! ### Bytes -/

theorem byteAt_drop (b : List Byte) (n i : Nat) : byteAt (b.drop n) i = byteAt b (n + i) := by
  simp [byteAt]

theorem byteAt_take {b : List Byte} {n i : Nat} (inside : i < n) : byteAt (b.take n) i = byteAt b i := by
  simp [byteAt, inside]

theorem wordAt_drop (b : List Byte) (n i : Nat) : wordAt (b.drop n) i = wordAt b (n + i) := by
  rw [wordAt, byteAt_drop, byteAt_drop, wordAt, Nat.add_assoc]

theorem wordAt_take {b : List Byte} {n i : Nat} (inside : i + 1 < n) : wordAt (b.take n) i = wordAt b i := by
  rw [wordAt, byteAt_take (by omega), byteAt_take inside, wordAt]

theorem natBytes_two (n : Nat) : natBytes 2 n = [BitVec.ofNat 8 (n / 256), BitVec.ofNat 8 n] := rfl

/-- Two bytes are read as they were written. -/
theorem wordAt_natBytes {n : Nat} (small : n < 65536) (rest : List Byte) : wordAt (natBytes 2 n ++ rest) 0 = n := by
  have high : (BitVec.ofNat 8 (n / 256)).toNat = n / 256 := Nat.mod_eq_of_lt (by omega)
  change (BitVec.ofNat 8 (n / 256)).toNat * 256 + (BitVec.ofNat 8 n).toNat = n
  rw [high, BitVec.toNat_ofNat]
  omega

/-! ### How a frame is judged (R179, R180) -/

/-- The bytes behind the sync pair of a frame with the check `check`. -/
def covered (kind : Byte) (body : List Byte) : List Byte := kind :: natBytes 2 body.length ++ body

theorem frameBytes_eq (kind : Byte) (body : List Byte) : frameBytes kind body =
    0xB7#8 :: 0x4E#8 :: (covered kind body ++ natBytes 2 (crc (covered kind body)).toNat) := rfl

theorem judgeFrame_of_other (first : kind ≠ 0x01#8) (second : kind ≠ 0x02#8) :
    judgeFrame (kind :: tail) = (.bad, []) := by
  rw [judgeFrame]
  exact if_pos ⟨first, second⟩

theorem judgeFrame_of_long (known : kind = 0x01#8 ∨ kind = 0x02#8) (size : 2 ≤ tail.length)
    (long : 1077 < wordAt tail 0) : judgeFrame (kind :: tail) = (.bad, []) := by
  rw [judgeFrame, if_neg fun other => known.elim other.1 other.2, if_neg (Nat.not_lt.2 size)]
  exact if_pos long

theorem judgeFrame_of_unfinished (known : kind = 0x01#8 ∨ kind = 0x02#8)
    (short : tail.length < 2 ∨ (wordAt tail 0 ≤ 1077 ∧ tail.length < wordAt tail 0 + 4)) :
    judgeFrame (kind :: tail) = (.unfinished, []) := by
  rw [judgeFrame, if_neg fun other => known.elim other.1 other.2]
  split
  · rfl
  · next size =>
    obtain ⟨fits, short⟩ := short.resolve_left size
    exact (if_neg (Nat.not_lt.2 fits)).trans (if_pos short)

/-- A frame that has come in whole. -/
theorem judgeFrame_of_whole (known : kind = 0x01#8 ∨ kind = 0x02#8) (size : body.length ≤ 1077) :
    judgeFrame (covered kind body ++ natBytes 2 check.toNat) =
      if check ≠ crc (covered kind body) then (.bad, [])
      else if kind = 0x01#8 then if audioValid body then (.audio body, []) else (.bad, [])
      else if 2 ≤ body.length then (.request body, []) else (.bad, []) := by
  have word : wordAt (natBytes 2 body.length ++ (body ++ natBytes 2 check.toNat)) 0 = body.length :=
    wordAt_natBytes (by omega) _
  have total : (natBytes 2 body.length ++ (body ++ natBytes 2 check.toNat)).length = body.length + 4 := by
    simp [natBytes_two]
  have head : (natBytes 2 body.length ++ (body ++ natBytes 2 check.toNat)).take (2 + body.length) =
      natBytes 2 body.length ++ body := by
    rw [← List.append_assoc]
    exact List.take_left' List.length_append
  have inner : ((natBytes 2 body.length ++ (body ++ natBytes 2 check.toNat)).drop 2).take body.length = body :=
    List.take_left
  have last : (natBytes 2 body.length ++ (body ++ natBytes 2 check.toNat)).drop (2 + body.length) =
      natBytes 2 check.toNat := by
    rw [← List.append_assoc]
    exact List.drop_left' List.length_append
  have value : wordAt (natBytes 2 check.toNat) 0 = check.toNat := by
    have := wordAt_natBytes check.isLt []
    rwa [List.append_nil] at this
  have after : (natBytes 2 body.length ++ (body ++ natBytes 2 check.toNat)).drop (body.length + 4) = [] :=
    List.drop_of_length_le total.le
  have differs : check.toNat ≠ (crc (kind :: (natBytes 2 body.length ++ body))).toNat ↔
      check ≠ crc (covered kind body) := not_congr BitVec.toNat_inj
  rw [covered, List.append_assoc, List.cons_append, judgeFrame, if_neg fun other => known.elim other.1 other.2,
    total, if_neg (by omega)]
  dsimp only
  rw [word, if_neg (Nat.not_lt.2 (show body.length ≤ Config.inboundBodyLimit from size)), if_neg (Nat.lt_irrefl _),
    head, inner, last, value, after]
  simp only [differs]
  rfl

theorem checkFrames_of_sync (rest : List Byte) : checkFrames (0xB7#8 :: 0x4E#8 :: rest) =
    match judgeFrame rest with
    | (.unfinished, _) => (.unfinished, 0xB7#8 :: 0x4E#8 :: rest)
    | (.bad, _) => (.bad, 0x4E#8 :: rest)
    | (found, after) => (found, after) := if_pos ⟨rfl, rfl⟩

theorem checkFrames_of_bad {rest : List Byte} (judged : judgeFrame rest = (.bad, [])) :
    checkFrames (0xB7#8 :: 0x4E#8 :: rest) = (.bad, 0x4E#8 :: rest) := by
  rw [checkFrames_of_sync, judged]

theorem checkFrames_of_unfinished {rest : List Byte} (judged : judgeFrame rest = (.unfinished, [])) :
    checkFrames (0xB7#8 :: 0x4E#8 :: rest) = (.unfinished, 0xB7#8 :: 0x4E#8 :: rest) := by
  rw [checkFrames_of_sync, judged]

/-- No frame begins at a pair of bytes other than the sync pair. -/
theorem checkFrames_of_no_sync {b c : Byte} {rest : List Byte} (other : b ≠ 0xB7#8 ∨ c ≠ 0x4E#8) :
    checkFrames (b :: c :: rest) = checkFrames (c :: rest) :=
  if_neg fun sync => other.elim (fun no => no sync.1) fun no => no sync.2

/-- A frame whose check differs from the CRC is bad. -/
theorem checkFrames_of_wrong_check (known : kind = 0x01#8 ∨ kind = 0x02#8) (size : body.length ≤ 1077)
    (wrong : check ≠ crc (covered kind body)) :
    checkFrames (0xB7#8 :: 0x4E#8 :: (covered kind body ++ natBytes 2 check.toNat)) =
      (.bad, 0x4E#8 :: (covered kind body ++ natBytes 2 check.toNat)) :=
  checkFrames_of_bad ((judgeFrame_of_whole known size).trans (if_pos wrong))

theorem audioValid_iff : audioValid body = true ↔ byteAt body 2 ≤ 16 ∧ body.length = 5 + 67 * byteAt body 2 := by
  simp [audioValid]

theorem checkFrames_audio (count : byteAt body 2 ≤ 16) (size : body.length = 5 + 67 * byteAt body 2) :
    checkFrames (frameBytes 0x01#8 body) = (.audio body, []) := by
  rw [frameBytes_eq, checkFrames_of_sync, judgeFrame_of_whole (.inl rfl) (by omega), if_neg fun wrong => wrong rfl,
    if_pos rfl, if_pos (audioValid_iff.2 ⟨count, size⟩)]

theorem checkFrames_request (least : 2 ≤ body.length) (size : body.length ≤ 1077) :
    checkFrames (frameBytes 0x02#8 body) = (.request body, []) := by
  rw [frameBytes_eq, checkFrames_of_sync, judgeFrame_of_whole (.inr rfl) size, if_neg fun wrong => wrong rfl,
    if_neg (by decide), if_pos least]

theorem checkFrames_audio_invalid (size : body.length ≤ 1077)
    (other : 16 < byteAt body 2 ∨ body.length ≠ 5 + 67 * byteAt body 2) :
    checkFrames (frameBytes 0x01#8 body) = (.bad, (frameBytes 0x01#8 body).tail) := by
  have invalid : ¬ audioValid body = true := fun valid =>
    other.elim (fun many => Nat.not_lt.2 (audioValid_iff.1 valid).1 many) fun no => no (audioValid_iff.1 valid).2
  rw [frameBytes_eq, checkFrames_of_bad]
  · rfl
  · rw [judgeFrame_of_whole (.inl rfl) size, if_neg fun wrong => wrong rfl, if_pos rfl, if_neg invalid]

theorem checkFrames_request_invalid (short : body.length < 2) :
    checkFrames (frameBytes 0x02#8 body) = (.bad, (frameBytes 0x02#8 body).tail) := by
  rw [frameBytes_eq, checkFrames_of_bad]
  · rfl
  · rw [judgeFrame_of_whole (.inr rfl) (by omega), if_neg fun wrong => wrong rfl, if_neg (by decide),
      if_neg (Nat.not_le.2 short)]

/-! ### The rows, with no bytes held before -/

theorem storeBytes_of_none_ended (ended : s.link.ended = []) (bytes : List Byte) :
    storeBytes [] bytes s = { s with link := { s.link with received := bytes } } :=
  congrArg (fun e => { s with link := { s.link with ended := e, received := bytes } }) ended.symm

theorem storeBytes_of_empty (received : s.link.received = []) (ended : s.link.ended = []) : storeBytes [] [] s = s :=
  (storeBytes_of_none_ended ended []).trans
    (congrArg (fun r => { s with link := { s.link with received := r } }) received.symm)

/-- What the checker finds first, with no bytes held before. -/
theorem firstFrame_of_empty (received : s.link.received = []) (ended : s.link.ended = []) :
    firstFrame s.link.ended (s.link.received ++ bytes) = ((checkFrames bytes).1, [], (checkFrames bytes).2) := by
  rw [received, ended]
  rfl

theorem audioFrame_of_found (received : s.link.received = []) (ended : s.link.ended = [])
    (found : checkFrames bytes = (.audio body, [])) :
    exec (.audioFrame bytes) s = .next (takeAudio (decodeAudio body) (validFrame s)) := by
  refine congrArg Host.Outcome.next ?_
  rw [firstFrame_of_empty received ended, found]
  exact congrArg (fun x => takeAudio (decodeAudio body) (validFrame x)) (storeBytes_of_empty received ended)

theorem requestFrame_of_found (received : s.link.received = []) (ended : s.link.ended = [])
    (found : checkFrames bytes = (.request body, [])) :
    exec (.requestFrame bytes) s = .next (takeRequest (decodeRequest body) (validFrame s)) := by
  refine congrArg Host.Outcome.next ?_
  rw [firstFrame_of_empty received ended, found]
  exact congrArg (fun x => takeRequest (decodeRequest body) (validFrame x)) (storeBytes_of_empty received ended)

theorem badFrame_of_found {after : List Byte} (received : s.link.received = []) (ended : s.link.ended = [])
    (found : checkFrames bytes = (.bad, after)) :
    exec (.badFrame bytes) s = .next { s with link := { s.link with received := after } } := by
  refine congrArg Host.Outcome.next ?_
  rw [firstFrame_of_empty received ended, found]
  exact storeBytes_of_none_ended ended after

theorem validFrame_link (s : State) :
    (validFrame s).link = { s.link with state := .up, supervision := some (Config.ms 100) } :=
  (validFrame_routeFrame s).link

/-- A request at its arrival (R167). -/
theorem takeRequest_eq (r : Request) (s : State) : takeRequest r s = { s with
    manage :=
      if s.manage.requests.length < 4 then { s.manage with requests := s.manage.requests ++ [r] }
      else if s.manage.replies.length < 8 then
        { s.manage with
          replies := s.manage.replies ++ [{ tag := r.tag, kind := r.kind, code := .queueFull, data := [] }] }
      else { s.manage with noticesLost := true } } := by
  unfold takeRequest
  split
  · next room => rw [if_pos (show s.manage.requests.length < 4 from room)]
  · next full =>
    rw [if_neg (show ¬ s.manage.requests.length < 4 from full)]
    split
    · next room => rw [if_pos (show s.manage.replies.length < 8 from room)]
    · next none => rw [if_neg (show ¬ s.manage.replies.length < 8 from none), loseNotice]

/-! ### The AUDIO body (R183) -/

theorem decodeSamples_length (count : Nat) (b : List Byte) : (decodeSamples count b).length = count := by
  induction count generalizing b with
  | zero => rfl
  | succ count ih => exact congrArg (· + 1) (ih _)

theorem decodeSamples_getElem? {count j : Nat} (inside : j < count) (b : List Byte) :
    (decodeSamples count b)[j]? = some (signed16 (wordAt b (2 * j))) := by
  induction count generalizing b j with
  | zero => exact absurd inside (Nat.not_lt_zero j)
  | succ count ih =>
    cases j with
    | zero => rfl
    | succ j =>
      rw [decodeSamples, List.getElem?_cons_succ, ih (Nat.lt_of_succ_lt_succ inside), wordAt_drop,
        show 2 + 2 * j = 2 * (j + 1) by omega]

/-- Two's complement of 16 bits. -/
theorem signed16_eq {w : Nat} (small : w < 65536) :
    signed16 w = if w < 32768 then (w : Int) else (w : Int) - 65536 := by
  rw [signed16, BitVec.toInt_eq_toNat_cond, BitVec.toNat_ofNat, Nat.mod_eq_of_lt (by omega)]
  split
  · rw [if_pos (by omega)]
  · rw [if_neg (by omega)]
    rfl

/-- Block `i` of the body. -/
theorem decodeAudio_blocks_getElem? {i : Nat} (inside : i < byteAt body 2) :
    (decodeAudio body).blocks[i]? = some (decodeBlock ((body.drop (5 + 67 * i)).take 67)) := by
  change ((cutRecords 67 (byteAt body 2) (body.drop 5)).map decodeBlock)[i]? = _
  rw [List.getElem?_map, cutRecords_getElem? inside, List.drop_drop]
  rfl

theorem decodeAudio_blocks_length (body : List Byte) : (decodeAudio body).blocks.length = byteAt body 2 :=
  (List.length_map _).trans (cutRecords_length _ _ _)

end Sys2Proof.Machine

namespace Sys2Proof.Proofs
open Sys2Proof Sys2Proof.Machine

/-- Settles O6: the body by the decoder's equations, the frame by `checkFrames_audio`. -/
theorem formedAudioFrameIsTaken : Obligations.FormedAudioFrameIsTaken := by
  refine ⟨fun body f isFrame => ?layout, fun s body received ended count size =>
    ⟨audioFrame_of_found received ended (checkFrames_audio count size), validFrame_link s⟩⟩
  case layout =>
    subst isFrame
    refine ⟨Nat.mod_eq_of_lt (wordAt_lt body 0), rfl, decodeAudio_blocks_length body, fun i b atI => ?_⟩
    have inside : i < byteAt body 2 := by
      rw [← decodeAudio_blocks_length]
      exact (List.getElem?_eq_some_iff.1 atI).1
    obtain rfl := Option.some.inj ((decodeAudio_blocks_getElem? inside).symm.trans atI)
    have own {j : Nat} (low : j < 67) : byteAt ((body.drop (5 + 67 * i)).take 67) j = byteAt body (5 + 67 * i + j) := by
      rw [byteAt_take low, byteAt_drop]
    refine ⟨own (by decide), ?ticket, ?endMark, decodeSamples_length _ _, fun j w low isWord => ?samples⟩
    case ticket =>
      refine (own (by decide)).trans ?_
      rw [show 5 + 67 * i + 1 = 6 + 67 * i by omega]
    case endMark =>
      change decide (byteAt _ 2 % 2 = 1) = true ↔ _
      rw [decide_eq_true_iff, own (by decide), show 5 + 67 * i + 2 = 7 + 67 * i by omega]
    case samples =>
      have word : wordAt (((body.drop (5 + 67 * i)).take 67).drop 3) (2 * j) = w := by
        rw [wordAt_drop, wordAt_take (by omega), wordAt_drop, isWord,
          show 5 + 67 * i + (3 + 2 * j) = 8 + 67 * i + 2 * j by omega]
      change (decodeSamples 32 _)[j]? = _
      rw [decodeSamples_getElem? low, word, signed16_eq (isWord ▸ wordAt_lt _ _)]

/-- Settles O7: the frame by `checkFrames_request`, its request by `takeRequest_eq`, the link by O9's rows. -/
theorem formedRequestFrameIsQueued : Obligations.FormedRequestFrameIsQueued := by
  intro s tag kind params received ended size
  have frame := validFrame_routeFrame s
  refine ⟨validFrame s, ?row, validFrame_link s, frame.requests, frame.replies, fun u isU => ?links⟩
  case row =>
    rw [requestFrame_of_found received ended (checkFrames_request (body := tag :: kind :: params)
      (Nat.le_add_left _ _) (Nat.succ_le_succ (Nat.succ_le_succ size))), takeRequest_eq, frame.requests, frame.replies]
    rfl
  case links =>
    subst isU
    exact ⟨validFrame_of_up, validFrame_of_wait, validFrame_of_lost⟩

end Sys2Proof.Proofs

/-! Bad frames and gaps of the coach link (R179, R180). -/

namespace Sys2Proof.Machine

variable {s : State} {kind : Byte} {bytes tail : List Byte}

/-! ### The check (R179) -/

theorem crcBit_eq : crcBit = fun r : BitVec 16 => (r <<< 1) ^^^ (if r.getLsbD 15 then 0x1021#16 else 0) := by
  funext r
  rw [crcBit, BitVec.msb_eq_getLsbD_last]
  split
  · rfl
  · exact (BitVec.xor_zero (x := r <<< 1)).symm

theorem crc_append (bytes : List Byte) (b : Byte) : crc (bytes ++ [b]) = crcByte (crc bytes) b := by
  rw [crc, List.foldl_append]
  rfl

/-! ### What a gap leaves of the bytes before it -/

theorem checkFrames_of_no_mark (none : 0xB7#8 ∉ bytes) : checkFrames bytes = (.unfinished, []) := by
  induction bytes with
  | nil => rfl
  | cons b rest ih =>
    have first : b ≠ 0xB7#8 := fun mark => none (mark ▸ List.mem_cons_self)
    cases rest with
    | nil => exact congrArg (Prod.mk _) (if_neg first)
    | cons c rest => exact (checkFrames_of_no_sync (.inl first)).trans (ih fun inside => none (List.mem_cons_of_mem b inside))

/-- An unfinished frame loses its first sync byte. -/
theorem dropUnfinished_of_unfinished {b c : Byte} {rest : List Byte}
    (open_ : (checkFrames (b :: c :: rest)).1 = .unfinished) :
    dropUnfinished (b :: c :: rest) = dropUnfinished (c :: rest) := by
  rw [dropUnfinished]
  split
  · rfl
  · next other => exact (other _ (Prod.ext open_ rfl)).elim

theorem dropUnfinished_of_no_mark (none : 0xB7#8 ∉ bytes) : dropUnfinished bytes = [] := by
  induction bytes with
  | nil => rfl
  | cons b rest ih =>
    have first : b ≠ 0xB7#8 := fun mark => none (mark ▸ List.mem_cons_self)
    have behind : 0xB7#8 ∉ rest := fun inside => none (List.mem_cons_of_mem b inside)
    cases rest with
    | nil => exact if_neg first
    | cons c rest => rw [dropUnfinished_of_unfinished (by rw [checkFrames_of_no_mark none]), ih behind]

theorem kind_not_mark (known : kind = 0x01#8 ∨ kind = 0x02#8) : kind ≠ 0xB7#8 := by
  rcases known with rfl | rfl <;> decide

/-- A partial frame and the bytes behind its sync pair (R179). -/
theorem checkFrames_partial (known : kind = 0x01#8 ∨ kind = 0x02#8)
    (short : tail.length < 2 ∨ (wordAt tail 0 ≤ 1077 ∧ tail.length < wordAt tail 0 + 4)) :
    (checkFrames (0xB7#8 :: 0x4E#8 :: kind :: tail)).1 = .unfinished := by
  rw [checkFrames_of_unfinished (judgeFrame_of_unfinished known short)]

/-- A partial frame with no byte 0xB7 behind its sync pair leaves nothing. -/
theorem dropUnfinished_partial (known : kind = 0x01#8 ∨ kind = 0x02#8) (none : 0xB7#8 ∉ tail)
    (short : tail.length < 2 ∨ (wordAt tail 0 ≤ 1077 ∧ tail.length < wordAt tail 0 + 4)) :
    dropUnfinished (0xB7#8 :: 0x4E#8 :: kind :: tail) = [] := by
  rw [dropUnfinished_of_unfinished (checkFrames_partial known short)]
  refine dropUnfinished_of_no_mark fun inside => ?_
  rcases List.mem_cons.1 inside with mark | inside
  · exact absurd mark (by decide)
  · rcases List.mem_cons.1 inside with mark | inside
    · exact kind_not_mark known mark.symm
    · exact none inside

/-- A burst with nothing left of it goes. -/
theorem settleBursts_of_nothing {burst : List Byte} (nothing : dropUnfinished burst = []) (bytes : List Byte) :
    settleBursts [] [burst] bytes = ([], bytes) := by
  rw [settleBursts, List.nil_append, nothing]
  rfl

theorem storeBytes_received (ended : List (List Byte)) (bytes : List Byte) (s : State) :
    (storeBytes ended bytes s).link.received = bytes ∨ (storeBytes ended bytes s).link.received = 0xB7#8 :: bytes :=
  (settleBursts_cases [] ended bytes (.inl rfl)).2

theorem storeBytes_due {ended : List (List Byte)} {burst : List Byte} {rest : List (List Byte)}
    (held : (storeBytes ended bytes s).link.ended = burst :: rest) : (checkFrames burst).1 ≠ .unfinished :=
  (settleBursts_cases [] ended bytes (.inl rfl)).1 burst rest held

theorem storeBytes_of_settled {ended : List (List Byte)} {after : List Byte}
    (settled : settleBursts [] ended bytes = ([], after)) (none : s.link.ended = []) :
    storeBytes ended bytes s = { s with link := { s.link with received := after } } := by
  rw [storeBytes, settled]
  exact storeBytes_of_none_ended none after

theorem byteGap_eq (bytes : List Byte) (s : State) : exec (.byteGapTimeout bytes) s =
    .next (storeBytes (s.link.ended ++ [s.link.received ++ bytes]) [] s) := rfl

/-! ### Bytes behind a gap whose frames are still due -/

/-- The bytes behind a gap are held, but that a last byte 0xB7 before it may join them. -/
def heldBehind (bytes : List Byte) (t : State) : Prop := t.link.received = bytes ∨ t.link.received = 0xB7#8 :: bytes

theorem firstFrame_of_ended {ended : List (List Byte)} (some_ : ended ≠ []) (bytes : List Byte) :
    (firstFrame ended bytes).2.2 = bytes := by
  cases ended with
  | nil => exact absurd rfl some_
  | cons burst rest => rfl

theorem validFrame_received (s : State) : (validFrame s).link.received = s.link.received := by rw [validFrame_link]

theorem takeAudio_received (f : AudioFrame) (s : State) : (takeAudio f s).link.received = s.link.received := by
  unfold takeAudio
  split
  · exact congrArg Link.received (reportKept_pathFrame _ _).link
  · rfl

theorem takeRequest_received (r : Request) (s : State) : (takeRequest r s).link.received = s.link.received := by
  rw [takeRequest_eq]

theorem holdBytes_behind (some_ : s.link.ended ≠ []) (bytes : List Byte) : heldBehind bytes (holdBytes bytes s) := by
  have behind := firstFrame_of_ended some_ bytes
  unfold holdBytes
  split
  · next ended kept found =>
    rw [found] at behind
    exact behind ▸ storeBytes_received ended kept s
  · exact storeBytes_received _ _ s

theorem arrival_behind {c : Instr} (isRow : c = .audioFrame bytes ∨ c = .requestFrame bytes ∨ c = .badFrame bytes)
    (some_ : s.link.ended ≠ []) : ∃ t, exec c s = .next t ∧ heldBehind (s.link.received ++ bytes) t := by
  have behind := firstFrame_of_ended some_ (s.link.received ++ bytes)
  rcases isRow with rfl | rfl | rfl
  · refine ⟨_, rfl, ?_⟩
    split
    · next body ended after found =>
      rw [found] at behind
      rw [heldBehind, takeAudio_received, validFrame_received, ← behind]
      exact storeBytes_received ended after s
    · exact holdBytes_behind some_ _
  · refine ⟨_, rfl, ?_⟩
    split
    · next body ended after found =>
      rw [found] at behind
      rw [heldBehind, takeRequest_received, validFrame_received, ← behind]
      exact storeBytes_received ended after s
    · exact holdBytes_behind some_ _
  · refine ⟨_, rfl, ?_⟩
    split
    · next ended after found =>
      rw [found] at behind
      exact behind ▸ storeBytes_received ended after s
    · exact holdBytes_behind some_ _

/-! ### A partial frame behind a bad one -/

theorem checkFrames_bad_then (known : kind ≠ 0x01#8 ∧ kind ≠ 0x02#8) (rest : List Byte) :
    checkFrames (0xB7#8 :: 0x4E#8 :: kind :: rest) = (.bad, 0x4E#8 :: kind :: rest) :=
  checkFrames_of_bad (judgeFrame_of_other known.1 known.2)

/-- What is left of the burst once the bad frame has been discarded is the partial frame's, and the gap has ended it. -/
theorem dropUnfinished_behind_bad {other : Byte} (known : kind = 0x01#8 ∨ kind = 0x02#8) (none : 0xB7#8 ∉ tail)
    (short : tail.length < 2 ∨ (wordAt tail 0 ≤ 1077 ∧ tail.length < wordAt tail 0 + 4)) :
    dropUnfinished (0x4E#8 :: other :: 0xB7#8 :: 0x4E#8 :: kind :: tail) = [] := by
  have second : (checkFrames (other :: 0xB7#8 :: 0x4E#8 :: kind :: tail)).1 = .unfinished := by
    rw [checkFrames_of_no_sync (.inr (by decide))]
    exact checkFrames_partial known short
  have first : (checkFrames (0x4E#8 :: other :: 0xB7#8 :: 0x4E#8 :: kind :: tail)).1 = .unfinished := by
    rw [checkFrames_of_no_sync (.inl (by decide))]
    exact second
  rw [dropUnfinished_of_unfinished first, dropUnfinished_of_unfinished second, dropUnfinished_partial known none short]

end Sys2Proof.Machine

namespace Sys2Proof.Proofs
open Sys2Proof Sys2Proof.Machine

/-- Settles O8: each bad frame by the checker's judgement of it, and the gap by what `dropUnfinished` leaves. -/
theorem badFramesChangeOnlyHunting : Obligations.BadFramesChangeOnlyHunting := by
  refine ⟨⟨rfl, by decide +kernel, fun bytes b => ?check⟩, fun s bytes => ⟨?gap, fun c isRow some_ => arrival_behind isRow some_⟩,
    fun s received ended => ⟨fun kind body check known size wrong => ?wrong, fun kind first second => ?kind,
      fun kind high low known long => ?long, fun body size other => ?audio, fun body short => ?request,
      fun kind tail known none short => ⟨?partial_, fun other first second => ?behind⟩⟩⟩
  case check => rw [crc_append, crcByte, crcBit_eq]
  case gap =>
    exact ⟨_, byteGap_eq bytes s, rfl, storeBytes_received _ _ s, fun burst rest held => storeBytes_due held⟩
  case wrong =>
    have found := checkFrames_of_wrong_check known size wrong
    exact badFrame_of_found received ended found
  case kind => exact badFrame_of_found received ended (checkFrames_bad_then ⟨first, second⟩ [])
  case long =>
    exact badFrame_of_found received ended (checkFrames_of_bad (judgeFrame_of_long known (Nat.le_refl 2) long))
  case audio => exact badFrame_of_found received ended (checkFrames_audio_invalid size other)
  case request => exact badFrame_of_found received ended (checkFrames_request_invalid short)
  case partial_ =>
    rw [byteGap_eq, received, ended]
    refine congrArg Host.Outcome.next ?_
    refine (storeBytes_of_settled (settleBursts_of_nothing (dropUnfinished_partial known none short) []) ended).trans ?_
    exact congrArg (fun r => { s with link := { s.link with received := r } }) received.symm
  case behind =>
    have bad := checkFrames_bad_then ⟨first, second⟩ (0xB7#8 :: 0x4E#8 :: kind :: tail)
    have kept := settleBursts_due _ [] [] (by rw [bad]; nofun)
    refine ⟨{ s with link := { s.link with
      ended := [0xB7#8 :: 0x4E#8 :: other :: 0xB7#8 :: 0x4E#8 :: kind :: tail], received := [] } }, ?_, fun bytes => ?_⟩
    · rw [byteGap_eq, received, ended]
      exact congrArg Host.Outcome.next (congrArg (fun held : List (List Byte) × List Byte =>
        { s with link := { s.link with ended := held.1, received := held.2 } }) kept)
    · refine congrArg Host.Outcome.next ?_
      have found : firstFrame [0xB7#8 :: 0x4E#8 :: other :: 0xB7#8 :: 0x4E#8 :: kind :: tail] bytes =
          (.bad, [0x4E#8 :: other :: 0xB7#8 :: 0x4E#8 :: kind :: tail], bytes) := by
        rw [firstFrame, bad]
      dsimp only
      rw [List.nil_append, found]
      have settled := settleBursts_of_nothing (dropUnfinished_behind_bad (other := other) known none short) bytes
      dsimp only
      rw [storeBytes, settled]
      exact congrArg (fun e => { s with link := { s.link with ended := e, received := bytes } }) ended.symm

end Sys2Proof.Proofs

/-! The samples of a seat and of a frame (R45 to R51). -/

namespace Sys2Proof.Machine

variable {s : State} {frame : List KeptBlock} {tone : List Int} {f : Factors}

/-! ### One sample (R50) -/

theorem mixSample_bounds (f : Factors) (c a t : Int) :
    4096 * mixSample f c a t ≤ c * f.commentary + a * f.announcement + t * f.chime + 2048 ∧
      c * f.commentary + a * f.announcement + t * f.chime + 2048 < 4096 * (mixSample f c a t + 1) := by
  unfold mixSample
  omega

theorem limited_eq (y : Int) : limited y = if 32767 < y then 32767 else if y < -32768 then -32768 else y := by
  unfold limited
  split
  · omega
  · split <;> omega

theorem saturates_iff {y : Int} : saturates y = true ↔ limited y ≠ y := by
  rw [saturates, Bool.or_eq_true, decide_eq_true_iff, decide_eq_true_iff]
  unfold limited
  omega

theorem mixSamples_length (f : Factors) (cs as ts : List Int) :
    (mixSamples f cs as ts).length = min cs.length (min as.length ts.length) := by
  induction cs generalizing as ts with
  | nil => simp [mixSamples]
  | cons c cs ih =>
    cases as with
    | nil => simp [mixSamples]
    | cons a as =>
      cases ts with
      | nil => simp [mixSamples]
      | cons t ts =>
        simp only [mixSamples, List.length_cons, ih]
        omega

theorem mixSamples_getElem? {cs as ts : List Int} {i : Nat} {c a t : Int} (atC : cs[i]? = some c) (atA : as[i]? = some a)
    (atT : ts[i]? = some t) : (mixSamples f cs as ts)[i]? = some (mixSample f c a t) := by
  induction cs generalizing as ts i with
  | nil => nomatch atC
  | cons c' cs ih =>
    cases as with
    | nil => nomatch atA
    | cons a' as =>
      cases ts with
      | nil => nomatch atT
      | cons t' ts =>
        cases i with
        | zero =>
          rw [← Option.some.inj atC, ← Option.some.inj atA, ← Option.some.inj atT]
          rfl
        | succ i => exact ih atC atA atT

/-! ### The sources (R11, R47) -/

theorem channelSamples_of_first {tag : Nat} {before after : List KeptBlock} {b : KeptBlock} (own : b.tag = tag)
    (others : ∀ c ∈ before, c.tag ≠ tag) : channelSamples tag (before ++ b :: after) = b.samples := by
  have found : (before ++ b :: after).find? (fun b => decide (b.tag = tag)) = some b := by
    refine List.find?_eq_some_iff_append.2 ⟨decide_eq_true own, before, after, rfl, fun c inside => ?_⟩
    rw [decide_eq_false (others c inside)]
    rfl
  rw [channelSamples, found]

theorem channelSamples_of_none {tag : Nat} (none : ∀ b ∈ frame, b.tag ≠ tag) :
    channelSamples tag frame = List.replicate 32 0 := by
  have found : frame.find? (fun b => decide (b.tag = tag)) = Option.none :=
    List.find?_eq_none.2 fun b inside yes => none b inside (of_decide_eq_true yes)
  rw [channelSamples, found]
  rfl

/-! ### The factors (R46, R48, R49) -/

theorem codeFactor_classCode (r : ClassRec) (volume : Nat) (code offset trim : Int) :
    codeFactor (classCode r volume code offset trim) = termFactor r volume code offset trim := by
  unfold classCode termFactor
  split
  · split <;> rfl
  · rfl

theorem zoneAt_of_getElem? {z : Nat} {zone : Zone} (atZ : s.mix.zones[z]? = some zone) : zoneAt s z = zone := by
  rw [zoneAt, List.getD_eq_getElem?_getD, atZ, Option.getD_some]

theorem volumeCode_of_getElem? {v : Nat} {code : Int} (atV : s.mix.curve[v]? = some code) : volumeCode s v = code := by
  rw [volumeCode, List.getD_eq_getElem?_getD, atV, Option.getD_some]

section
variable {x : Seat} {z : Zone} {code : Int} {n : Nat} {e : Entry} {r : ClassRec} {q : Sequence}

theorem announcementFactor_of_silent
    (silent : ∀ e, s.announce.path = some e → e.state ≠ .playing ∨ e.mask.getLsbD x.zone = false) :
    announcementFactor s x = 0 := by
  unfold announcementFactor
  split
  · rfl
  · next e path =>
    refine if_neg fun both => ?_
    rcases silent e path with other | outside
    · exact other both.1
    · exact Bool.false_ne_true (outside.symm.trans both.2)

theorem announcementFactor_of_playing (path : s.announce.path = some e) (playing : e.state = .playing)
    (inside : e.mask.getLsbD x.zone = true) (isRecord : s.mix.classes[e.cls.code]? = some r) :
    announcementFactor s x = termFactor r x.volume (volumeCode s x.volume) (zoneAt s x.zone).offset r.trim := by
  rw [announcementFactor, path]
  dsimp only
  rw [if_pos ⟨playing, inside⟩, classRecord_of_entry isRecord, codeFactor_classCode]

theorem chimeFactor_of_beep {line box : Nat} (plays : s.mix.generator = some q) (use : q.use = .beep line box) :
    chimeFactor s n x = if n / 24 = line ∧ n % 24 / 2 = box ∧ x.volume ≠ 0 then
      factor (volumeCode s x.volume + (zoneAt s x.zone).offset) else 0 := by
  rw [chimeFactor, plays]
  dsimp only
  rw [use]

theorem chimeFactor_of_outside {ticket : Option Nat} {mask : ZoneMask} (plays : s.mix.generator = some q)
    (use : q.use = .announcement ticket mask) (outside : mask.getLsbD x.zone = false) : chimeFactor s n x = 0 := by
  rw [chimeFactor, plays]
  dsimp only
  rw [use]
  dsimp only
  split
  · rfl
  · exact if_neg fun inside => Bool.false_ne_true (outside.symm.trans inside)

theorem chimeFactor_of_inside {ticket : Option Nat} {mask : ZoneMask} (plays : s.mix.generator = some q)
    (use : q.use = .announcement ticket mask) (path : s.announce.path = some e) (inside : mask.getLsbD x.zone = true)
    (isRecord : s.mix.classes[e.cls.code]? = some r) : chimeFactor s n x =
      termFactor r x.volume (volumeCode s x.volume) (zoneAt s x.zone).offset r.chimeTrim := by
  rw [chimeFactor, plays]
  dsimp only
  rw [use, path]
  dsimp only
  rw [if_pos (show inMask mask x.zone = true from inside), classRecord_of_entry isRecord, codeFactor_classCode]

end

/-! ### The samples of a seat (R45) -/

theorem isComputed_iff {n : Nat} {x : Seat} : isComputed s n x = true ↔
    x.jack = true ∧ x.fitted = true ∧ (lineAt s (n / 24)).state ≠ .sleeping := by
  simp [isComputed, and_assoc]

theorem seatSamples_of_other {n : Nat} {x : Seat}
    (other : x.jack = false ∨ x.fitted = false ∨ (lineAt s (n / 24)).state = .sleeping) :
    seatSamples s frame tone n x = (List.replicate 32 0, false) := by
  refine if_neg fun computed => ?_
  obtain ⟨jack, fitted, awake⟩ := isComputed_iff.1 computed
  rcases other with absent | bare | sleeping
  · exact Bool.false_ne_true (absent.symm.trans jack)
  · exact Bool.false_ne_true (bare.symm.trans fitted)
  · exact awake sleeping

theorem seatSamples_of_computed {n : Nat} {x : Seat} (jack : x.jack = true) (fitted : x.fitted = true)
    (awake : (lineAt s (n / 24)).state = .awake) {ys : List Int}
    (isYs : ys = mixSamples (factorsOf s n x) (commentary s frame x.language) (channelSamples 31 frame) tone) :
    seatSamples s frame tone n x = (ys.map limited, ys.any saturates) := by
  subst isYs
  exact if_pos (isComputed_iff.2 ⟨jack, fitted, by rw [awake]; nofun⟩)

/-! ### The samples of a frame (R44, R51) -/

theorem mixSeats_getElem? (s : State) (frame : List KeptBlock) (tone : List Int) (n : Nat) (xs : List Seat) (i : Nat) :
    (mixSeats s frame tone n xs)[i]? = xs[i]?.map fun x => ((seatSamples s frame tone (n + i) x).1,
      if (seatSamples s frame tone (n + i) x).2 then some x.zone else none) := by
  induction xs generalizing n i with
  | nil => rfl
  | cons x xs ih =>
    cases i with
    | zero => rfl
    | succ i =>
      rw [mixSeats, List.getElem?_cons_succ, List.getElem?_cons_succ, ih, Nat.add_right_comm n 1 i, Nat.add_assoc]

theorem mixSeats_length (s : State) (frame : List KeptBlock) (tone : List Int) (n : Nat) (xs : List Seat) :
    (mixSeats s frame tone n xs).length = xs.length := by
  induction xs generalizing n with
  | nil => rfl
  | cons x xs ih => exact congrArg (· + 1) (ih _)

/-- A zone in which a seat saturates. -/
theorem mem_mixSeats_zones {xs : List Seat} {z : Nat} :
    some z ∈ (mixSeats s frame tone 0 xs).map Prod.snd ↔
      ∃ n seat, xs[n]? = some seat ∧ seat.zone = z ∧ (seatSamples s frame tone n seat).2 = true := by
  constructor
  · intro inside
    obtain ⟨n, atN⟩ := List.mem_iff_getElem?.1 inside
    rw [List.getElem?_map, mixSeats_getElem?, Nat.zero_add] at atN
    cases atSeat : xs[n]? with
    | none =>
      rw [atSeat] at atN
      nomatch atN
    | some seat =>
      rw [atSeat] at atN
      have zone := Option.some.inj atN
      dsimp only at zone
      split at zone
      · next saturated => exact ⟨n, seat, atSeat, Option.some.inj zone, saturated⟩
      · nomatch zone
  · rintro ⟨n, seat, atSeat, rfl, saturated⟩
    refine List.mem_iff_getElem?.2 ⟨n, ?_⟩
    rw [List.getElem?_map, mixSeats_getElem?, Nat.zero_add, atSeat, Option.map_some, Option.map_some]
    dsimp only
    rw [if_pos saturated]

/-- The slots of a line that takes `samples`. -/
def slotsTaken (samples : List (List Int)) (x : Line) : List (List Int) :=
  match x.state with
  | .awake => samples.take 24
  | .sleeping => silentSlots

theorem slotsTaken_of_awake (samples : List (List Int)) {x : Line} (awake : x.state = .awake) :
    slotsTaken samples x = samples.take 24 := by
  unfold slotsTaken
  rw [awake]

theorem slotsTaken_of_sleeping (samples : List (List Int)) {x : Line} (sleeping : x.state = .sleeping) :
    slotsTaken samples x = List.replicate 24 (List.replicate 32 0) := by
  unfold slotsTaken
  rw [sleeping]
  rfl

theorem fillSlots_getElem? (samples : List (List Int)) (lines : List Line) (l : Nat) :
    (fillSlots samples lines)[l]? =
      lines[l]?.map fun x => { x with slots := slotsTaken (samples.drop (24 * l)) x } := by
  induction lines generalizing samples l with
  | nil => rfl
  | cons x xs ih =>
    cases l with
    | zero => rfl
    | succ l =>
      rw [fillSlots, List.getElem?_cons_succ, List.getElem?_cons_succ, ih, List.drop_drop, Nat.mul_succ, Nat.add_comm]

/-! ### Saturations (R51) -/

/-- The zones of `t` are those of `s`, but that the clip flag of zone `z` is set where `hit z`. -/
def clipsSet (hit : Nat → Prop) (s t : State) : Prop :=
  ∀ z zone, s.mix.zones[z]? = some zone → ∃ w, t.mix.zones[z]? = some w ∧ w = { zone with clip := w.clip } ∧
    (w.clip = true ↔ zone.clip = true ∨ hit z)

/-- The notices of `t` are those of `s` with a ZONE-CLIP of each zone whose clip flag becomes set and whose notices are
enabled. -/
def clipsTold (hit : Nat → Prop) (s t : State) : Prop :=
  ∃ clipped : List Nat, clipped.Nodup ∧ t.manage = (notifyAll (clipped.map Notice.zoneClip) s).manage ∧
    ∀ z, z ∈ clipped ↔ ∃ zone, s.mix.zones[z]? = some zone ∧ zone.clip = false ∧ zone.clipNotice = true ∧ hit z

/-- Whether a saturation in a zone is told. -/
def clipTold (zone : Zone) : Bool := !zone.clip && zone.clipNotice

theorem clipTold_iff {zone : Zone} : clipTold zone = true ↔ zone.clip = false ∧ zone.clipNotice = true := by
  simp [clipTold]

theorem saturate_of_none {z : Nat} (none : s.mix.zones[z]? = Option.none) : saturate z s = s := by
  rw [saturate, none]

/-- One saturation: the flag of its zone, and the notice. -/
theorem saturate_of_zone {z : Nat} {zone : Zone} (atZ : s.mix.zones[z]? = some zone) : saturate z s = { s with
    mix := { s.mix with zones := s.mix.zones.modify z fun x => { x with clip := true } }
    manage := (notifyAll (if clipTold zone then [.zoneClip z] else []) s).manage } := by
  rw [saturate, atZ]
  dsimp only
  change (if clipTold zone then _ else _) = _
  split
  · exact notify_of_manage _ rfl
  · rfl

theorem saturate_blocks (z : Nat) (s : State) : saturate z s = { s with
    mix := { s.mix with zones := (saturate z s).mix.zones }, manage := (saturate z s).manage } := by
  cases atZ : s.mix.zones[z]? with
  | none => rw [saturate_of_none atZ]
  | some zone => rw [saturate_of_zone atZ]

theorem saturateAll_blocks (hits : List (Option Nat)) (s : State) : saturateAll hits s = { s with
    mix := { s.mix with zones := (saturateAll hits s).mix.zones }, manage := (saturateAll hits s).manage } := by
  induction hits generalizing s with
  | nil => rfl
  | cons hit rest ih =>
    cases hit with
    | none => exact ih s
    | some z =>
      rw [saturateAll]
      refine (ih (saturate z s)).trans ?_
      rw [saturate_blocks z s]

theorem saturateAll_clipsSet (hits : List (Option Nat)) (s : State) :
    clipsSet (fun z => some z ∈ hits) s (saturateAll hits s) := by
  induction hits generalizing s with
  | nil => exact fun z zone atZ => ⟨zone, atZ, rfl, by simp⟩
  | cons hit rest ih =>
    intro z zone atZ
    cases hit with
    | none =>
      obtain ⟨w, atW, isW, clip⟩ := ih s z zone atZ
      exact ⟨w, atW, isW, clip.trans (by simp)⟩
    | some y =>
      rw [saturateAll]
      cases atY : s.mix.zones[y]? with
      | none =>
        have other : z ≠ y := fun same => nomatch (same ▸ atZ).symm.trans atY
        obtain ⟨w, atW, isW, clip⟩ := ih s z zone atZ
        rw [saturate_of_none atY]
        exact ⟨w, atW, isW, clip.trans (by simp [other])⟩
      | some there =>
        have zones : (saturate y s).mix.zones[z]? = some { zone with clip := zone.clip || decide (y = z) } := by
          rw [saturate_of_zone atY, List.getElem?_modify, atZ]
          by_cases here : y = z <;> simp [here]
        obtain ⟨w, atW, isW, clip⟩ := ih (saturate y s) z _ zones
        refine ⟨w, atW, isW, clip.trans ?_⟩
        dsimp only
        rw [Bool.or_eq_true, decide_eq_true_iff, List.mem_cons, Option.some.injEq, or_assoc, eq_comm (a := y)]

theorem saturateAll_clipsTold (hits : List (Option Nat)) (s : State) :
    clipsTold (fun z => some z ∈ hits) s (saturateAll hits s) := by
  induction hits generalizing s with
  | nil => exact ⟨[], List.nodup_nil, rfl, by simp⟩
  | cons hit rest ih =>
    cases hit with
    | none =>
      obtain ⟨clipped, distinct, told, iff⟩ := ih s
      exact ⟨clipped, distinct, told, fun z => (iff z).trans (by simp)⟩
    | some y =>
      cases atY : s.mix.zones[y]? with
      | none =>
        obtain ⟨clipped, distinct, told, iff⟩ := ih s
        refine ⟨clipped, distinct, by rw [saturateAll, saturate_of_none atY, told], fun z => (iff z).trans ?_⟩
        refine exists_congr fun zone => and_congr_right fun atZ => ?_
        have other : z ≠ y := fun same => nomatch (same ▸ atZ).symm.trans atY
        simp [other]
      | some there =>
        obtain ⟨clipped, distinct, told, iff⟩ := ih (saturate y s)
        have zones (z : Nat) : (saturate y s).mix.zones[z]? =
            s.mix.zones[z]?.map fun x => { x with clip := x.clip || decide (y = z) } := by
          rw [saturate_of_zone atY, List.getElem?_modify]
          cases s.mix.zones[z]? with
          | none => rfl
          | some x => by_cases here : y = z <;> simp [here]
        have fresh : y ∉ clipped := fun inside => by
          obtain ⟨zone, atZ, clear, _⟩ := (iff y).1 inside
          rw [zones, atY, Option.map_some, Option.some.injEq] at atZ
          subst atZ
          simp at clear
        refine ⟨(if clipTold there then [y] else []) ++ clipped, ?distinct, ?told, fun z => ?iff⟩
        case distinct => split <;> simp [fresh, distinct]
        case told =>
          rw [saturateAll, told, List.map_append, notifyAll_append, saturate_of_zone atY]
          refine notifyAll_manage_congr _ ?_
          split <;> rfl
        case iff =>
          rw [List.mem_append, iff, zones]
          by_cases here : y = z
          · subst here
            simp [atY, ← clipTold_iff]
          · have other : z ∉ if clipTold there then [y] else [] := by split <;> simp [Ne.symm here]
            simp [here, Ne.symm here, other]

/-- The generator's samples are made without any other block. -/
theorem playChime_blocks (s : State) :
    ∃ g, (playChime s).2 = { s with mix := { s.mix with generator := g } } := by
  unfold playChime
  split
  · exact ⟨s.mix.generator, rfl⟩
  · split
    · exact ⟨s.mix.generator, rfl⟩
    · exact ⟨_, rfl⟩

/-- The slots are filled with the samples of the frame, and the generator stands at `g`. -/
def framePlayed (frame : List KeptBlock) (g : Option Sequence) (s : State) : State :=
  { s with
    mix := { s.mix with generator := g }
    lines := { s.lines with
      lines := fillSlots ((mixSeats s frame (playChime s).1 0 s.seats.seats).map Prod.fst) s.lines.lines } }

/-- The zone of each seat that saturates in the frame. -/
def saturatedZones (frame : List KeptBlock) (s : State) : List (Option Nat) :=
  (mixSeats s frame (playChime s).1 0 s.seats.seats).map Prod.snd

/-- A frame's samples, and then its saturations. -/
theorem mixFrame_eq (frame : List KeptBlock) (s : State) :
    ∃ g, mixFrame frame s = saturateAll (saturatedZones frame s) (framePlayed frame g s) := by
  obtain ⟨g, after⟩ := playChime_blocks s
  refine ⟨g, ?_⟩
  rw [mixFrame, after]
  rfl

theorem framePlayed_line {g : Option Sequence} {l : Nat} {x : Line} (atL : s.lines.lines[l]? = some x) :
    (framePlayed frame g s).lines.lines[l]? = some { x with
      slots := slotsTaken (((mixSeats s frame (playChime s).1 0 s.seats.seats).map Prod.fst).drop (24 * l)) x } := by
  refine (fillSlots_getElem? _ _ l).trans ?_
  rw [atL, Option.map_some]

/-- The slots of an AWAKE line are the samples of its 24 seats. -/
theorem awake_slots (seats : s.seats.seats.length = 96) {l : Nat} (inside : l < 4) {slots : List (List Int)}
    (isSlots : slots = (((mixSeats s frame tone 0 s.seats.seats).map Prod.fst).drop (24 * l)).take 24) :
    slots.length = 24 ∧ ∀ k seat, k < 24 → s.seats.seats[24 * l + k]? = some seat →
      slots[k]? = some (seatSamples s frame tone (24 * l + k) seat).1 := by
  subst isSlots
  constructor
  · rw [List.length_take, List.length_drop, List.length_map, mixSeats_length, seats]
    omega
  · intro k seat low atK
    rw [List.getElem?_take_of_lt low, List.getElem?_drop, List.getElem?_map, mixSeats_getElem?, atK, Nat.zero_add]
    rfl

end Sys2Proof.Machine

namespace Sys2Proof.Proofs
open Sys2Proof Sys2Proof.Machine

/-- Settles O53: one sample, its sources, its factors and a seat by the lemmas above; a frame by `mixFrame_eq`, its slots
by `fillSlots_getElem?`, its saturations by `saturateAll_clipsSet` and `saturateAll_clipsTold`. -/
theorem seatSamplesAreRoundedSums : Obligations.SeatSamplesAreRoundedSums := by
  refine ⟨mixSample_bounds, fun y => ⟨limited_eq y, saturates_iff⟩,
    fun f cs as ts => ⟨mixSamples_length f cs as ts, fun i c a t => mixSamples_getElem?⟩,
    fun frame tag => ⟨fun before b after isFrame own others => ?first, channelSamples_of_none⟩,
    fun s frame => ⟨rfl, fun i => ⟨fun on live => if_pos ⟨on, live⟩, fun other e atI => ?language⟩⟩,
    fun s n x z code f isF atZ atV => ?factors,
    fun s frame tone n x => ⟨seatSamples_of_other, fun ys jack fitted awake isYs =>
      seatSamples_of_computed jack fitted awake isYs, fun i y atI => ?range⟩,
    fun s t frame tone isT isTone seats => ?frame⟩
  case first =>
    subst isFrame
    exact channelSamples_of_first own others
  case language =>
    have notLive : ¬ (s.segment.live = .on ∧ s.segment.liveMask.getLsbD i = true) := fun both =>
      other.elim (fun no => no both.1) fun no => Bool.false_ne_true (no.symm.trans both.2)
    refine (if_neg notLive).trans ?_
    rw [atI]
  case factors =>
    have zone := zoneAt_of_getElem? atZ
    have volume := volumeCode_of_getElem? atV
    subst isF
    refine ⟨?commentary, announcementFactor_of_silent, fun e r path playing inside isRecord => ?announcement,
      fun silent => ?idle, fun q line box plays use => ?beep, fun q ticket mask plays use =>
        ⟨chimeFactor_of_outside plays use, fun e r path inside isRecord => ?chime⟩⟩
    case commentary =>
      change commentaryFactor s x = _
      rw [commentaryFactor, zone, volume]
    case announcement =>
      refine (announcementFactor_of_playing path playing inside isRecord).trans ?_
      rw [zone, volume]
    case idle =>
      change chimeFactor s n x = 0
      rw [chimeFactor, silent]
    case beep =>
      refine (chimeFactor_of_beep plays use).trans ?_
      rw [zone, volume]
    case chime =>
      refine (chimeFactor_of_inside plays use path inside isRecord).trans ?_
      rw [zone, volume]
  case range => exact seatSamples_ok s frame tone n x y (List.mem_of_getElem? atI)
  case frame =>
    subst isT isTone
    obtain ⟨g, mixed⟩ := mixFrame_eq frame s
    rw [mixed]
    have set := saturateAll_clipsSet (saturatedZones frame s) (framePlayed frame g s)
    obtain ⟨clipped, distinct, told, iff⟩ := saturateAll_clipsTold (saturatedZones frame s) (framePlayed frame g s)
    have lines : (saturateAll (saturatedZones frame s) (framePlayed frame g s)).lines = (framePlayed frame g s).lines := by
      rw [saturateAll_blocks]
    refine ⟨fun l x atL => ?lines, fun z zone atZ => ?zones, clipped, distinct, told.trans ?manage, fun z => ?told⟩
    case lines =>
      refine ⟨_, by rw [lines]; exact framePlayed_line atL, rfl, fun sleeping => ?_, fun awake => ?_⟩
      · exact slotsTaken_of_sleeping _ sleeping
      · exact awake_slots seats l.isLt (slotsTaken_of_awake _ awake)
    case zones =>
      obtain ⟨w, atW, isW, clip⟩ := set z zone atZ
      exact ⟨w, atW, isW, clip.trans (or_congr_right mem_mixSeats_zones)⟩
    case manage => exact notifyAll_manage_congr _ rfl
    case told =>
      rw [iff]
      constructor
      · rintro ⟨zone, atZ, clear, enabled, hit⟩
        obtain ⟨w, atW, _, clip⟩ := set z zone atZ
        exact ⟨zone, w, atZ, atW, clear, clip.2 (.inr hit), enabled⟩
      · rintro ⟨zone, w, atZ, atW, clear, isSet, enabled⟩
        obtain ⟨w', atW', _, clip⟩ := set z zone atZ
        obtain rfl := Option.some.inj (atW.symm.trans atW')
        refine ⟨zone, atZ, clear, enabled, (clip.1 isSet).resolve_left fun already => ?_⟩
        exact Bool.false_ne_true (clear.symm.trans already)

end Sys2Proof.Proofs

/-! The zones at a frame start: the noise targets, the slew and duck steps (R39 to R42), and the chime generator (R53 to
R55). -/

namespace Sys2Proof.Machine

variable {s : State} {z : Nat} {x : Zone}

/-! ### The noise targets (R39, R40) -/

theorem bandOffset_of_highest {v i : Nat} {bands : List Band} {b : Band} (atI : bands[i]? = some b)
    (reached : b.threshold ≤ v)
    (highest : ∀ (j : Nat) (c : Band), i < j → bands[j]? = some c → v < c.threshold) : bandOffset v bands = b.offset := by
  induction bands generalizing i with
  | nil => nomatch atI
  | cons a rest ih =>
    cases i with
    | zero =>
      obtain rfl : a = b := Option.some.inj atI
      have none : ¬ rest.any (fun x => decide (x.threshold ≤ v)) = true := fun some_ => by
        obtain ⟨c, inside, low⟩ := List.any_eq_true.1 some_
        obtain ⟨j, atJ⟩ := List.mem_iff_getElem?.1 inside
        exact absurd (of_decide_eq_true low) (Nat.not_le.2 (highest (j + 1) c (Nat.succ_pos j) atJ))
      rw [bandOffset, if_neg none, if_pos reached]
    | succ i =>
      have later : rest.any (fun x => decide (x.threshold ≤ v)) = true :=
        List.any_eq_true.2 ⟨b, List.mem_of_getElem? atI, decide_eq_true reached⟩
      rw [bandOffset, if_pos later]
      exact ih atI fun j c behind atJ => highest (j + 1) c (Nat.succ_lt_succ behind) atJ

theorem bandOffset_of_none {v : Nat} {bands : List Band} (none : ∀ b ∈ bands, v < b.threshold) :
    bandOffset v bands = 0 := by
  cases bands with
  | nil => rfl
  | cons a rest =>
    have later : ¬ rest.any (fun x => decide (x.threshold ≤ v)) = true := fun some_ => by
      obtain ⟨c, inside, low⟩ := List.any_eq_true.1 some_
      exact absurd (of_decide_eq_true low) (Nat.not_le.2 (none c (List.mem_cons_of_mem a inside)))
    rw [bandOffset, if_neg later, if_neg (Nat.not_le.2 (none a List.mem_cons_self))]

/-- One held write calls for a new target of zone `z`, whose source is `source`. -/
def callsTarget (w : HeldMixWrite) (z : Nat) (source : Option NoiseSource) : Prop :=
  (∃ first records, w = .noiseBands first records) ∨
    ∃ first records r, w = .zone first records ∧ recordFor first records z = some r ∧ r.source ≠ source

theorem targetCalled_nil (source : Option NoiseSource) : ¬ targetCalled [] z source := by
  rintro (⟨_, _, inside⟩ | ⟨before, after, _, _, _, split, _⟩)
  · nomatch inside
  · cases before <;> nomatch split

theorem targetCalled_cons (w : HeldMixWrite) (held : List HeldMixWrite) (source : Option NoiseSource) :
    targetCalled (w :: held) z source ↔ callsTarget w z source ∨ targetCalled held z (sourceAfter [w] z source) := by
  constructor
  · rintro (⟨first, records, inside⟩ | ⟨before, after, first, records, r, split, record, changed⟩)
    · rcases List.mem_cons.1 inside with own | behind
      · exact .inl (.inl ⟨first, records, own.symm⟩)
      · exact .inr (.inl ⟨first, records, behind⟩)
    · cases before with
      | nil =>
        obtain ⟨rfl, rfl⟩ := List.cons.inj split
        exact .inl (.inr ⟨first, records, r, rfl, record, changed⟩)
      | cons b before =>
        obtain ⟨rfl, rfl⟩ := List.cons.inj split
        exact .inr (.inr ⟨before, after, first, records, r, rfl, record, changed⟩)
  · rintro ((⟨first, records, rfl⟩ | ⟨first, records, r, rfl, record, changed⟩) |
      (⟨first, records, inside⟩ | ⟨before, after, first, records, r, rfl, record, changed⟩))
    · exact .inl ⟨first, records, List.mem_cons_self⟩
    · exact .inr ⟨[], held, first, records, r, rfl, record, changed⟩
    · exact .inl ⟨first, records, List.mem_cons_of_mem w inside⟩
    · exact .inr ⟨w :: before, after, first, records, r, rfl, record, changed⟩

/-- A zone after one held write. -/
theorem mixWritten_getElem? (m : MixEngine) (w : HeldMixWrite) (atZ : m.zones[z]? = some x) : ∃ n,
    (mixWritten m w).zones[z]? = some { x with source := sourceAfter [w] z x.source, clipNotice := n } := by
  cases w with
  | zone first records =>
    rw [mixWritten_zone, List.getElem?_mapIdx, atZ]
    cases record : recordFor first records z with
    | none => exact ⟨x.clipNotice, by simp [zoneTaking, sourceAfter, record]⟩
    | some r => exact ⟨r.clipNotice, by simp [zoneTaking, sourceAfter, record]⟩
  | volumeCurve first records => exact ⟨x.clipNotice, atZ⟩
  | mix record => exact ⟨x.clipNotice, atZ⟩
  | cls first records => exact ⟨x.clipNotice, atZ⟩
  | noiseBands first records => exact ⟨x.clipNotice, atZ⟩
  | chime first records => exact ⟨x.clipNotice, atZ⟩

theorem foldl_mixWritten_getElem? (held : List HeldMixWrite) (m : MixEngine) (atZ : m.zones[z]? = some x) : ∃ n,
    (held.foldl mixWritten m).zones[z]? = some { x with source := sourceAfter held z x.source, clipNotice := n } := by
  induction held generalizing m x with
  | nil => exact ⟨x.clipNotice, atZ⟩
  | cons w held ih =>
    obtain ⟨n, after⟩ := mixWritten_getElem? m w atZ
    exact ih (mixWritten m w) after

theorem sourcesChanged_least {first i : Nat} {records : List ZoneWrite} {zones : List Zone}
    (inside : i ∈ sourcesChanged first records zones) : first ≤ i := by
  induction records generalizing first zones with
  | nil => nomatch inside
  | cons w ws ih =>
    cases zones with
    | nil => nomatch inside
    | cons y ys =>
      rcases List.mem_append.1 inside with own | behind
      · split at own
        · nomatch own
        · exact (List.mem_singleton.1 own).ge
      · exact Nat.le_of_succ_le (ih behind)

theorem mem_sourcesChanged {first n : Nat} {records : List ZoneWrite} {zones : List Zone} (atZ : zones[n]? = some x) :
    first + n ∈ sourcesChanged first records zones ↔ ∃ r, records[n]? = some r ∧ r.source ≠ x.source := by
  induction records generalizing first n zones with
  | nil => simp [sourcesChanged]
  | cons w ws ih =>
    cases zones with
    | nil => nomatch atZ
    | cons y ys =>
      cases n with
      | zero =>
        obtain rfl : y = x := Option.some.inj atZ
        have behind : first ∉ sourcesChanged (first + 1) ws ys := fun inside =>
          absurd (sourcesChanged_least inside) (by omega)
        by_cases same : y.source = w.source
        · simp [sourcesChanged, behind, same]
        · simp [sourcesChanged, same, Ne.symm same]
      | succ n =>
        have here : first + (n + 1) ∉ (if y.source = w.source then [] else [first]) := by
          split <;> simp
        have behind := ih (first := first + 1) (n := n) (zones := ys) atZ
        rw [show first + 1 + n = first + (n + 1) by omega] at behind
        rw [sourcesChanged, List.mem_append, List.getElem?_cons_succ, or_iff_right here]
        exact behind

/-- The zones that one held write names take new targets. -/
theorem mem_applyMixWrite (w : HeldMixWrite) (low : z < 4) (atZ : s.mix.zones[z]? = some x) :
    z ∈ (applyMixWrite w s).2 ↔ callsTarget w z x.source := by
  cases w with
  | zone first records =>
    have calls : callsTarget (.zone first records) z x.source ↔
        ∃ r, recordFor first records z = some r ∧ r.source ≠ x.source := by
      simp [callsTarget]
    rw [calls]
    change z ∈ sourcesChanged first records (s.mix.zones.drop first) ↔ _
    by_cases inside : first ≤ z
    · obtain ⟨n, rfl⟩ := Nat.exists_eq_add_of_le inside
      rw [mem_sourcesChanged (x := x) (by rw [List.getElem?_drop, atZ]), recordFor, if_pos inside, Nat.add_sub_cancel_left]
    · rw [recordFor, if_neg inside]
      exact ⟨fun named => absurd (sourcesChanged_least named) inside, fun ⟨_, found, _⟩ => nomatch found⟩
  | noiseBands first records =>
    exact ⟨fun _ => .inl ⟨first, records, rfl⟩, fun _ => List.mem_range.2 low⟩
  | volumeCurve first records => simp [applyMixWrite, callsTarget]
  | mix record => simp [applyMixWrite, callsTarget]
  | cls first records => simp [applyMixWrite, callsTarget]
  | chime first records => simp [applyMixWrite, callsTarget]

theorem mem_applyMixHeld (held : List HeldMixWrite) (s : State) (low : z < 4) (atZ : s.mix.zones[z]? = some x) :
    z ∈ (applyMixHeld held s).2 ↔ targetCalled held z x.source := by
  induction held generalizing s x with
  | nil => exact ⟨nofun, fun called => absurd called (targetCalled_nil x.source)⟩
  | cons w held ih =>
    obtain ⟨n, after⟩ := mixWritten_getElem? s.mix w atZ
    have rest := ih (applyMixWrite w s).1 (by rw [applyMixWrite_state]; exact after)
    rw [applyMixHeld, List.mem_append, mem_applyMixWrite w low atZ, rest, targetCalled_cons]

theorem presentTarget_congr {t : State} (sense : t.sense = s.sense) (bands : t.mix.bands = s.mix.bands) (x : Zone) :
    presentTarget t x = presentTarget s x := by
  have average (c : Nat) : orderedAverage c t = orderedAverage c s := by
    unfold orderedAverage channelRecord resultRecord
    rw [sense]
  unfold presentTarget
  simp only [average, bands]

/-- A target taken stays when it is taken again. -/
theorem presentTarget_idem (s : State) (x : Zone) :
    presentTarget s { x with target := presentTarget s x } = presentTarget s x := by
  rcases source : x.source with _ | c
  · simp [presentTarget, source]
  · cases value : orderedAverage (sourceChannel c) s <;> simp [presentTarget, source, value]

theorem retargetZones_getElem? (l : List Nat) (s : State) (atZ : s.mix.zones[z]? = some x) :
    (retargetZones l s).mix.zones[z]? = some (if z ∈ l then { x with target := presentTarget s x } else x) := by
  induction l generalizing s x with
  | nil => exact atZ
  | cons i rest ih =>
    have one : (setZone i (fun x => { x with target := presentTarget s x }) s).mix.zones[z]? =
        some (if i = z then { x with target := presentTarget s x } else x) := by
      rw [setZone, List.getElem?_modify, atZ]
      split <;> rfl
    rw [retargetZones, ih _ one]
    refine congrArg some ?_
    have same (y : Zone) : presentTarget (setZone i (fun x => { x with target := presentTarget s x }) s) y =
      presentTarget s y := presentTarget_congr rfl rfl y
    rw [same]
    by_cases here : i = z
    · subst here
      rw [if_pos rfl, presentTarget_idem, if_pos List.mem_cons_self, ite_self]
    · rw [if_neg here]
      simp [Ne.symm here]

theorem presentTarget_taken {t : State} (source : Option NoiseSource) (isX : x.source = source)
    (sense : t.sense = s.sense) (bands : t.mix.bands = s.mix.bands) :
    targetTaken t source x.target (presentTarget s x) := by
  subst isX
  rw [← presentTarget_congr sense bands]
  refine ⟨fun none => ?_, fun c source => ⟨fun v ordered => ?_, fun unordered => ?_⟩⟩
  · rw [presentTarget, none]
  · rw [presentTarget, source]
    dsimp only
    rw [orderedAverage_eq_some_iff.2 ordered]
  · have none : orderedAverage (sourceChannel c) t = Option.none := by
      rw [Option.eq_none_iff_forall_ne_some]
      exact fun v ordered => unordered v (orderedAverage_eq_some_iff.1 ordered)
    rw [presentTarget, source]
    dsimp only
    rw [none]

/-- The held writes are taken. -/
def heldEmptied (s : State) : State := { s with mix := { s.mix with held := [] } }

theorem mixFrameWrites_eq (s : State) : mixFrameWrites s =
    retargetZones (applyMixHeld s.mix.held (heldEmptied s)).2 (applyMixHeld s.mix.held (heldEmptied s)).1 := rfl

/-- A zone after the held writes of a frame start. -/
theorem mixFrameWrites_zone (low : z < 4) (atZ : s.mix.zones[z]? = some x) : ∃ y,
    (mixFrameWrites s).mix.zones[z]? = some y ∧
      y = { x with source := y.source, clipNotice := y.clipNotice, target := y.target } ∧
      y.source = sourceAfter s.mix.held z x.source ∧
      (targetCalled s.mix.held z x.source → targetTaken (mixFrameWrites s) y.source x.target y.target) ∧
      (¬ targetCalled s.mix.held z x.source → y.target = x.target) := by
  obtain ⟨n, after⟩ := foldl_mixWritten_getElem? s.mix.held (heldEmptied s).mix (x := x) (z := z) atZ
  have called : z ∈ (applyMixHeld s.mix.held (heldEmptied s)).2 ↔ targetCalled s.mix.held z x.source :=
    mem_applyMixHeld _ _ low atZ
  have state := applyMixHeld_state s.mix.held (heldEmptied s)
  have isZone := retargetZones_getElem? (applyMixHeld s.mix.held (heldEmptied s)).2
    (applyMixHeld s.mix.held (heldEmptied s)).1 (by rw [state]; exact after)
  have frame := (retargetZones_eq (applyMixHeld s.mix.held (heldEmptied s)).2
    (applyMixHeld s.mix.held (heldEmptied s)).1).1
  refine ⟨_, isZone, ?_⟩
  by_cases calls : targetCalled s.mix.held z x.source
  · rw [if_pos (called.2 calls)]
    refine ⟨rfl, rfl, fun _ => presentTarget_taken (x := { x with
      source := sourceAfter s.mix.held z x.source, clipNotice := n }) _ rfl ?_ ?_, fun not => absurd calls not⟩
    · rw [mixFrameWrites_eq, frame]
    · rw [mixFrameWrites_eq, frame]
  · rw [if_neg fun inside => calls (called.1 inside)]
    exact ⟨rfl, rfl, fun yes => absurd yes calls, fun _ => rfl⟩

/-! ### The zone steps (R41, R42) -/

theorem stepZones_getElem? (s : State) (first : Nat) (zones : List Zone) (i : Nat) :
    (stepZones s first zones)[i]? = zones[i]?.map fun x =>
      duckStep s.mix.params (pathCovers s (first + i)) (slewStep s.mix.params.noiseSlew x) := by
  induction zones generalizing first i with
  | nil => rfl
  | cons x xs ih =>
    cases i with
    | zero => rfl
    | succ i =>
      rw [stepZones, List.getElem?_cons_succ, List.getElem?_cons_succ, ih, Nat.add_right_comm first 1 i, Nat.add_assoc]

theorem zoneSteps_zone (atZ : s.mix.zones[z]? = some x) : (zoneSteps s).mix.zones[z]? =
    some (duckStep s.mix.params (pathCovers s z) (slewStep s.mix.params.noiseSlew x)) := by
  refine (stepZones_getElem? s 0 s.mix.zones z).trans ?_
  rw [atZ, Nat.zero_add]
  rfl

theorem slewStep_blocks (slew : Nat) (x : Zone) :
    slewStep slew x = { x with offset := (slewStep slew x).offset, slew := (slewStep slew x).slew } := by
  unfold slewStep
  split
  · rfl
  · split <;> rfl

theorem slewStep_of_there {slew : Nat} (there : x.offset = x.target) : slewStep slew x = { x with slew := 0 } :=
  if_pos there

theorem slewStep_of_early {slew : Nat} (apart : x.offset ≠ x.target) (early : x.slew + 1 < slew) :
    slewStep slew x = { x with slew := x.slew + 1 } := by
  rw [slewStep, if_neg apart, if_neg (by omega)]

theorem slewStep_of_due {slew : Nat} (apart : x.offset ≠ x.target) (due : slew ≤ x.slew + 1) : slewStep slew x =
    { x with offset := if x.offset < x.target then x.offset + 1 else x.offset - 1, slew := 0 } := by
  rw [slewStep, if_neg apart, if_pos due]

theorem zoneShown_iff : pathCovers s z = true ↔ zoneShown s z := by
  unfold pathCovers zoneShown
  rw [Bool.or_eq_true]
  refine or_congr ?_ ?_
  · cases running : runningEntry s with
    | some e =>
      obtain ⟨path, runs⟩ := runningEntry_eq_some_iff.1 running
      refine ⟨fun inside => ⟨e, path, runs, inside⟩, fun ⟨e', path', _, inside⟩ => ?_⟩
      rw [Option.some.inj (path.symm.trans path')]
      exact inside
    | none =>
      refine ⟨nofun, fun ⟨e, path, runs, _⟩ => ?_⟩
      rw [runningEntry_eq_some_iff.2 ⟨path, runs⟩] at running
      nomatch running
  · cases plays : chimeOnlyMask s with
    | some mask =>
      obtain ⟨q, generator, use⟩ := chimeOnlyMask_eq_some_iff.1 plays
      refine ⟨fun inside => ⟨q, mask, generator, use, inside⟩, fun ⟨q', mask', generator', use', inside⟩ => ?_⟩
      rw [chimeOnlyMask_eq_some_iff.2 ⟨q', generator', use'⟩] at plays
      rw [← Option.some.inj plays]
      exact inside
    | none =>
      refine ⟨nofun, fun ⟨q, mask, generator, use, _⟩ => ?_⟩
      rw [chimeOnlyMask_eq_some_iff.2 ⟨q, generator, use⟩] at plays
      nomatch plays

/-- The duck attenuation's step (R42). -/
theorem duckStep_duck (p : MixParams) (ducked : Bool) (x : Zone) {target clamped : Int}
    (isTarget : target = if ducked then -(p.duckDepth : Int) else 0) (isClamped : clamped = max x.duck (-(p.duckDepth : Int))) :
    (clamped = target → (duckStep p ducked x).duck = target) ∧
      (target < clamped → (duckStep p ducked x).duck = max target (clamped - p.attack)) ∧
      (clamped < target → (duckStep p ducked x).duck = min target (clamped + p.release)) := by
  have step : (duckStep p ducked x).duck =
      if target < clamped then max target (clamped - p.attack) else min target (clamped + p.release) := by
    subst isTarget isClamped
    rfl
  rw [step]
  refine ⟨fun same => ?_, fun above => if_pos above, fun below => if_neg (by omega)⟩
  rw [if_neg (by omega)]
  omega

/-! ### The chime generator (R53 to R55) -/

theorem increment_toNat {f : Nat} (high : f ≤ 4000) : (increment f).toNat = (2 * (f * 65536) + 16000) / 32000 := by
  rw [increment, BitVec.toNat_ofNat, roundHalfUp]
  omega

theorem sine_add_half {k : Nat} (low : k < 32) : sine (k + 32) = -sine k := by
  rw [sine, if_neg (by omega), Nat.add_sub_cancel, sine, if_pos low]

/-- The samples that the first tone of a list lasts. -/
def firstToneSamples : List Tone → Nat
  | [] => 0
  | tone :: _ => tone.duration * 16

theorem firstToneSamples_eq (tones : List Tone) : (tones.head?.map toneSamples).getD 0 = firstToneSamples tones := by
  cases tones <;> rfl

theorem chimeRecord_of_getElem? {n : Nat} {chime : Chime} (atN : s.mix.chimes[n]? = some chime) :
    chimeRecord s n = chime := by
  rw [chimeRecord, List.getD_eq_getElem?_getD, atN, Option.getD_some]

theorem stopChime_of_announcement {q : Sequence} {ticket : Option Nat} {mask : ZoneMask}
    (plays : s.mix.generator = some q) (use : q.use = .announcement ticket mask) :
    stopChime s = { s with mix := { s.mix with generator := none } } := by
  rw [stopChime, plays]
  dsimp only
  rw [use]

theorem stopChime_of_other
    (other : ∀ q ticket mask, s.mix.generator = some q → q.use ≠ .announcement ticket mask) : stopChime s = s := by
  unfold stopChime
  split
  · rfl
  · next q plays =>
    split
    · rfl
    · next ticket mask use => exact absurd use (other q ticket mask plays)

/-- One step of the phase and `i` more are `i + 1` steps. -/
theorem add_steps (phase c : BitVec 16) (i : Nat) :
    phase + c + BitVec.ofNat 16 i * c = phase + BitVec.ofNat 16 (i + 1) * c := by
  rw [BitVec.ofNat_add, BitVec.add_mul, BitVec.one_mul, BitVec.add_assoc, BitVec.add_comm c]

theorem toneRun_length (f count : Nat) (phase : BitVec 16) : (toneRun f count phase).1.length = count := by
  induction count generalizing phase with
  | zero => rfl
  | succ count ih => exact congrArg (· + 1) (ih _)

theorem toneRun_getElem? {f count i : Nat} (inside : i < count) (phase : BitVec 16) :
    (toneRun f count phase).1[i]? =
      some (if f = 0 then 0 else sine ((phase + BitVec.ofNat 16 i * increment f).toNat / 1024)) := by
  induction count generalizing phase i with
  | zero => exact absurd inside (Nat.not_lt_zero i)
  | succ count ih =>
    cases i with
    | zero => simp [toneRun]
    | succ i =>
      rw [toneRun, List.getElem?_cons_succ, ih (Nat.lt_of_succ_lt_succ inside), add_steps]

theorem toneRun_phase (f count : Nat) (phase : BitVec 16) :
    (toneRun f count phase).2 = phase + BitVec.ofNat 16 count * increment f := by
  induction count generalizing phase with
  | zero => simp [toneRun]
  | succ count ih =>
    rw [toneRun]
    dsimp only
    rw [ih, add_steps]

theorem playChime_of_idle (idle : s.mix.generator = none) :
    playChime s = (List.replicate 32 0, s) ∧ retireChime s = (s, false) := by
  rw [playChime, retireChime, idle]
  exact ⟨rfl, rfl⟩

section
variable {q : Sequence} {tone : Tone} {rest : List Tone}

theorem playChime_of_over (plays : s.mix.generator = some q) (spent : q.tones = []) :
    playChime s = (List.replicate 32 0, s) := by
  rw [playChime, plays]
  dsimp only
  rw [spent]
  rfl

/-- The end of a sequence is to be reported (R54). -/
def endsAnnouncement : ChimeUse → Bool
  | .announcement _ _ => true
  | .beep _ _ => false

theorem retireChime_of_over (plays : s.mix.generator = some q) (spent : q.tones = []) :
    retireChime s = ({ s with mix := { s.mix with generator := none } }, endsAnnouncement q.use) := by
  obtain ⟨use, tones, left, phase⟩ := q
  obtain rfl : tones = [] := spent
  rw [retireChime, plays]
  cases use <;> rfl

theorem retireChime_of_tone (plays : s.mix.generator = some q) (tones : q.tones = tone :: rest) :
    retireChime s = (s, false) := by
  obtain ⟨use, list, left, phase⟩ := q
  obtain rfl : list = tone :: rest := tones
  rw [retireChime, plays]

theorem playChime_of_tone (plays : s.mix.generator = some q) (tones : q.tones = tone :: rest) :
    playChime s = ((toneRun tone.frequency 32 q.phase).1, { s with mix := { s.mix with
      generator := some (afterFrame q (q.phase + 32 * increment tone.frequency)) } }) := by
  rw [playChime, plays]
  dsimp only
  rw [tones]
  dsimp only
  rw [toneRun_phase]
  rfl

theorem afterFrame_eq (tones : q.tones = tone :: rest) (phase : BitVec 16) : afterFrame q phase =
    if 32 < q.left then { q with left := q.left - 32, phase := phase }
    else { q with tones := rest, phase := 0, left := firstToneSamples rest } := by
  unfold afterFrame
  split
  · next more =>
    rw [if_pos (show 32 < q.left from more)]
    rfl
  · next spent =>
    rw [if_neg (show ¬ 32 < q.left from spent), tones, List.tail_cons]
    dsimp only
    rw [firstToneSamples_eq]

end

end Sys2Proof.Machine

namespace Sys2Proof.Proofs
open Sys2Proof Sys2Proof.Machine

/-- Settles O54: the targets by `mixFrameWrites_zone`, the generator and the zone steps by the lemmas above. -/
theorem zonesSlewAndDuck : Obligations.ZonesSlewAndDuck := by
  refine ⟨fun v bands => ⟨fun i b atI reached highest => bandOffset_of_highest atI reached highest, bandOffset_of_none⟩,
    fun s u z x isU low atZ => isU ▸ mixFrameWrites_zone low atZ,
    ⟨by decide, by decide, fun k low => sine_add_half low, fun f high => ?increment⟩, fun use chime => ?sequence,
    fun s n chime => chimeRecord_of_getElem?, fun s => ⟨fun ⟨q, ticket, mask, plays, use⟩ =>
      stopChime_of_announcement plays use, stopChime_of_other⟩, fun s z => zoneShown_iff, fun s => rfl,
    fun s => ⟨playChime_of_idle, fun q plays => ⟨fun spent => ⟨playChime_of_over plays spent, ?retire⟩, fun tone rest tones => ⟨retireChime_of_tone plays tones, ?tone⟩⟩⟩,
    fun s z x target clamped atZ isTarget isClamped => ?zone⟩
  case increment =>
    rw [increment_toNat high]
    omega
  case sequence =>
    rw [sequenceOf, firstToneSamples_eq]
    rfl
  case retire =>
    rw [retireChime_of_over plays spent]
    cases q.use <;> rfl
  case tone =>
    rw [playChime_of_tone plays tones]
    refine ⟨toneRun_length _ _ _, fun i inside => toneRun_getElem? inside _, fun after isAfter => ?_⟩
    rw [isAfter, afterFrame_eq tones]
    cases rest <;> rfl
  case zone =>
    obtain ⟨still, above, below⟩ := duckStep_duck s.mix.params (pathCovers s z) (slewStep s.mix.params.noiseSlew x)
      isTarget (clamped := clamped) (by rw [slewStep_duck, isClamped])
    refine ⟨_, zoneSteps_zone atZ, ?fields, fun there => ?there, fun apart early => ?early, fun apart due => ?due, still,
      above, below, rfl⟩
    case fields =>
      rw [slewStep_blocks]
      rfl
    case there =>
      rw [slewStep_of_there there]
      exact ⟨rfl, rfl⟩
    case early =>
      rw [slewStep_of_early apart early]
      exact ⟨rfl, rfl⟩
    case due =>
      rw [slewStep_of_due apart due]
      refine ⟨rfl, fun up => if_pos up, fun down => ?_⟩
      change (if x.offset < x.target then x.offset + 1 else x.offset - 1) + 1 = x.offset
      rw [if_neg (by omega)]
      omega

end Sys2Proof.Proofs

/-! The idle step: what is due at once, and a reference tick with what runs out on it (R2, R65, R74, R86, R89, R90, R93,
R95, R143, R161 to R163, R168, R181). -/

namespace Sys2Proof.Machine

variable {s : State} {c : Instr}

/-! ### What is due at once -/

theorem headRequest_eq_some_iff {r : Request} : headRequest s = some r ↔ ∃ rest, headIs r rest s := by
  unfold headRequest headIs
  split
  · next room =>
    rw [List.head?_eq_some_iff]
    exact exists_congr fun rest => (and_iff_left (show s.manage.replies.length < 8 from room)).symm
  · next full => exact ⟨nofun, fun ⟨_, _, room⟩ => absurd room full⟩

theorem mem_requestDue : c ∈ requestDue s ↔ ∃ r rest, headIs r rest s ∧ c = rowOf r := by
  unfold requestDue
  cases head : headRequest s with
  | none =>
    refine ⟨nofun, fun ⟨r, rest, isHead, _⟩ => ?_⟩
    rw [headRequest_eq_some_iff.2 ⟨rest, isHead⟩] at head
    nomatch head
  | some r =>
    obtain ⟨rest, isHead⟩ := headRequest_eq_some_iff.1 head
    refine ⟨fun own => ⟨r, rest, isHead, List.mem_singleton.1 own⟩, fun ⟨r', rest', isHead', row⟩ => ?_⟩
    rw [headRequest_eq_some_iff.2 ⟨rest', isHead'⟩] at head
    exact List.mem_singleton.2 (Option.some.inj head ▸ row)

theorem mem_gateDue : c ∈ gateDue s ↔ ∃ k, s.sense.scan = .converting k ∧ k.settings.gateMode = .inputGate ∧
    k.gateOpen = true ∧ k.settings.edgeCount ≤ k.edges ∧ c = .inputGateClose 0 ⟨false, false⟩ := by
  unfold gateDue
  cases s.sense.scan with
  | converting k =>
    by_cases due : k.settings.gateMode = .inputGate ∧ k.gateOpen = true ∧ k.settings.edgeCount ≤ k.edges
    · simp [due]
    · rw [← and_assoc] at due
      simp only [Bool.and_eq_true, decide_eq_true_eq, if_neg due]
      refine ⟨nofun, fun ⟨k', same, mode, gate, edges, _⟩ => absurd ?_ due⟩
      rw [Scan.converting.inj same]
      exact ⟨⟨mode, gate⟩, edges⟩
  | idle => simp
  | delay left => simp
  | scanWait => simp

theorem mem_roundsDue : c ∈ roundsDue s ↔ ∃ l : Fin 4, (lineAt s l).state = .awake ∧ (lineAt s l).transaction = none ∧
    (lineAt s l).roundNext = 0 ∧ (lineAt s l).pairLow = false ∧ c = .pollRoundBegin l := by
  have begins (x : Line) : roundBegins x = true ↔
      x.state = .awake ∧ x.transaction = none ∧ x.roundNext = 0 ∧ x.pairLow = false := by
    simp [roundBegins, and_assoc]
  simp only [roundsDue, List.mem_map, List.mem_filter, List.mem_finRange, true_and, begins, and_assoc, eq_comm (a := c)]

theorem linkDue_of_empty (received : s.link.received = []) (ended : s.link.ended = []) : linkDue s = [] := by
  rw [linkDue, received, ended]
  rfl

theorem mem_dueNow (received : s.link.received = []) (ended : s.link.ended = []) : c ∈ dueNow s ↔ dueAtOnce s c := by
  rw [dueNow, linkDue_of_empty received ended, List.nil_append, List.mem_append, List.mem_append, mem_requestDue,
    mem_gateDue, mem_roundsDue, or_assoc]
  rfl

theorem idle_of_due (due : dueNow s ≠ []) : idle s = { s with pending := dueNow s } := by
  unfold idle
  split
  · next none => exact absurd none due
  · rfl

theorem idle_of_nothing (nothing : dueNow s = []) : idle s = passTick s := by
  rw [idle, nothing]

theorem step_idle (empty : s.pending = []) : step s = .next (idle s) := by
  rw [step, empty]

/-! ### A reference tick -/

theorem tickFrameTimer_blocks (s : State) : tickFrameTimer s =
    { s with clockPhase := (tickFrameTimer s).clockPhase, playout := (tickFrameTimer s).playout } := by
  rcases Nat.lt_or_ge (s.clockPhase + 1000) 32768 with early | complete
  · rw [(tickFrameTimer_spec s).1 early]
  · rw [(tickFrameTimer_spec s).2 complete]

/-- The state after a reference tick, its commands apart. -/
def ticked (s : State) : State := tickFrameTimer (tickTimers s)

theorem ticked_eq (s : State) : ticked s =
    { tickTimers s with clockPhase := (ticked s).clockPhase, playout := (ticked s).playout } :=
  tickFrameTimer_blocks (tickTimers s)

theorem passTick_eq (s : State) : passTick s = { ticked s with pending := tickDue (ticked s) } := rfl

theorem mem_tickDue : c ∈ tickDue s ↔ c ∈ scanDue s ∨ (∃ i, c ∈ lampDue s i) ∨ (∃ l, c ∈ lineDue s l) ∨
    (∃ d ∈ channelsInOrder, c ∈ staleDue s d) ∨ c ∈ timerDue s.announce.startTimer .startTimerExpiry ∨
    c ∈ timerDue s.announce.durationTimer .maximumDurationExpiry ∨
    c ∈ timerDue s.link.supervision (.supervisionTimerExpiry false) ∨
    (s.playout.frameTimer = 0 ∧ c = .frameStart false ⟨false, false⟩) := by
  simp [tickDue]

theorem mem_timerDue {timer : Option Nat} (out : timer = some 0) (c : Instr) : c ∈ timerDue timer c := by
  rw [timerDue, if_pos out]
  exact List.mem_singleton_self c

/-- A timer with at most a tick left runs out. -/
theorem countDown_out {timer : Option Nat} {n : Nat} (low : n ≤ 1000) (runs : timer = some n) :
    countDown timer = some 0 := by
  rw [runs]
  exact congrArg some (Nat.sub_eq_zero_of_le low)

/-- A lamp after a reference tick. -/
theorem tickLamp_eq (x : Lamp) : tickLamp x =
    if x.transition = .steady then { x with began := none }
    else if x.phase + 1000 < 32768 then { x with began := none, phase := x.phase + 1000 }
    else { x with
      began := none, phase := x.phase + 1000 - 32768, transition := tickTransition x.transition } := by
  obtain ⟨steady, early, complete⟩ := tickLamp_spec x
  split
  · next still => exact steady still
  · next moving =>
    split
    · next before => exact early moving before
    · next full => exact complete moving (Nat.not_lt.1 full)

theorem ticked_line {l : Nat} {x : Line} (atL : s.lines.lines[l]? = some x) : lineAt (ticked s) l = tickLine x := by
  rw [ticked_eq]
  refine lineAt_of_entry ?_
  change (s.lines.lines.map tickLine)[l]? = _
  rw [List.getElem?_map, atL, Option.map_some]

/-! ### What runs out on a tick -/

theorem mem_lineDue_quiet {l : Fin 4} (out : (lineAt s l).quiet = some 0) : .quietTimerExpiry l ∈ lineDue s l := by
  rw [lineDue, if_pos out]
  exact List.mem_append_left _ (List.mem_singleton_self _)

theorem mem_lineDue_round {l : Fin 4} (awake : (lineAt s l).state = .awake) (none : (lineAt s l).transaction = none)
    (out : (lineAt s l).roundLeft = 0) (served : 12 ≤ (lineAt s l).roundNext) : .roundTimerExpiry l ∈ lineDue s l := by
  refine List.mem_append_right _ ?_
  rw [awake, none, out, decide_eq_true served]
  exact List.mem_singleton_self _

theorem mem_lampDue_fade {i : Fin 8} {x : Lamp} {start : Nat} {k j : Nat} (atI : s.lighting.lamps[i.val]? = some x)
    (due : x.transition = .fading start k j 0) : .fadeStep i ∈ lampDue s i := by
  rw [lampDue, atI, Option.map_some, due]
  exact List.mem_singleton_self _

theorem mem_lampDue_flash {i : Fin 8} {x : Lamp} (atI : s.lighting.lamps[i.val]? = some x)
    (due : x.transition = .flashOn 0 ∨ x.transition = .flashOff 0) : .flashHalfExpiry i ∈ lampDue s i := by
  rw [lampDue, atI, Option.map_some]
  rcases due with lit | dark
  · rw [lit]
    exact List.mem_singleton_self _
  · rw [dark]
    exact List.mem_singleton_self _

theorem mem_staleDue {d : SenseChan} {record : SenseRec} {r : ResultRec}
    (isRecord : s.sense.channels[chanNumber d]? = some record) (isResult : s.sense.results[chanNumber d]? = some r)
    (present : r.present = true) (stale : Config.ms record.staleness ≤ r.age)
    (fresh : r.age < Config.ms record.staleness + 1000) : .resultStale d ∈ staleDue s d := by
  have result : resultRecord s (chanNumber d) = r := by
    rw [resultRecord, List.getD_eq_getElem?_getD, isResult, Option.getD_some]
  rw [staleDue, channelRecord, isRecord]
  dsimp only
  rw [result, isStale, present, decide_eq_true stale,
    decide_eq_true (show r.age < Config.ms record.staleness + Config.tickParts from fresh)]
  exact List.mem_singleton_self _

/-! ### The blocks after a tick -/

theorem ticked_link (s : State) : (ticked s).link = { s.link with supervision := countDown s.link.supervision } := by
  rw [ticked_eq, tickTimers_link]

theorem ticked_announce (s : State) : (ticked s).announce = { s.announce with
    startTimer := countDown s.announce.startTimer, durationTimer := countDown s.announce.durationTimer } := by
  rw [ticked_eq, tickTimers_announce]

theorem ticked_sense (s : State) : (ticked s).sense =
    { s.sense with scan := tickScan s.sense.scan, results := s.sense.results.map tickAge } := by
  rw [ticked_eq, tickTimers_sense]

theorem ticked_lighting (s : State) :
    (ticked s).lighting = { s.lighting with lamps := s.lighting.lamps.map tickLamp } := by
  rw [ticked_eq, tickTimers_lighting]

theorem ticked_lines (s : State) : (ticked s).lines = { s.lines with lines := s.lines.lines.map tickLine } := by
  rw [ticked_eq, tickTimers_lines]

/-- The blocks that no timer is in. -/
theorem ticked_others (s : State) : (ticked s).seats = s.seats ∧ (ticked s).mix = s.mix ∧ (ticked s).route = s.route ∧
    (ticked s).segment = s.segment ∧ (ticked s).manage = s.manage ∧ (ticked s).report = s.report := by
  rw [ticked_eq]
  exact ⟨rfl, rfl, rfl, rfl, rfl, rfl⟩

/-- The frame timer on its clock phase (R2). -/
theorem ticked_frameTimer (s : State) :
    (s.clockPhase + 1000 < 32768 → (ticked s).clockPhase = s.clockPhase + 1000 ∧ (ticked s).playout = s.playout) ∧
    (32768 ≤ s.clockPhase + 1000 → (ticked s).clockPhase = s.clockPhase + 1000 - 32768 ∧
      (ticked s).playout = { s.playout with frameTimer := s.playout.frameTimer - 1 }) := by
  obtain ⟨early, complete⟩ := tickFrameTimer_spec (tickTimers s)
  refine ⟨fun before => ?_, fun full => ?_⟩
  · rw [ticked, early before]
    exact ⟨rfl, rfl⟩
  · rw [ticked, complete full]
    exact ⟨rfl, rfl⟩

theorem tickConversion_refGate {k : Conversion} (mode : k.settings.gateMode = .refGate) : tickConversion k =
    if k.gateOpen then { k with ticks := k.ticks + 1 } else { k with gateOpen := true, ticks := 0 } := by
  rw [tickConversion, mode]

theorem tickConversion_inputGate {k : Conversion} (mode : k.settings.gateMode = .inputGate) : tickConversion k =
    { k with waited := k.waited + 1, ticks := if k.gateOpen then k.ticks + 1 else k.ticks } := by
  rw [tickConversion, mode]

theorem mem_scanDue_close {k : Conversion} (converting : s.sense.scan = .converting k) (due : refGateDue k = true) :
    .refGateClose ⟨false, false⟩ ∈ scanDue s := by
  rw [scanDue, converting]
  dsimp only
  rw [conversionDue, if_pos due]
  exact List.mem_append_left _ (List.mem_singleton_self _)

theorem mem_scanDue_wait {k : Conversion} (converting : s.sense.scan = .converting k) (due : waitLimitDue k = true) :
    .waitLimitTimeout ⟨false, false⟩ ∈ scanDue s := by
  rw [scanDue, converting]
  dsimp only
  rw [conversionDue, if_pos due]
  exact List.mem_append_right _ (List.mem_singleton_self _)

theorem ticked_lamp {i : Nat} {x : Lamp} (atI : s.lighting.lamps[i]? = some x) :
    (ticked s).lighting.lamps[i]? = some (tickLamp x) := by
  rw [ticked_lighting, List.getElem?_map, atI, Option.map_some]

/-- A lamp whose millisecond is complete moves its transition. -/
theorem tickLamp_transition {x : Lamp} (moving : x.transition ≠ .steady) (full : 32768 ≤ x.phase + 1000) :
    (tickLamp x).transition = tickTransition x.transition := by
  rw [(tickLamp_spec x).2.2 moving full]

end Sys2Proof.Machine

namespace Sys2Proof.Proofs
open Sys2Proof Sys2Proof.Machine

/-- Settles O3: what is due at once by `mem_dueNow`, the tick by `ticked_eq`, and each command by the membership lemmas of
`tickDue`. -/
theorem idleStepPassesTime : Obligations.IdleStepPassesTime := by
  refine ⟨fun s empty due => ?due, fun s c received ended => mem_dueNow received ended, fun s empty nothing => ?tick,
    fun k => ⟨fun mode => ?refGate, fun mode => ?inputGate⟩⟩
  case due => rw [step_idle empty, idle_of_due due]
  case refGate => exact tickConversion_refGate mode
  case inputGate => exact tickConversion_inputGate mode
  case tick =>
    have ran : step s = .next { ticked s with pending := tickDue (ticked s) } := by
      rw [step_idle empty, idle_of_nothing nothing, passTick_eq]
    obtain ⟨before, full⟩ := ticked_frameTimer s
    obtain ⟨seats, mix, route, segment, manage, report⟩ := ticked_others s
    have link := ticked_link s
    have announce := ticked_announce s
    have lines := ticked_lines s
    have sense := ticked_sense s
    have lighting := ticked_lighting s
    have line (l : Nat) (x : Line) (atL : s.lines.lines[l]? = some x) : lineAt (ticked s) l = tickLine x :=
      ticked_line atL
    have lamp (i : Nat) (x : Lamp) (atI : s.lighting.lamps[i]? = some x) := ticked_lamp atI
    generalize ticked s = u at *
    refine ⟨_, ran, before, fun complete => ?complete,
      link, announce, lines, ?sense, ?lighting, seats, mix, route, segment, manage, report,
      fun n low => ⟨?supervision, ?start, ?duration, ?quiet, ?round, ?delay⟩,
      fun i x atI full => ⟨?fade, ?flash⟩, fun d record r isRecord isResult present fresh stale small => ?stale,
      fun k converting => ⟨?close, ?wait⟩⟩
    case complete =>
      obtain ⟨phase, playout⟩ := full complete
      refine ⟨phase, playout, fun due => mem_tickDue.2 (.inr (.inr (.inr (.inr (.inr (.inr (.inr ⟨?_, rfl⟩)))))))⟩
      rw [playout]
      exact Nat.sub_eq_zero_of_le due
    case sense =>
      refine sense.trans ?_
      cases s.sense.scan <;> rfl
    case lighting =>
      refine lighting.trans ?_
      refine congrArg (fun lamps => { s.lighting with lamps := lamps }) (List.map_congr_left fun x _ => ?_)
      rw [tickLamp_eq]
      cases x.transition <;> rfl
    case supervision =>
      refine fun runs => mem_tickDue.2 (.inr (.inr (.inr (.inr (.inr (.inr (.inl (mem_timerDue ?_ _))))))))
      rw [link]
      exact countDown_out low runs
    case start =>
      refine fun runs => mem_tickDue.2 (.inr (.inr (.inr (.inr (.inl (mem_timerDue ?_ _))))))
      rw [announce]
      exact countDown_out low runs
    case duration =>
      refine fun runs => mem_tickDue.2 (.inr (.inr (.inr (.inr (.inr (.inl (mem_timerDue ?_ _)))))))
      rw [announce]
      exact countDown_out low runs
    case quiet =>
      refine fun l runs inside => mem_tickDue.2 (.inr (.inr (.inl ⟨l, mem_lineDue_quiet ?_⟩)))
      rw [line l _ (line_entry inside)]
      exact countDown_out low runs
    case round =>
      intro l x atL awake none served left
      have line := line l x atL
      refine mem_tickDue.2 (.inr (.inr (.inl ⟨l, mem_lineDue_round ?_ ?_ ?_ ?_⟩)))
      · rw [line]; exact awake
      · rw [line]; exact none
      · rw [line]; exact Nat.sub_eq_zero_of_le (left ▸ low)
      · rw [line]; exact served
    case delay =>
      refine fun delayed => mem_tickDue.2 (.inl ?_)
      have out : u.sense.scan = .delay 0 := by
        rw [sense, delayed]
        exact congrArg Scan.delay (Nat.sub_eq_zero_of_le low)
      rw [scanDue, out]
      exact List.mem_singleton_self _
    case fade =>
      rintro ⟨start, k, j, due⟩
      refine mem_tickDue.2 (.inr (.inl ⟨i, mem_lampDue_fade (lamp i.val x atI) (start := start) (k := k) (j := j) ?_⟩))
      rw [tickLamp_transition (by rw [due]; nofun) full, due]
      rfl
    case flash =>
      intro due
      refine mem_tickDue.2 (.inr (.inl ⟨i, mem_lampDue_flash (lamp i.val x atI) ?_⟩))
      rcases due with lit | dark
      · rw [tickLamp_transition (by rw [lit]; nofun) full, lit]
        exact .inl rfl
      · rw [tickLamp_transition (by rw [dark]; nofun) full, dark]
        exact .inr rfl
    case stale =>
      have age : tickAge r = { r with age := min (r.age + 1000) (Config.ms 4294967295) } := if_pos present
      have limit : Config.ms record.staleness = record.staleness * 32768 := rfl
      have last : Config.ms 4294967295 = 4294967295 * 32768 := rfl
      refine mem_tickDue.2 (.inr (.inr (.inr (.inl ⟨d, mem_channelsInOrder d, mem_staleDue (record := record)
        (r := tickAge r) ?_ ?_ ?_ ?_ ?_⟩))))
      · rw [sense]; exact isRecord
      · rw [sense, List.getElem?_map, isResult, Option.map_some]
      · rw [age]; exact present
      · rw [age]
        dsimp only
        omega
      · rw [age]
        dsimp only
        omega
    case close =>
      intro mode gate length
      refine mem_tickDue.2 (.inl (mem_scanDue_close (k := { k with ticks := k.ticks + 1 }) ?_ ?_))
      · rw [sense, converting]
        exact congrArg Scan.converting ((tickConversion_refGate mode).trans (if_pos gate))
      · simp [refGateDue, mode, gate, length]
    case wait =>
      intro mode limit
      refine mem_tickDue.2 (.inl (mem_scanDue_wait (k := tickConversion k) ?_ ?_))
      · rw [sense, converting]
        rfl
      · rw [tickConversion_inputGate mode]
        simp [waitLimitDue, mode, limit]

end Sys2Proof.Proofs

/-! What the announcement controller, a fired cue and the handover make of two states that are alike to them. A frame
start hands over after its report or before it (R174), and the path it makes for the mix is the same. -/

namespace Sys2Proof.Machine

variable {s t u : State} {e w : Entry}

namespace PathAlike

theorem symm (alike : PathAlike False s t) : PathAlike False t s :=
  ⟨alike.link.symm, alike.announce.symm, alike.mix.symm, alike.lighting.symm, nofun⟩

/-- Changes that the announcement controller does not read, on both sides. -/
theorem between {s' t' : State} (first : PathAlike False s s') (alike : PathAlike False s t) (second : PathAlike False t t') :
    PathAlike False s' t' := (first.symm.trans alike).trans second

theorem ifFree (alike : PathAlike False s t) : PathAlike False (Machine.reportIfFree s) (Machine.reportIfFree t) :=
  between (.reportIfFree s) alike (.reportIfFree t)

/-- An update of the announcement state that both take alike. -/
theorem setAnnounce (alike : PathAlike False s t) (f : Announcer → Announcer) :
    PathAlike False { s with announce := f s.announce } { t with announce := f t.announce } := alike.update f id

theorem afterEnding (alike : PathAlike False s t) : PathAlike False (afterEnding s) (afterEnding t) :=
  alike.startStep.1.reportAlert.ifFree

theorem afterArrival (alike : PathAlike False s t) : PathAlike False (afterArrival s) (afterArrival t) := by
  rw [Machine.afterArrival, Machine.afterArrival, alike.announce]
  cases s.announce.path with
  | some e => exact alike
  | none =>
    obtain ⟨started, removed⟩ := alike.startStep
    dsimp only
    rw [removed]
    split
    · exact started.reportAlert.ifFree
    · exact started.reportAlert

theorem preempt (alike : PathAlike False s t) (e : Entry) : PathAlike False (preempt e s) (preempt e t) := by
  unfold Machine.preempt
  refine returnToWaiting (notify (stopTimers ?_) _) e
  split
  · exact alike.stopChime
  · exact alike

theorem afterInsertion (alike : PathAlike False s t) (cls : AnnClass) :
    PathAlike False (afterInsertion cls s) (afterInsertion cls t) := by
  have same : runningEntry t = runningEntry s := by rw [runningEntry, alike.announce, runningEntry]
  rw [Machine.afterInsertion, Machine.afterInsertion, same]
  split
  · split
    · exact (alike.preempt _).afterArrival
    · exact alike
  · exact alike.afterArrival

theorem insertRequest (alike : PathAlike False s t) (r : AnnRequest) :
    PathAlike False (insertRequest r s) (insertRequest r t) :=
  alike.setAnnounce fun a => { a with
    waiting := insertRanked { cls := r.cls, clip := r.clip, mask := r.mask, origin := r.origin, scene := r.scene,
                              state := .waiting, ticket := none, arrival := a.nextArrival, chime := none,
                              maxSeconds := 0 } a.waiting
    nextArrival := a.nextArrival + 1 }

theorem announceRequest (alike : PathAlike False s t) (r : AnnRequest) :
    PathAlike False (announceRequest r s) (announceRequest r t) := by
  rw [Machine.announceRequest, Machine.announceRequest, mergeRequest, mergeRequest, queuedCount, queuedCount,
    alike.announce]
  split
  · exact alike.setWaiting _
  · split
    · exact (alike.insertRequest r).afterInsertion _
    · split
      · split
        · exact (((alike.setWaiting _).notify _).insertRequest r).afterInsertion _
        · exact alike.notify _
      · exact alike.notify _

theorem chimeEnded (alike : PathAlike False s t) : PathAlike False (chimeEnded s) (chimeEnded t) := by
  rw [Machine.chimeEnded, Machine.chimeEnded, alike.announce]
  cases s.announce.path with
  | none => exact alike
  | some e =>
    dsimp only
    split
    · exact alike.setAnnounce fun a =>
        { a with path := some { e with state := .startingClip }, startTimer := some Config.startTime, durationTimer := none }
    · exact (alike.setPath none).afterEnding
    · exact alike

/-- The end of a chime. -/
theorem endChime (alike : PathAlike False s t) : PathAlike False (endChime s) (endChime t) := by
  have retired : PathAlike False (retireChime s).1 (retireChime t).1 ∧ (retireChime t).2 = (retireChime s).2 := by
    have same := alike.mix
    unfold retireChime
    rw [same]
    split
    · exact ⟨⟨alike.link, alike.announce, rfl, alike.lighting, nofun⟩, rfl⟩
    · exact ⟨alike, rfl⟩
  unfold Machine.endChime chimeReport
  dsimp only
  rw [retired.2]
  split
  · exact retired.1.chimeEnded
  · exact retired.1

/-! ### A retry that fires a cue (R115, R116) -/

theorem setCueScene (alike : PathAlike False s t) (scene : Option Nat) :
    PathAlike False (setCueScene scene s) (setCueScene scene t) := by
  unfold Machine.setCueScene
  rw [alike.lighting]
  split
  · exact alike
  · exact ⟨alike.link, alike.announce, alike.mix, rfl, nofun⟩

/-- What a fired cue does, by its kind. -/
theorem cueAction (alike : PathAlike False s t) (route : t.route = s.route) (i : Nat) (c : Cue) :
    PathAlike False (cueAction i c s) (cueAction i c t) := by
  have stop (n : Nat) : stopIs n t = stopIs n s := by rw [stopIs, route, stopIs]
  have reached : PathAlike False
      (if stopIs c.stop s then Machine.notify (.stopReached c.stop) (clearStop s) else s)
      (if stopIs c.stop s then Machine.notify (.stopReached c.stop) (clearStop t) else t) := by
    split
    · exact (show PathAlike False (clearStop s) (clearStop t) from
        ⟨alike.link, alike.announce, alike.mix, alike.lighting, nofun⟩).notify _
    · exact alike
  unfold Machine.cueAction
  rw [stop]
  split
  · exact ⟨alike.link, alike.announce, alike.mix, alike.lighting, nofun⟩
  · exact alike.announceRequest _
  · dsimp only
    split
    · exact reached
    · exact reached.announceRequest _
  · exact alike.announceRequest _
  · exact alike.setCueScene _
  · exact alike
  · exact alike

theorem fireCue (alike : PathAlike False s t) (route : t.route = s.route) (i : Nat) :
    PathAlike False (fireCue i s) (fireCue i t) := by
  have cue : cueAt t i = cueAt s i := by rw [cueAt, route, cueAt]
  have place : position t = position s := by rw [position, route, position]
  have left : PathAlike False (leaveList i (setCueState i .fired s)) (leaveList i (setCueState i .fired t)) :=
    ⟨alike.link, alike.announce, alike.mix, alike.lighting, nofun⟩
  have leftRoute : (leaveList i (setCueState i .fired t)).route = (leaveList i (setCueState i .fired s)).route := by
    unfold leaveList setCueState setCue
    dsimp only
    rw [route]
  unfold Machine.fireCue
  dsimp only
  rw [cue, place]
  exact (left.notify _).cueAction (by rw [notify_route, notify_route, leftRoute]) i _

/-- A retry, where the serve test reads the same. -/
theorem retry (alike : PathAlike False s t) (route : t.route = s.route) (segment : t.segment = s.segment)
    (copy : t.playout.segmentCopy = s.playout.segmentCopy) : PathAlike False (retry s) (retry t) := by
  have cue (i : Nat) : cueAt t i = cueAt s i := by rw [cueAt, route, cueAt]
  have serve (c : Cue) : canServe c t = canServe c s := by
    rw [canServe, alike.link, segment, copy, canServe]
  have pass (list : List Nat) : PathAlike False (retryPass list s) (retryPass list t) := by
    induction list with
    | nil => exact alike
    | cons i rest ih =>
      rw [retryPass, retryPass, cue, serve]
      split
      · exact alike.fireCue route i
      · exact ih
  unfold Machine.retry
  rw [route]
  split
  · exact pass _
  · exact alike

end PathAlike

end Sys2Proof.Machine

/-! The handover at a frame start (R11 to R14), after the report or before it (R174). -/

namespace Sys2Proof.Machine

variable {s t : State} {f : QueuedFrame} {rest : List QueuedFrame} {k : KeptBlock}

/-! ### The handover, by the playout state -/

theorem handOver_of_filling (filling : s.playout.state = .filling) : handOver s = ([], s) := by
  rw [handOver, filling]

theorem handOver_of_underflow (playing : s.playout.state = .playing) (empty : s.playout.queue = []) :
    handOver s = ([], { s with playout := { s.playout with state := .filling } }) := by
  rw [handOver, playing, empty]

/-- The buffer once frame `f` has left it. -/
def framed (f : QueuedFrame) (rest : List QueuedFrame) (s : State) : State :=
  { s with playout := { s.playout with queue := rest, segmentCopy := f.segment } }

theorem handOver_of_frame (playing : s.playout.state = .playing) (queue : s.playout.queue = f :: rest) :
    handOver s = (f.kept.filter (passesHandover s),
      if s.playout.segmentCopy ≠ 0 ∧ f.segment = 0 then retry (framed f rest s) else framed f rest s) := by
  rw [handOver, playing, queue]
  rfl

theorem passesHandover_iff : passesHandover s k = true ↔ ∀ m, k.mark = some m → ticketRuns s m.ticket := by
  unfold passesHandover
  cases mark : k.mark with
  | none => exact ⟨nofun, fun _ => rfl⟩
  | some m =>
    rw [ticketOnPath_iff]
    exact ⟨fun runs n same => Option.some.inj same ▸ runs, fun all => all m rfl⟩

/-! ### The END of a mixed block (R12) -/

theorem endTicket_eq_some {frame : List KeptBlock} {ticket : Nat} (ends : endTicket frame = some ticket) :
    ∃ k ∈ frame, ∃ m, k.mark = some m ∧ m.endMark = true ∧ m.ticket = ticket := by
  obtain ⟨m, inside, own⟩ := List.exists_of_findSome?_eq_some ends
  obtain ⟨k, held, mark⟩ := List.mem_filterMap.1 inside
  split at own
  · next last => exact ⟨k, held, m, mark, last, Option.some.inj own⟩
  · nomatch own

theorem endTicket_eq_none_iff {frame : List KeptBlock} :
    endTicket frame = none ↔ ∀ k ∈ frame, ∀ m, k.mark = some m → m.endMark = false := by
  rw [endTicket, List.findSome?_eq_none_iff]
  constructor
  · intro none k inside m mark
    have own := none m (List.mem_filterMap.2 ⟨k, inside, mark⟩)
    split at own
    · nomatch own
    · next other => exact Bool.eq_false_iff.2 other
  · intro all m inside
    obtain ⟨k, held, mark⟩ := List.mem_filterMap.1 inside
    exact if_neg (by rw [all k held m mark]; exact Bool.false_ne_true)

/-! ### Live control at a retry (R126, R129) -/

/-- The live state and both masks of `t` are those of `s`. -/
def keepsLive (s t : State) : Prop :=
  t.segment.live = s.segment.live ∧ t.segment.liveMask = s.segment.liveMask ∧ t.segment.heldMask = s.segment.heldMask

theorem keepsLive_of_same (same : t.segment = s.segment) : keepsLive s t := by
  rw [keepsLive, same]
  exact ⟨rfl, rfl, rfl⟩

/-- With live OFF there is nothing to grant. -/
theorem GrantOnly.keepsLive (granted : GrantOnly s t) (off : s.segment.live = .off) : keepsLive s t := by
  rcases granted with same | ⟨requested, _⟩
  · exact keepsLive_of_same same
  · nomatch off.symm.trans requested

theorem cueAction_keepsLive (i : Nat) (c : Cue) (off : s.segment.live = .off) : keepsLive s (cueAction i c s) := by
  have reached : keepsLive s (if stopIs c.stop s then notify (.stopReached c.stop) (clearStop s) else s) := by
    split
    · exact keepsLive_of_same (notify_segment _ _)
    · exact ⟨rfl, rfl, rfl⟩
  unfold cueAction
  split
  · exact ⟨rfl, rfl, rfl⟩
  · exact (GrantOnly.announceRequest _ s).keepsLive off
  · dsimp only
    split
    · exact reached
    · obtain ⟨live, mask, held⟩ := reached
      obtain ⟨live', mask', held'⟩ := (GrantOnly.announceRequest
        { cls := .service, clip := c.clip, mask := c.mask, origin := .cue i, scene := none } _).keepsLive
          (live.trans off)
      exact ⟨live'.trans live, mask'.trans mask, held'.trans held⟩
  · exact (GrantOnly.announceRequest _ s).keepsLive off
  · refine keepsLive_of_same ?_
    unfold setCueScene
    split <;> rfl
  · exact ⟨rfl, rfl, rfl⟩
  · exact ⟨rfl, rfl, rfl⟩

/-- A retry fires a cue under live OFF alone. -/
theorem retry_keepsLive (s : State) : keepsLive s (retry s) := by
  have pass (list : List Nat) : keepsLive s (retryPass list s) := by
    induction list with
    | nil => exact ⟨rfl, rfl, rfl⟩
    | cons i rest ih =>
      by_cases can : servable s i
      · rw [retryPass_of_servable rest can]
        obtain ⟨_, _, off, _⟩ := can
        have told : (notify (.cueFired i (cueAt s i).kind (position s)) (leaveList i (setCueState i .fired s))).segment =
          s.segment := notify_segment _ _
        obtain ⟨live, mask, held⟩ := cueAction_keepsLive i (cueAt s i) (s := notify (.cueFired i (cueAt s i).kind
          (position s)) (leaveList i (setCueState i .fired s))) (by rw [told]; exact off)
        rw [told] at live mask held
        exact ⟨live, mask, held⟩
      · rw [retryPass, if_neg fun yes => can (servable_iff.1 yes)]
        exact ih
  unfold retry
  split
  · exact pass _
  · exact ⟨rfl, rfl, rfl⟩

theorem handOver_keepsLive (s : State) : keepsLive s (handOver s).2 := by
  cases state : s.playout.state with
  | filling => rw [handOver_of_filling state]; exact ⟨rfl, rfl, rfl⟩
  | playing =>
    cases queue : s.playout.queue with
    | nil => rw [handOver_of_underflow state queue]; exact ⟨rfl, rfl, rfl⟩
    | cons f rest =>
      rw [handOver_of_frame state queue]
      dsimp only
      split
      · exact retry_keepsLive (framed f rest s)
      · exact ⟨rfl, rfl, rfl⟩

/-! ### The playout buffer after the handover -/

theorem framed_handOver_playout (playing : s.playout.state = .playing) (queue : s.playout.queue = f :: rest) :
    (handOver s).2.playout = { s.playout with queue := rest, segmentCopy := f.segment } := by
  rw [handOver_of_frame playing queue]
  dsimp only
  split
  · rw [(retry_routeFrame (framed f rest s)).playout]
    rfl
  · rfl

/-- The handover leaves the frame timer and the last accepted number. -/
theorem handOver_timer (s : State) : (handOver s).2.playout.frameTimer = s.playout.frameTimer ∧
    (handOver s).2.playout.lastSequence = s.playout.lastSequence := by
  cases state : s.playout.state with
  | filling => rw [handOver_of_filling state]; exact ⟨rfl, rfl⟩
  | playing =>
    cases queue : s.playout.queue with
    | nil => rw [handOver_of_underflow state queue]; exact ⟨rfl, rfl⟩
    | cons f rest => rw [framed_handOver_playout state queue]; exact ⟨rfl, rfl⟩

/-! ### The frame start's beginning -/

/-- The state that a frame start hands over from: the frame timer restarted, and the report built where it comes first. -/
def frameBegun (reportFirst : Bool) (s : State) : State :=
  reportWhen reportFirst { s with playout := { s.playout with frameTimer := 2 } }

theorem buildReport_blocks (s : State) : ∃ replies notices, buildReport s = { s with
    report := (buildReport s).report, manage := { s.manage with replies := replies, notices := notices } } := by
  unfold buildReport
  split
  · exact ⟨_, _, rfl⟩
  · exact ⟨_, _, rfl⟩
  · exact ⟨_, _, rfl⟩

theorem reportWhen_blocks (build : Bool) (s : State) : ∃ replies notices, reportWhen build s = { s with
    report := (reportWhen build s).report, manage := { s.manage with replies := replies, notices := notices } } := by
  unfold reportWhen
  split
  · exact buildReport_blocks s
  · exact ⟨_, _, rfl⟩

theorem frameBegun_eq (reportFirst : Bool) (s : State) : ∃ report replies notices, frameBegun reportFirst s = { s with
    playout := { s.playout with frameTimer := 2 }, report := report
    manage := { s.manage with replies := replies, notices := notices } } := by
  obtain ⟨replies, notices, eq⟩ := reportWhen_blocks reportFirst { s with playout := { s.playout with frameTimer := 2 } }
  exact ⟨_, replies, notices, eq⟩

/-- The handover is the same after the report. -/
theorem handOver_begun (reportFirst : Bool) (s : State) : (handOver (frameBegun reportFirst s)).1 = (handOver s).1 ∧
    PathAlike False (handOver s).2 (handOver (frameBegun reportFirst s)).2 := by
  obtain ⟨report, replies, notices, eq⟩ := frameBegun_eq reportFirst s
  have state : (frameBegun reportFirst s).playout.state = s.playout.state := by rw [eq]
  have queue : (frameBegun reportFirst s).playout.queue = s.playout.queue := by rw [eq]
  cases isState : s.playout.state with
  | filling =>
    rw [handOver_of_filling isState, handOver_of_filling (state.trans isState), eq]
    exact ⟨rfl, rfl, rfl, rfl, rfl, nofun⟩
  | playing =>
    cases isQueue : s.playout.queue with
    | nil =>
      rw [handOver_of_underflow isState isQueue, handOver_of_underflow (state.trans isState) (queue.trans isQueue), eq]
      exact ⟨rfl, rfl, rfl, rfl, rfl, nofun⟩
    | cons f rest =>
      rw [handOver_of_frame isState isQueue, handOver_of_frame (state.trans isState) (queue.trans isQueue), eq]
      refine ⟨rfl, ?_⟩
      dsimp only
      split
      · exact PathAlike.retry ⟨rfl, rfl, rfl, rfl, nofun⟩ rfl rfl rfl
      · exact ⟨rfl, rfl, rfl, rfl, nofun⟩

end Sys2Proof.Machine

/-! What the held writes of a frame start do to the seats, to live control and to the lines (R24, R57, R73, R77, R132). -/

namespace Sys2Proof.Machine

variable {s : State} {x y z : Line}

/-! ### The displays that a seat's change marks (R31) -/

/-- `y` is `x` but for marks on its boxes. -/
def marked (x y : Line) : Prop :=
  y = { x with boxes := y.boxes } ∧ ∀ (b : Nat) (bx : Box), x.boxes[b]? = some bx → ∃ c, y.boxes[b]? = some c ∧
    c = { bx with displayPending := c.displayPending } ∧ (bx.displayPending = true → c.displayPending = true)

theorem marked_refl (x : Line) : marked x x := ⟨rfl, fun _ bx atB => ⟨bx, atB, rfl, id⟩⟩

theorem marked_trans (first : marked x y) (second : marked y z) : marked x z := by
  obtain ⟨isY, boxes⟩ := first
  obtain ⟨isZ, boxes'⟩ := second
  refine ⟨?_, fun b bx atB => ?_⟩
  · rw [isY] at isZ
    exact isZ
  · obtain ⟨c, atC, isC, stays⟩ := boxes b bx atB
    obtain ⟨d, atD, isD, stays'⟩ := boxes' b c atC
    refine ⟨d, atD, ?_, fun pending => stays' (stays pending)⟩
    rw [isC] at isD
    exact isD

/-- The lines `b` are the lines `a` but for marks on their boxes. -/
def linesMarked (a b : SeatLines) : Prop :=
  b.held = a.held ∧ ∀ (l : Nat) (x : Line), a.lines[l]? = some x → ∃ y, b.lines[l]? = some y ∧ marked x y

theorem linesMarked_refl (a : SeatLines) : linesMarked a a := ⟨rfl, fun _ x atL => ⟨x, atL, marked_refl x⟩⟩

theorem linesMarked_trans {a b c : SeatLines} (first : linesMarked a b) (second : linesMarked b c) :
    linesMarked a c := by
  refine ⟨second.1.trans first.1, fun l x atL => ?_⟩
  obtain ⟨y, atY, xy⟩ := first.2 l x atL
  obtain ⟨z, atZ, yz⟩ := second.2 l y atY
  exact ⟨z, atZ, marked_trans xy yz⟩

theorem markDisplay_linesMarked (l b : Nat) (s : State) : linesMarked s.lines (markDisplay l b s).lines := by
  refine ⟨rfl, fun m x atM => ?_⟩
  rw [markDisplay, setBox, setLine_lines]
  by_cases here : l = m
  · subst here
    refine ⟨{ x with boxes := x.boxes.modify b fun c => { c with displayPending := true } },
      by rw [List.getElem?_modify_eq, atM]; rfl, rfl, fun c bx atC => ?_⟩
    by_cases own : b = c
    · subst own
      exact ⟨{ bx with displayPending := true }, by simp [atC], rfl, fun _ => rfl⟩
    · exact ⟨bx, by simp [own, atC], rfl, id⟩
  · exact ⟨x, (List.getElem?_modify_ne _ _ here).trans atM, marked_refl x⟩

theorem setLanguage_linesMarked (n : Nat) (language : Option Nat) (s : State) :
    linesMarked s.lines (setLanguage n language s).lines := by
  unfold setLanguage
  split
  · exact linesMarked_refl _
  · exact markDisplay_linesMarked _ _ (setSeat n (fun x => { x with language := language }) s)

theorem setVolume_linesMarked (n volume : Nat) (s : State) : linesMarked s.lines (setVolume n volume s).lines := by
  unfold setVolume
  split
  · exact linesMarked_refl _
  · exact markDisplay_linesMarked _ _ (setSeat n (fun x => { x with volume := volume }) s)

theorem applySeatWrites_linesMarked (n : Nat) (ws : List SeatWrite) (s : State) :
    linesMarked s.lines (applySeatWrites n ws s).lines := by
  induction ws generalizing n s with
  | nil => exact linesMarked_refl _
  | cons w ws ih =>
    have language := setLanguage_linesMarked n w.language (setSeat n (fun x => { x with zone := w.zone }) s)
    exact linesMarked_trans (linesMarked_trans language (setVolume_linesMarked _ _ _)) (ih _ _)

theorem applySeatHeld_linesMarked (held : List HeldSeatWrite) (s : State) :
    linesMarked s.lines (applySeatHeld held s).lines := by
  induction held generalizing s with
  | nil => exact linesMarked_refl _
  | cons w rest ih =>
    cases w with
    | language first records => exact ih { s with seats := { s.seats with map := writeAt s.seats.map first records } }
    | seat first records => exact linesMarked_trans (applySeatWrites_linesMarked first records s) (ih _)

theorem moveSeats_linesMarked (list : List Nat) (s : State) : linesMarked s.lines (moveSeats list s).lines := by
  induction list generalizing s with
  | nil => exact linesMarked_refl _
  | cons n rest ih => exact linesMarked_trans (setLanguage_linesMarked n _ s) (ih _)

/-! ### The seat record store's work (R24, R132) -/

/-- The languages that a map enables and makes live-eligible. -/
def eligibleIn (map : List LangEntry) : LanguageMask :=
  BitVec.ofNat 12 (flagBits (map.map fun e => e.enabled && e.liveEligible))

theorem eligible_eq (s : State) : eligible s = eligibleIn s.seats.map := rfl

/-- The seat record store after its held writes and moves. -/
def seatsMoved (x : SeatStore) : SeatStore where
  map := mapAfter x.held x.map
  held := []
  seats := x.seats.mapIdx fun n seat =>
    if n < 96 then seatMoved (mapAfter x.held x.map) (seatWritten x.held n seat) else seatWritten x.held n seat

/-- Segment control after a LANGUAGE write has taken effect (R132). -/
def segmentMasked (x : SeatStore) (g : Segment) : Segment :=
  if languageHeld x.held then { g with
    liveMask := g.liveMask &&& eligibleIn (mapAfter x.held x.map)
    heldMask := g.heldMask &&& eligibleIn (mapAfter x.held x.map) } else g

theorem seatFrameWork_eq (s : State) : ∃ lines, seatFrameWork s =
    { s with seats := seatsMoved s.seats, lines := lines, segment := segmentMasked s.seats s.segment } ∧
      linesMarked s.lines lines := by
  have taken : SeatFrame s { s with seats := { s.seats with held := [] } } := ⟨rfl, slotsFrom_refl _⟩
  have frame := ((taken.trans (applySeatHeld_seatFrame s.seats.held _)).trans
    (moveSeats_seatFrame (List.range 96) _)).frame
  have seats := seatsMoved_seats s
  have lines := linesMarked_trans (applySeatHeld_linesMarked s.seats.held { s with seats := { s.seats with held := [] } })
    (moveSeats_linesMarked (List.range 96) _)
  unfold seatFrameWork
  dsimp only
  generalize moveSeats (List.range 96)
    (applySeatHeld s.seats.held { s with seats := { s.seats with held := [] } }) = v at frame seats lines ⊢
  refine ⟨v.lines, ?_, lines⟩
  rw [frame, seats, segmentMasked]
  split <;> rfl

theorem languageHeld_iff {held : List HeldSeatWrite} :
    languageHeld held = true ↔ ∃ first records, .language first records ∈ held := by
  rw [languageHeld, List.any_eq_true]
  constructor
  · rintro ⟨w, inside, own⟩
    cases w with
    | language first records => exact ⟨first, records, inside⟩
    | seat first records => nomatch own
  · rintro ⟨first, records, inside⟩
    exact ⟨_, inside, rfl⟩

/-! ### The lines' held writes (R57, R77) -/

/-- A line after SEAT-LINE records, in their order. -/
def lineWritten (ws : List LineWrite) (x : Line) : Line := ws.foldl (fun y w => takeLineWrite w y) x

theorem applyLineRecords_getElem? (first : Nat) (ws : List LineWrite) (s : State) (l : Nat) :
    (applyLineRecords first ws s).lines.lines[l]? =
      s.lines.lines[l]?.map fun x => (recordFor first ws l).elim x fun w => takeLineWrite w x := by
  induction ws generalizing first s with
  | nil =>
    have none : recordFor first ([] : List LineWrite) l = none := by unfold recordFor; split <;> rfl
    rw [applyLineRecords, none]
    exact Option.map_id'.symm
  | cons w ws ih =>
    rw [applyLineRecords, ih, recordFor_cons, setLine_lines, List.getElem?_modify]
    cases s.lines.lines[l]? with
    | none => rfl
    | some x =>
      by_cases here : l = first
      · subst here
        have behind : recordFor (l + 1) ws l = none := if_neg (by omega)
        simp [behind]
      · simp [here, Ne.symm here]

theorem applyLineHeld_getElem? (held : List (Nat × List LineWrite)) (s : State) (l : Nat) :
    (applyLineHeld held s).lines.lines[l]? = s.lines.lines[l]?.map (lineWritten (lineRecords held l)) := by
  induction held generalizing s with
  | nil => exact Option.map_id'.symm
  | cons w rest ih =>
    obtain ⟨first, records⟩ := w
    rw [applyLineHeld, ih, applyLineRecords_getElem?, Option.map_map]
    refine congrArg (fun f => Option.map f s.lines.lines[l]?) (funext fun x => ?_)
    cases record : recordFor first records l <;> simp [lineRecords, record, lineWritten]

theorem applyLineHeld_eq (held : List (Nat × List LineWrite)) (s : State) : applyLineHeld held s =
    { s with lines := { s.lines with lines := (applyLineHeld held s).lines.lines } } := by
  have records (first : Nat) (ws : List LineWrite) (s : State) : applyLineRecords first ws s =
      { s with lines := { s.lines with lines := (applyLineRecords first ws s).lines.lines } } := by
    induction ws generalizing first s with
    | nil => rfl
    | cons w ws ih => exact ih _ _
  induction held generalizing s with
  | nil => rfl
  | cons w rest ih =>
    obtain ⟨first, ws⟩ := w
    rw [applyLineHeld]
    refine (ih _).trans ?_
    rw [records first ws s]

/-- A line that has just been woken: AWAKE, its quiet timer restarted, and a round at address 0. -/
def justWoken (x : Line) : Prop :=
  x.state = .awake ∧ x.quiet = some (Config.ms 60000) ∧ x.roundNext = 0 ∧ x.transaction = none

theorem takeLineWrite_awake (w : LineWrite) (awake : x.state = .awake) : (takeLineWrite w x).state = .awake := by
  unfold takeLineWrite
  dsimp only
  split
  · exact awake
  · split
    · rfl
    · split <;> exact awake

theorem takeLineWrite_justWoken (w : LineWrite) (woken : justWoken x) : justWoken (takeLineWrite w x) := by
  obtain ⟨awake, quiet, next, none⟩ := woken
  unfold takeLineWrite
  dsimp only
  split
  · exact ⟨awake, quiet, next, none⟩
  · split
    · exact ⟨rfl, rfl, rfl, rfl⟩
    · split
      · exact ⟨awake, rfl, next, none⟩
      · exact ⟨awake, quiet, next, none⟩

theorem takeLineWrite_fields (w : LineWrite) (x : Line) : (takeLineWrite w x).mode = w.mode ∧
    (takeLineWrite w x).sleepEnable = w.sleepEnable ∧ (takeLineWrite w x).boxes = x.boxes := by
  unfold takeLineWrite
  dsimp only
  split
  · exact ⟨rfl, rfl, rfl⟩
  · split
    · exact ⟨rfl, rfl, rfl⟩
    · split <;> exact ⟨rfl, rfl, rfl⟩

theorem takeLineWrite_asleep {w : LineWrite} (enabled : w.sleepEnable = true) :
    takeLineWrite w x = { x with mode := w.mode, sleepEnable := w.sleepEnable } := if_pos enabled

/-- A NO wakes a SLEEPING line (R77). -/
theorem takeLineWrite_wakes {w : LineWrite} (no : w.sleepEnable = false) (asleep : x.state = .sleeping) :
    justWoken (takeLineWrite w x) := by
  rw [takeLineWrite, no, asleep]
  exact ⟨rfl, rfl, rfl, rfl⟩

theorem lineWritten_justWoken (ws : List LineWrite) (woken : justWoken x) : justWoken (lineWritten ws x) := by
  induction ws generalizing x with
  | nil => exact woken
  | cons w ws ih => exact ih (takeLineWrite_justWoken w woken)

theorem lineWritten_fields (ws : List LineWrite) (x : Line) :
    (lineWritten ws x).mode = (ws.getLast?.map LineWrite.mode).getD x.mode ∧
      (lineWritten ws x).sleepEnable = (ws.getLast?.map LineWrite.sleepEnable).getD x.sleepEnable ∧
      (lineWritten ws x).boxes = x.boxes := by
  induction ws generalizing x with
  | nil => exact ⟨rfl, rfl, rfl⟩
  | cons w ws ih =>
    obtain ⟨mode, sleep, boxes⟩ := takeLineWrite_fields w x
    obtain ⟨mode', sleep', boxes'⟩ := ih (takeLineWrite w x)
    rw [mode] at mode'
    rw [sleep] at sleep'
    rw [List.getLast?_cons]
    cases last : ws.getLast? with
    | none =>
      rw [last] at mode' sleep'
      exact ⟨mode', sleep', boxes'.trans boxes⟩
    | some v =>
      rw [last] at mode' sleep'
      exact ⟨mode', sleep', boxes'.trans boxes⟩

theorem lineWritten_awake (ws : List LineWrite) (awake : x.state = .awake) : (lineWritten ws x).state = .awake := by
  induction ws generalizing x with
  | nil => exact awake
  | cons w ws ih => exact ih (takeLineWrite_awake w awake)

/-- A SLEEPING line sleeps on where no record says NO, and is woken otherwise. -/
theorem lineWritten_asleep (ws : List LineWrite) (asleep : x.state = .sleeping) :
    ((∀ w ∈ ws, w.sleepEnable = true) → (lineWritten ws x).state = .sleeping) ∧
      (¬ (∀ w ∈ ws, w.sleepEnable = true) → justWoken (lineWritten ws x)) := by
  induction ws generalizing x with
  | nil => exact ⟨fun _ => asleep, fun no => absurd nofun no⟩
  | cons w ws ih =>
    cases enabled : w.sleepEnable with
    | true =>
      obtain ⟨stays, wakes⟩ := ih (x := takeLineWrite w x) (by rw [takeLineWrite_asleep enabled]; exact asleep)
      rw [List.forall_mem_cons, enabled]
      exact ⟨fun all => stays all.2, fun no => wakes fun all => no ⟨rfl, all⟩⟩
    | false =>
      rw [List.forall_mem_cons, enabled]
      exact ⟨fun all => absurd all.1 Bool.false_ne_true, fun _ => lineWritten_justWoken ws (takeLineWrite_wakes enabled asleep)⟩

theorem lineWritten_state (ws : List LineWrite) (x : Line) : (lineWritten ws x).state =
    if x.state = .sleeping ∧ ∀ w ∈ ws, w.sleepEnable = true then .sleeping else .awake := by
  cases state : x.state with
  | awake => exact lineWritten_awake ws state
  | sleeping =>
    obtain ⟨stays, wakes⟩ := lineWritten_asleep ws state
    by_cases all : ∀ w ∈ ws, w.sleepEnable = true
    · rw [if_pos ⟨rfl, all⟩, stays all]
    · rw [if_neg fun both => all both.2, (wakes all).1]

/-! ### The displays (R73) -/

theorem showBoxes_getElem? (s : State) (l first : Nat) (boxes : List Box) (i : Nat) :
    (showBoxes s l first boxes)[i]? =
      boxes[i]?.map (showOn s.route.requested.isSome (iconValue l (first + i) s)) := by
  induction boxes generalizing first i with
  | nil => rfl
  | cons b rest ih =>
    cases i with
    | zero => rfl
    | succ i =>
      rw [showBoxes, List.getElem?_cons_succ, List.getElem?_cons_succ, ih, Nat.add_right_comm first 1 i, Nat.add_assoc]

theorem showLines_getElem? (s : State) (first : Nat) (lines : List Line) (i : Nat) :
    (showLines s first lines)[i]? =
      lines[i]?.map fun x => { x with boxes := showBoxes s (first + i) 0 x.boxes } := by
  induction lines generalizing first i with
  | nil => rfl
  | cons x rest ih =>
    cases i with
    | zero => rfl
    | succ i =>
      rw [showLines, List.getElem?_cons_succ, List.getElem?_cons_succ, ih, Nat.add_right_comm first 1 i, Nat.add_assoc]

theorem showOn_fields (lamp icon : Bool) (bx : Box) : (showOn lamp icon bx).lamp = lamp ∧
    (showOn lamp icon bx).icon = icon ∧
    (bx.displayPending = true ∨ lamp ≠ bx.lamp ∨ icon ≠ bx.icon → (showOn lamp icon bx).displayPending = true) := by
  unfold showOn
  split
  · next same =>
    rw [Bool.and_eq_true, decide_eq_true_iff, decide_eq_true_iff] at same
    refine ⟨same.1, same.2, fun reason => ?_⟩
    rcases reason with pending | lampDiffers | iconDiffers
    · exact pending
    · exact absurd same.1.symm lampDiffers
    · exact absurd same.2.symm iconDiffers
  · exact ⟨rfl, rfl, fun _ => rfl⟩

end Sys2Proof.Machine

/-! The work of a frame start from the held writes to the lines' displays, block by block (R11, R24, R44, R57, R73, R157). -/

namespace Sys2Proof.Machine

variable {s t u : State} {z : Nat} {x : Zone}

/-! ### The mix engine's held writes -/

theorem applyMixHeld_congr (held : List HeldMixWrite) (same : t.mix = s.mix) :
    (applyMixHeld held t).2 = (applyMixHeld held s).2 := by
  induction held generalizing s t with
  | nil => rfl
  | cons w ws ih =>
    have zones : (applyMixWrite w t).2 = (applyMixWrite w s).2 := by cases w <;> simp [applyMixWrite, same]
    rw [applyMixHeld, applyMixHeld, zones, ih (s := (applyMixWrite w s).1) (t := (applyMixWrite w t).1)]
    rw [applyMixWrite_state, applyMixWrite_state, same]

theorem retargetZones_congr (list : List Nat) (mix : t.mix = s.mix) (sense : t.sense = s.sense) :
    (retargetZones list t).mix = (retargetZones list s).mix := by
  induction list generalizing s t with
  | nil => exact mix
  | cons z rest ih =>
    refine ih ?_ sense
    have target : presentTarget t = presentTarget s :=
      funext fun x => presentTarget_congr sense (congrArg MixEngine.bands mix) x
    rw [setZone_mix, setZone_mix, mix, target]

/-- The mix engine's work reads the engine and the sense unit alone. -/
theorem mixFrameWrites_congr (mix : t.mix = s.mix) (sense : t.sense = s.sense) :
    (mixFrameWrites t).mix = (mixFrameWrites s).mix := by
  have emptied : (heldEmptied t).mix = (heldEmptied s).mix := by
    change { t.mix with held := [] } = { s.mix with held := [] }
    rw [mix]
  have applied : (applyMixHeld t.mix.held (heldEmptied t)).1.mix = (applyMixHeld s.mix.held (heldEmptied s)).1.mix := by
    rw [applyMixHeld_state, applyMixHeld_state, emptied, mix]
  have unsensed : (applyMixHeld t.mix.held (heldEmptied t)).1.sense =
      (applyMixHeld s.mix.held (heldEmptied s)).1.sense := by
    rw [applyMixHeld_state, applyMixHeld_state]
    exact sense
  rw [mixFrameWrites_eq, mixFrameWrites_eq, mix, applyMixHeld_congr s.mix.held emptied]
  rw [mix] at applied unsensed
  exact retargetZones_congr _ applied unsensed

/-- A field of a zone that no target is part of stands at a retargeting. -/
theorem retargetZones_field {α : Type} (field : Zone → α) (keeps : ∀ x n, field { x with target := n } = field x)
    (list : List Nat) (s : State) : (retargetZones list s).mix.zones.map field = s.mix.zones.map field := by
  induction list generalizing s with
  | nil => rfl
  | cons z rest ih =>
    rw [retargetZones, ih, setZone_mix]
    refine List.ext_getElem? fun i => ?_
    rw [List.getElem?_map, List.getElem?_map, List.getElem?_modify]
    cases s.mix.zones[i]? with
    | none => rfl
    | some x => by_cases here : z = i <;> simp [here, keeps]

/-- The generator and the held writes do not enter the tables. -/
theorem foldl_mixWritten_apart (writes : List HeldMixWrite) (m : MixEngine) (g : Option Sequence)
    (held : List HeldMixWrite) : writes.foldl mixWritten { m with generator := g, held := held } =
      { writes.foldl mixWritten m with generator := g, held := held } := by
  induction writes generalizing m with
  | nil => rfl
  | cons w rest ih =>
    have one : mixWritten { m with generator := g, held := held } w =
        { mixWritten m w with generator := g, held := held } := by cases w <;> rfl
    rw [List.foldl_cons, one, ih, List.foldl_cons]

/-- The tables after the held writes of a frame start (R36 to R40, R52), but for the zones' targets. -/
theorem mixFrameWrites_tables (s : State) {m : MixEngine} (isM : m = s.mix.held.foldl mixWritten s.mix) :
    (mixFrameWrites s).mix = { m with
      generator := s.mix.generator, held := [], zones := (mixFrameWrites s).mix.zones } ∧
    (mixFrameWrites s).mix.zones.map Zone.source = m.zones.map Zone.source ∧
    (mixFrameWrites s).mix.zones.map Zone.clipNotice = m.zones.map Zone.clipNotice := by
  subst isM
  have state := applyMixHeld_state s.mix.held (heldEmptied s)
  have apart : s.mix.held.foldl mixWritten (heldEmptied s).mix =
      { s.mix.held.foldl mixWritten s.mix with generator := s.mix.generator, held := [] } :=
    foldl_mixWritten_apart s.mix.held s.mix s.mix.generator []
  rw [apart] at state
  have frame := (retargetZones_eq (applyMixHeld s.mix.held (heldEmptied s)).2
    (applyMixHeld s.mix.held (heldEmptied s)).1).1
  have source := retargetZones_field Zone.source (fun _ _ => rfl) (applyMixHeld s.mix.held (heldEmptied s)).2
    (applyMixHeld s.mix.held (heldEmptied s)).1
  have notice := retargetZones_field Zone.clipNotice (fun _ _ => rfl) (applyMixHeld s.mix.held (heldEmptied s)).2
    (applyMixHeld s.mix.held (heldEmptied s)).1
  rw [← mixFrameWrites_eq, state] at frame source notice
  exact ⟨(congrArg State.mix frame).trans rfl, source, notice⟩

/-! ### The zone steps and the mix -/

theorem slewStep_others (slew : Nat) (x : Zone) :
    (slewStep slew x).source = x.source ∧ (slewStep slew x).clipNotice = x.clipNotice := by
  rw [slewStep_blocks]
  exact ⟨rfl, rfl⟩

/-- The zone steps keep each zone's source and its notice setting. -/
theorem zoneSteps_fields (s : State) : (zoneSteps s).mix.zones.map Zone.source = s.mix.zones.map Zone.source ∧
    (zoneSteps s).mix.zones.map Zone.clipNotice = s.mix.zones.map Zone.clipNotice := by
  have step (i : Nat) : (zoneSteps s).mix.zones[i]? = s.mix.zones[i]?.map fun x =>
      duckStep s.mix.params (pathCovers s i) (slewStep s.mix.params.noiseSlew x) := by
    rw [← Nat.zero_add i]
    exact (Nat.zero_add i).symm ▸ stepZones_getElem? s 0 s.mix.zones i
  constructor
  · refine List.ext_getElem? fun i => ?_
    rw [List.getElem?_map, List.getElem?_map, step, Option.map_map]
    cases s.mix.zones[i]? with
    | none => rfl
    | some x => exact congrArg some (slewStep_others _ x).1
  · refine List.ext_getElem? fun i => ?_
    rw [List.getElem?_map, List.getElem?_map, step, Option.map_map]
    cases s.mix.zones[i]? with
    | none => rfl
    | some x => exact congrArg some (slewStep_others _ x).2

/-- A field of a zone that is not the clip flag stands at a saturation. -/
theorem saturateAll_field {α : Type} (field : Zone → α) (keeps : ∀ x, field { x with clip := true } = field x)
    (hits : List (Option Nat)) (s : State) :
    (saturateAll hits s).mix.zones.map field = s.mix.zones.map field := by
  induction hits generalizing s with
  | nil => rfl
  | cons hit rest ih =>
    cases hit with
    | none => exact ih s
    | some z =>
      rw [saturateAll, ih]
      cases atZ : s.mix.zones[z]? with
      | none => rw [saturate_of_none atZ]
      | some zone =>
        rw [saturate_of_zone atZ]
        refine List.ext_getElem? fun i => ?_
        rw [List.getElem?_map, List.getElem?_map, List.getElem?_modify]
        cases s.mix.zones[i]? with
        | none => rfl
        | some x => by_cases here : z = i <;> simp [here, keeps]

/-- The generator's use stands while it plays. -/
theorem playChime_use (s : State) : ∃ g, (playChime s).2 = { s with mix := { s.mix with generator := g } } ∧
    g.map Sequence.use = s.mix.generator.map Sequence.use := by
  unfold playChime
  split
  · next idle => exact ⟨s.mix.generator, rfl, rfl⟩
  · next q plays =>
    split
    · exact ⟨s.mix.generator, rfl, rfl⟩
    · refine ⟨_, rfl, ?_⟩
      rw [plays, Option.map_some, Option.map_some]
      unfold afterFrame
      split <;> rfl

/-- What the mix of a frame changes (R44, R51). -/
theorem mixFrame_blocks (frame : List KeptBlock) (s : State) : ∃ g zones manage, mixFrame frame s = { s with
      mix := { s.mix with generator := g, zones := zones }
      lines := { s.lines with
        lines := fillSlots ((mixSeats s frame (playChime s).1 0 s.seats.seats).map Prod.fst) s.lines.lines }
      manage := manage } ∧
    g.map Sequence.use = s.mix.generator.map Sequence.use ∧ manage.requests = s.manage.requests ∧
    ∀ {α : Type} (field : Zone → α), (∀ x, field { x with clip := true } = field x) →
      zones.map field = s.mix.zones.map field := by
  obtain ⟨g, after, use⟩ := playChime_use s
  have mixed : mixFrame frame s = saturateAll (saturatedZones frame s) (framePlayed frame g s) := by
    rw [mixFrame, after]
    rfl
  obtain ⟨clipped, _, told, _⟩ := saturateAll_clipsTold (saturatedZones frame s) (framePlayed frame g s)
  refine ⟨g, _, _, mixed.trans (saturateAll_blocks _ _), use, ?_, fun field keeps => saturateAll_field field keeps _ _⟩
  rw [told]
  exact (notifyAll_pathFrame _ _).requests

/-! ### What the path shows (R42, R73) -/

/-- The path entry and the generator's use decide what the path shows. -/
theorem zoneShown_congr (announce : t.announce.path = s.announce.path)
    (use : t.mix.generator.map Sequence.use = s.mix.generator.map Sequence.use) : zoneShown t z ↔ zoneShown s z := by
  have plays (v : State) (mask : ZoneMask) : (∃ q, v.mix.generator = some q ∧ q.use = .announcement none mask) ↔
      v.mix.generator.map Sequence.use = some (.announcement none mask) := by
    rw [Option.map_eq_some_iff]
  have shown (v : State) : zoneShown v z ↔
      (∃ e, v.announce.path = some e ∧ e.state ≠ .chimeOnly ∧ e.mask.getLsbD z = true) ∨
        ∃ mask, (∃ q, v.mix.generator = some q ∧ q.use = .announcement none mask) ∧ mask.getLsbD z = true := by
    refine or_congr_right ⟨fun ⟨q, mask, generator, use, inside⟩ => ⟨mask, ⟨q, generator, use⟩, inside⟩,
      fun ⟨mask, ⟨q, generator, use⟩, inside⟩ => ⟨q, mask, generator, use, inside⟩⟩
  rw [shown, shown]
  simp only [plays, announce, use]

theorem PathAlike.zoneShown (alike : PathAlike False s t) : zoneShown t z ↔ zoneShown s z :=
  zoneShown_congr (congrArg Announcer.path alike.announce) (by rw [alike.mix])

/-! ### Live control's grant (R129) -/

/-- Segment and live control of `t` are those of `s`, but that a REQUESTED live may have been granted with its held mask
by the map in force. -/
def Granted (s t : State) : Prop :=
  t.segment = s.segment ∨ (s.segment.live = .requested ∧ t.segment = { s.segment with
    live := .on, liveMask := s.segment.heldMask &&& eligible s, heldMask := 0 })

namespace Granted

theorem trans (first : Granted s t) (seats : t.seats = s.seats) (second : Granted t u) : Granted s u := by
  have same : eligible t = eligible s := by rw [eligible_eq, seats, eligible_eq]
  rcases first with stays | ⟨requested, granted⟩
  · rw [Granted, ← stays, ← same]
    exact second
  · rcases second with stays | ⟨again, _⟩
    · exact .inr ⟨requested, stays.trans granted⟩
    · rw [granted] at again
      nomatch again

theorem pathFreeReport (s : State) : Granted s (pathFreeReport s) := by
  by_cases requested : s.segment.live = .requested
  · refine .inr ⟨requested, ?_⟩
    rw [pathFreeReport_of_requested requested, grantLive, notify_segment]
  · exact .inl (by rw [pathFreeReport_of_other requested])

theorem afterEnding (s : State) : Granted s (afterEnding s) := by
  have started : (reportAlert (startStep s).1).segment = s.segment := (setAlert_segment _ _).trans (startStep_segment s)
  have seats : (reportAlert (startStep s).1).seats = s.seats :=
    ((startStep_pathFrame s).trans (reportAlert_pathFrame _)).seats
  refine trans (.inl started) seats ?_
  unfold Machine.afterEnding reportIfFree
  split
  · exact .inl rfl
  · exact pathFreeReport _

theorem endChime (s : State) : Granted s (endChime s) := by
  have retired : (retireChime s).1.segment = s.segment ∧ (retireChime s).1.seats = s.seats := by
    unfold retireChime
    split <;> exact ⟨rfl, rfl⟩
  refine trans (.inl retired.1) retired.2 ?_
  unfold Machine.endChime chimeReport chimeEnded
  dsimp only
  split
  · split
    · exact .inl rfl
    · split
      · exact .inl rfl
      · exact trans (t := setPath none (retireChime s).1) (.inl rfl) rfl (afterEnding _)
      · exact .inl rfl
  · exact .inl rfl

theorem endReport (ticket : Option Nat) (s : State) : Granted s (endReport ticket s) := by
  unfold Machine.endReport
  split
  · next n =>
    unfold endReported
    split
    · exact .inl rfl
    · next e _ =>
      split
      · have left : PathFrame s (notify (.clipEnded n e.clip e.cls .endMark) (removePath s)) :=
          (removePath_pathFrame s).trans (notify_pathFrame _ _)
        exact trans (.inl (notify_segment (removePath s) _)) left.seats (afterEnding _)
      · exact .inl rfl
  · exact .inl rfl

end Granted

end Sys2Proof.Machine

/-! The frame start as a whole (R2, R43): its stages, and what each leaves of the state before it. -/

namespace Sys2Proof.Machine

variable {s t h : State} {chimeFirst : Bool} {frame : List KeptBlock} {ticket : Option Nat}

/-! ### A chime's end and an END leave the INDICATOR layer (R147, R157) -/

theorem beginChimeOnly_lighting (e : Entry) (s : State) : (beginChimeOnly e s).1.lighting = s.lighting := by
  unfold beginChimeOnly
  split <;> rfl

theorem startDown_lighting (fuel : Nat) (s : State) : (startDown fuel s).1.lighting = s.lighting := by
  induction fuel generalizing s with
  | zero => rfl
  | succ fuel ih =>
    rw [startDown]
    split
    · rfl
    · split
      · dsimp only
        split
        · rw [ih, beginChimeOnly_lighting, notify_lighting]
          rfl
        · rw [beginChimeOnly_lighting, notify_lighting]
          rfl
      · rfl

theorem startStep_lighting (s : State) : (startStep s).1.lighting = s.lighting := by
  unfold startStep
  split
  · rfl
  · split
    · split
      · rfl
      · rw [startEntry_eq]
        rfl
    · exact startDown_lighting _ s

theorem setAlert_indicator (scene : Option Nat) (s : State) :
    (setAlert scene s).lighting.indicator = s.lighting.indicator := by
  unfold setAlert
  split <;> rfl

theorem afterEnding_indicator (s : State) : (afterEnding s).lighting.indicator = s.lighting.indicator := by
  rw [afterEnding, (PathAlike.reportIfFree _).lighting]
  exact (setAlert_indicator _ _).trans (congrArg Lighting.indicator (startStep_lighting s))

theorem endChime_indicator (s : State) : (endChime s).lighting.indicator = s.lighting.indicator := by
  have retired : (retireChime s).1.lighting = s.lighting := by
    unfold retireChime
    split <;> rfl
  unfold endChime chimeReport chimeEnded
  dsimp only
  split
  · split
    · exact congrArg Lighting.indicator retired
    · split
      · exact congrArg Lighting.indicator retired
      · exact (afterEnding_indicator _).trans (congrArg Lighting.indicator retired)
      · exact congrArg Lighting.indicator retired
  · exact congrArg Lighting.indicator retired

theorem endReport_indicator (ticket : Option Nat) (s : State) :
    (endReport ticket s).lighting.indicator = s.lighting.indicator := by
  unfold endReport
  split
  · next n =>
    unfold endReported
    split
    · rfl
    · next e _ =>
      split
      · rw [afterEnding_indicator, notify_lighting]
        rfl
      · rfl
  · rfl

theorem endChime_pathFrame (s : State) : PathFrame s (endChime s) := by
  have retired : PathFrame s (retireChime s).1 := by
    unfold retireChime
    split <;> exact ⟨rfl, rfl, rfl, rfl, rfl, rfl, rfl, rfl, rfl, rfl, rfl, rfl⟩
  refine retired.trans ?_
  unfold endChime chimeReport
  dsimp only
  split
  · exact chimeEnded_pathFrame _
  · exact .refl _

theorem endReport_pathFrame (ticket : Option Nat) (s : State) : PathFrame s (endReport ticket s) := by
  unfold endReport
  split
  · exact endReported_pathFrame s _
  · exact .refl s

/-! ### The stages -/

/-- The held writes have taken effect. -/
def framePrepared (h : State) : State := mixFrameWrites (lineFrameWork (seatFrameWork h))

/-- The path as the mix reads it (R43). -/
def framePath (chimeFirst : Bool) (h : State) : State :=
  if chimeFirst then endChime (framePrepared h) else framePrepared h

/-- The samples are with the lines. -/
def frameMixed (chimeFirst : Bool) (frame : List KeptBlock) (h : State) : State :=
  mixFrame frame (zoneSteps (framePath chimeFirst h))

/-- The displays and the INDICATOR layer stand. -/
def frameShown (chimeFirst : Bool) (frame : List KeptBlock) (h : State) : State :=
  setIndicator (updateDisplays (frameMixed chimeFirst frame h)).route.requested.isSome
    (updateDisplays (frameMixed chimeFirst frame h))

/-- The chime's end and the END that follow the mix. -/
def frameEnded (chimeFirst : Bool) (frame : List KeptBlock) (h : State) : State :=
  endReport (endTicket frame) (frameWork chimeFirst frame h)

theorem frameWork_eq (chimeFirst : Bool) (frame : List KeptBlock) (h : State) : frameWork chimeFirst frame h =
    if !chimeFirst && chimeOver (framePrepared h) then endChime (frameShown chimeFirst frame h)
    else frameShown chimeFirst frame h := rfl

theorem frameEnded_frame : PathFrame (frameShown chimeFirst frame h) (frameEnded chimeFirst frame h) := by
  rw [frameEnded, frameWork_eq]
  split
  · exact (endChime_pathFrame _).trans (endReport_pathFrame _ _)
  · exact endReport_pathFrame _ _

theorem framePath_frame : PathFrame (framePrepared h) (framePath chimeFirst h) := by
  unfold framePath
  split
  · exact endChime_pathFrame _
  · exact .refl _

/-- What the held writes change (R24, R44, R57). -/
theorem framePrepared_eq (h : State) : ∃ lines, framePrepared h = { h with
      seats := seatsMoved h.seats, segment := segmentMasked h.seats h.segment, lines := lines
      mix := (mixFrameWrites h).mix } ∧
    lines.held = [] ∧ ∀ (l : Nat) (x : Line), h.lines.lines[l]? = some x → ∃ m, marked x m ∧
      lines.lines[l]? = some (lineWritten (lineRecords h.lines.held l) m) := by
  obtain ⟨marks, seats, held, isMarked⟩ := seatFrameWork_eq h
  have written := applyLineHeld_eq marks.held { seatFrameWork h with lines := { marks with held := [] } }
  have work : lineFrameWork (seatFrameWork h) =
      applyLineHeld marks.held { seatFrameWork h with lines := { marks with held := [] } } := by
    rw [seats]
    rfl
  refine ⟨(lineFrameWork (seatFrameWork h)).lines, ?_, ?_, fun l x atL => ?_⟩
  · have mix : (framePrepared h).mix = (mixFrameWrites h).mix := by
      refine mixFrameWrites_congr ?_ ?_ <;> rw [work, written, seats]
    rw [framePrepared, (mixFrameWrites_spec _).1]
    rw [framePrepared] at mix
    rw [mix, work, written, seats]
  · rw [work, written]
  · obtain ⟨m, atM, isMark⟩ := isMarked l x atL
    refine ⟨m, isMark, ?_⟩
    rw [work, applyLineHeld_getElem?, held]
    dsimp only
    rw [atM, Option.map_some]

/-- The mix, after the path (R44, R51). -/
theorem frameMixed_eq (chimeFirst : Bool) (frame : List KeptBlock) (h : State) : ∃ g zones manage slots,
    frameMixed chimeFirst frame h = { framePath chimeFirst h with
      mix := { (framePath chimeFirst h).mix with generator := g, zones := zones }
      lines := { (framePath chimeFirst h).lines with lines := fillSlots slots (framePath chimeFirst h).lines.lines }
      manage := manage } ∧
    g.map Sequence.use = (framePath chimeFirst h).mix.generator.map Sequence.use ∧
    manage.requests = (framePath chimeFirst h).manage.requests ∧
    ∀ {α : Type} (field : Zone → α), (∀ x, field { x with clip := true } = field x) →
      zones.map field = (zoneSteps (framePath chimeFirst h)).mix.zones.map field := by
  obtain ⟨g, zones, manage, mixed, use, requests, fields⟩ := mixFrame_blocks frame (zoneSteps (framePath chimeFirst h))
  exact ⟨g, zones, manage, _, mixed, use, requests, fields⟩

theorem setIndicator_lighting_only (active : Bool) (s : State) :
    setIndicator active s = { s with lighting := (setIndicator active s).lighting } := by
  unfold setIndicator
  split <;> rfl

theorem setIndicator_indicator (active : Bool) (s : State) : (setIndicator active s).lighting.indicator = active := by
  unfold setIndicator
  split
  · next same => exact same
  · rfl

theorem setIndicator_relit (active : Bool) (s : State) :
    relit s.lighting { s.lighting with indicator := active } (setIndicator active s).lighting := by
  by_cases held : s.lighting.indicator = active
  · subst held
    rw [setIndicator, if_pos rfl]
    exact relit_refl _
  · rw [setIndicator, if_neg held]
    exact relit_resolve (fun same => held (congrArg Lighting.indicator same).symm) rfl

/-- The displays stand on the mix. -/
theorem frameShown_eq (chimeFirst : Bool) (frame : List KeptBlock) (h : State) : frameShown chimeFirst frame h =
    { frameMixed chimeFirst frame h with
      lines := { (frameMixed chimeFirst frame h).lines with
        lines := showLines (frameMixed chimeFirst frame h) 0 (frameMixed chimeFirst frame h).lines.lines }
      lighting := (frameShown chimeFirst frame h).lighting } :=
  setIndicator_lighting_only _ _

end Sys2Proof.Machine

/-! What a frame start makes of each block (R2, R11 to R14, R24, R42, R44, R57, R73, R132, R157), from its stages. -/

namespace Sys2Proof.Machine

variable {s t h : State} {chimeFirst : Bool} {frame : List KeptBlock} {l z : Nat} {x : Line}

/-! ### The default language (R18, R24) -/

/-- A search stops at the first entry that passes. -/
theorem findFrom_before {α : Type} {p : α → Bool} {first i : Nat} {list : List α}
    (found : findFrom p first list = some (first + i)) {j : Nat} {c : α} (before : j < i) (atJ : list[j]? = some c) :
    p c = false := by
  induction list generalizing first i j with
  | nil => nomatch atJ
  | cons d rest ih =>
    rw [findFrom] at found
    split at found
    · have own := Option.some.inj found
      omega
    · next fails =>
      cases j with
      | zero =>
        obtain rfl := Option.some.inj atJ
        exact Bool.eq_false_iff.2 fails
      | succ j =>
        obtain ⟨k, rfl⟩ : ∃ k, i = k + 1 := ⟨i - 1, by omega⟩
        exact ih (i := k) (found.trans (congrArg some (by omega))) (by omega) atJ

theorem findFrom_fails {α : Type} {p : α → Bool} {first : Nat} {list : List α}
    (nowhere : findFrom p first list = Option.none) : ∀ c ∈ list, p c = false := by
  induction list generalizing first with
  | nil => exact fun _ inside => nomatch inside
  | cons d rest ih =>
    rw [findFrom] at nowhere
    split at nowhere
    · nomatch nowhere
    · next fails => exact List.forall_mem_cons.2 ⟨Bool.eq_false_iff.2 fails, ih nowhere⟩

theorem defaultLanguage_defaultOf (map : List LangEntry) : defaultOf map (defaultLanguage map) := by
  have at0 {p : LangEntry → Bool} {i : Nat} (found : findFrom p 0 map = some i) : ∃ e, map[i]? = some e ∧ p e = true ∧
      ∀ j f, j < i → map[j]? = some f → p f = false := by
    obtain ⟨k, e, same, atK, passes⟩ := findFrom_eq_some found
    obtain rfl : i = k := same.trans (Nat.zero_add k)
    exact ⟨e, atK, passes, fun j f before atJ => findFrom_before (found.trans (congrArg some same)) before atJ⟩
  unfold defaultLanguage
  split
  · next i found =>
    obtain ⟨e, atI, passes, before⟩ := at0 found
    obtain ⟨enabled, isDefault⟩ := Bool.and_eq_true_iff.1 passes
    refine .inl ⟨i, e, rfl, atI, enabled, .inl ⟨isDefault, fun j f below atJ enabledJ => ?_⟩⟩
    have fails := before j f below atJ
    rwa [enabledJ, Bool.true_and] at fails
  · next nowhere =>
    have others := findFrom_fails nowhere
    cases found : findFrom LangEntry.enabled 0 map with
    | none => exact .inr ⟨rfl, findFrom_fails found⟩
    | some i =>
      obtain ⟨e, atI, enabled, before⟩ := at0 found
      refine .inl ⟨i, e, rfl, atI, enabled, .inr ⟨fun f inside enabledF => ?_, before⟩⟩
      have fails := others f inside
      rwa [enabledF, Bool.true_and] at fails

theorem seatMoved_movedTo (map : List LangEntry) (x : Seat) : seatMoved map x = movedTo map (defaultLanguage map) x := by
  unfold seatMoved movedTo
  cases x.language with
  | none => rfl
  | some i =>
    refine congrArg (fun own => { x with language := own }) ?_
    rw [movedLanguage, languageEnabled]
    dsimp only
    cases map[i]? with
    | none => rfl
    | some e => simp

/-- The seats after the moves of a frame start (R24). -/
theorem seatsMoved_movedTo {store : SeatStore} (full : store.seats.length = 96) : (seatsMoved store).seats =
    store.seats.mapIdx fun n x => movedTo (mapAfter store.held store.map)
      (defaultLanguage (mapAfter store.held store.map)) (seatWritten store.held n x) := by
  refine List.ext_getElem? fun n => ?_
  rw [seatsMoved, List.getElem?_mapIdx, List.getElem?_mapIdx]
  cases atN : store.seats[n]? with
  | none => rfl
  | some x =>
    have inside : n < 96 := full ▸ (List.getElem?_eq_some_iff.1 atN).1
    rw [Option.map_some, Option.map_some, if_pos inside, seatMoved_movedTo]

/-! ### The blocks behind the seats, the lines and the mix -/

/-- What a frame start's work leaves of the state it begins from, and the seats and the INDICATOR layer it makes. -/
structure FrameKept (h e : State) : Prop where
  link : e.link = h.link
  playout : e.playout = h.playout
  sense : e.sense = h.sense
  clockPhase : e.clockPhase = h.clockPhase
  requests : e.manage.requests = h.manage.requests
  route : e.route = h.route
  seats : e.seats = seatsMoved h.seats

theorem framePrepared_kept (h : State) : FrameKept h (framePrepared h) := by
  obtain ⟨lines, eq, _⟩ := framePrepared_eq h
  rw [eq]
  exact ⟨rfl, rfl, rfl, rfl, rfl, rfl, rfl⟩

theorem FrameKept.behind {e e' : State} (kept : FrameKept h e) (path : PathFrame e e') : FrameKept h e' :=
  ⟨path.link.trans kept.link, path.playout.trans kept.playout, path.sense.trans kept.sense,
    path.clockPhase.trans kept.clockPhase, path.requests.trans kept.requests, path.route.trans kept.route,
    path.seats.trans kept.seats⟩

theorem frameMixed_kept (chimeFirst : Bool) (frame : List KeptBlock) (h : State) :
    FrameKept h (frameMixed chimeFirst frame h) := by
  obtain ⟨g, zones, manage, slots, eq, _, requests, _⟩ := frameMixed_eq chimeFirst frame h
  have path := (framePrepared_kept h).behind (framePath_frame (chimeFirst := chimeFirst))
  rw [eq]
  exact ⟨path.link, path.playout, path.sense, path.clockPhase, requests.trans path.requests, path.route, path.seats⟩

theorem frameShown_kept (chimeFirst : Bool) (frame : List KeptBlock) (h : State) :
    FrameKept h (frameShown chimeFirst frame h) := by
  have mixed := frameMixed_kept chimeFirst frame h
  rw [frameShown_eq]
  exact ⟨mixed.link, mixed.playout, mixed.sense, mixed.clockPhase, mixed.requests, mixed.route, mixed.seats⟩

theorem frameEnded_kept (chimeFirst : Bool) (frame : List KeptBlock) (h : State) :
    FrameKept h (frameEnded chimeFirst frame h) := (frameShown_kept chimeFirst frame h).behind frameEnded_frame

/-- The INDICATOR layer follows the requested stop (R157). -/
theorem frameEnded_indicator (chimeFirst : Bool) (frame : List KeptBlock) (h : State) :
    (frameEnded chimeFirst frame h).lighting.indicator = h.route.requested.isSome := by
  have shown : (frameShown chimeFirst frame h).lighting.indicator = h.route.requested.isSome := by
    rw [frameShown, setIndicator_indicator]
    exact congrArg (fun r => r.requested.isSome) (frameMixed_kept chimeFirst frame h).route
  rw [frameEnded, endReport_indicator, frameWork_eq]
  split
  · rw [endChime_indicator, shown]
  · exact shown

/-! ### The mix engine -/

theorem framePath_mix (chimeFirst : Bool) (h : State) :
    ∃ g, (framePath chimeFirst h).mix = { (mixFrameWrites h).mix with generator := g } := by
  obtain ⟨lines, eq, _⟩ := framePrepared_eq h
  refine ⟨(framePath chimeFirst h).mix.generator, (framePath_frame (chimeFirst := chimeFirst)).mix.trans ?_⟩
  rw [eq]

/-- The mix engine after the frame start: the tables of the held writes, and zones that have taken their steps. -/
theorem frameEnded_mix (chimeFirst : Bool) (frame : List KeptBlock) (h : State) : ∃ g zones,
    (frameEnded chimeFirst frame h).mix = { (mixFrameWrites h).mix with generator := g, zones := zones } ∧
    ∀ {α : Type} (field : Zone → α), (∀ x, field { x with clip := true } = field x) →
      zones.map field = (zoneSteps (framePath chimeFirst h)).mix.zones.map field := by
  obtain ⟨g, zones, manage, slots, eq, _, _, fields⟩ := frameMixed_eq chimeFirst frame h
  obtain ⟨own, path⟩ := framePath_mix chimeFirst h
  refine ⟨(frameEnded chimeFirst frame h).mix.generator, zones, (frameEnded_frame (chimeFirst := chimeFirst) (frame := frame)).mix.trans ?_, fields⟩
  rw [frameShown_eq, eq, path]

theorem frameEnded_tables (chimeFirst : Bool) (frame : List KeptBlock) (h : State) {m : MixEngine}
    (isM : m = h.mix.held.foldl mixWritten h.mix) {e : State} (isE : e = frameEnded chimeFirst frame h) :
    e.mix.curve = m.curve ∧ e.mix.params = m.params ∧ e.mix.classes = m.classes ∧ e.mix.bands = m.bands ∧
      e.mix.chimes = m.chimes ∧ e.mix.zones.map Zone.source = m.zones.map Zone.source ∧
      e.mix.zones.map Zone.clipNotice = m.zones.map Zone.clipNotice ∧ e.mix.held = [] := by
  obtain ⟨g, zones, eq, fields⟩ := frameEnded_mix chimeFirst frame h
  obtain ⟨own, path⟩ := framePath_mix chimeFirst h
  obtain ⟨tables, source, notice⟩ := mixFrameWrites_tables h isM
  obtain ⟨stepSource, stepNotice⟩ := zoneSteps_fields (framePath chimeFirst h)
  have pathZones : (framePath chimeFirst h).mix.zones = (mixFrameWrites h).mix.zones := by rw [path]
  rw [pathZones] at stepSource stepNotice
  subst isE
  rw [eq]
  dsimp only
  refine ⟨?_, ?_, ?_, ?_, ?_, ((fields Zone.source fun _ => rfl).trans stepSource).trans source,
    ((fields Zone.clipNotice fun _ => rfl).trans stepNotice).trans notice, (mixFrameWrites_spec h).2.2.1⟩ <;> rw [tables]

/-- The duck attenuation of a zone moves by what the path shows to the mix (R42). -/
theorem frameEnded_duck (chimeFirst : Bool) (frame : List KeptBlock) {h e : State}
    (isE : e = frameEnded chimeFirst frame h) {x : Zone} (atZ : h.mix.zones[z]? = some x) :
    ∃ y, e.mix.zones[z]? = some y ∧
      (zoneShown (framePath chimeFirst h) z → duckMoves e.mix.params x.duck (-(e.mix.params.duckDepth : Int)) y.duck) ∧
      (¬ zoneShown (framePath chimeFirst h) z → duckMoves e.mix.params x.duck 0 y.duck) := by
  obtain ⟨g, zones, eq, fields⟩ := frameEnded_mix chimeFirst frame h
  obtain ⟨own, path⟩ := framePath_mix chimeFirst h
  obtain ⟨_, ducks, _⟩ := mixFrameWrites_spec h
  have written : (mixFrameWrites h).mix.zones[z]?.map Zone.duck = some x.duck := by
    rw [← List.getElem?_map, ducks, List.getElem?_map, atZ, Option.map_some]
  obtain ⟨w, atW, wDuck⟩ := Option.map_eq_some_iff.1 written
  have stepped := zoneSteps_zone (s := framePath chimeFirst h) (z := z) (x := w) (by rw [path]; exact atW)
  have final : zones[z]?.map Zone.duck = (zoneSteps (framePath chimeFirst h)).mix.zones[z]?.map Zone.duck := by
    rw [← List.getElem?_map, fields Zone.duck fun _ => rfl, List.getElem?_map]
  rw [stepped] at final
  obtain ⟨y, atY, yDuck⟩ := Option.map_eq_some_iff.1 final
  have params : (framePath chimeFirst h).mix.params = e.mix.params := by
    rw [isE, eq, path]
  rw [params] at yDuck
  refine ⟨y, by rw [isE, eq]; exact atY, fun shown clamped isClamped => ?_, fun hidden clamped isClamped => ?_⟩
  · rw [yDuck]
    refine duckStep_duck _ _ _ (if_pos (zoneShown_iff.2 shown)).symm ?_
    rw [slewStep_duck, wDuck]
    exact isClamped
  · rw [yDuck]
    refine duckStep_duck _ _ _ (if_neg fun yes => hidden (zoneShown_iff.1 yes)).symm ?_
    rw [slewStep_duck, wDuck]
    exact isClamped

/-! ### The path that the mix and the displays read (R42, R43, R73) -/

theorem framePrepared_alike (h : State) : PathAlike False (mixFrameWrites h) (framePrepared h) := by
  obtain ⟨lines, eq, _⟩ := framePrepared_eq h
  rw [eq, (mixFrameWrites_spec h).1]
  exact ⟨rfl, rfl, rfl, rfl, nofun⟩

/-- The mix reads the path that the handover's state shows, after a chime's end or before it. -/
theorem framePath_zoneShown {p : State} (alike : PathAlike False s h) (sense : h.sense = s.sense)
    (isP : p = if chimeFirst then endChime (mixFrameWrites s) else s) :
    zoneShown (framePath chimeFirst h) z ↔ zoneShown p z := by
  have written : PathAlike False (mixFrameWrites s) (framePrepared h) := by
    refine .trans ⟨?_, ?_, mixFrameWrites_congr alike.mix sense, ?_, nofun⟩ (framePrepared_alike h)
    · rw [(mixFrameWrites_spec h).1, (mixFrameWrites_spec s).1]
      exact alike.link
    · rw [(mixFrameWrites_spec h).1, (mixFrameWrites_spec s).1]
      exact alike.announce
    · rw [(mixFrameWrites_spec h).1, (mixFrameWrites_spec s).1]
      exact alike.lighting
  cases chimeFirst with
  | true =>
    rw [isP]
    exact written.endChime.zoneShown
  | false =>
    obtain rfl : p = s := isP
    refine written.zoneShown.trans (zoneShown_congr ?_ ?_)
    · rw [(mixFrameWrites_spec p).1]
    · rw [(mixFrameWrites_spec p).2.2.2.1]

theorem frameMixed_zoneShown : zoneShown (frameMixed chimeFirst frame h) z ↔ zoneShown (framePath chimeFirst h) z := by
  obtain ⟨g, zones, manage, slots, eq, use, _, _⟩ := frameMixed_eq chimeFirst frame h
  rw [eq]
  exact zoneShown_congr rfl use

theorem iconValue_iff {b : Nat} : iconValue l b s = true ↔
    zoneShown s (seatAt s (seatNumber l b 0)).zone ∨ zoneShown s (seatAt s (seatNumber l b 1)).zone := by
  rw [iconValue, Bool.or_eq_true, zoneShown_iff, zoneShown_iff]

/-! ### The lines -/

theorem frameEnded_lines_held (chimeFirst : Bool) (frame : List KeptBlock) (h : State) :
    (frameEnded chimeFirst frame h).lines.held = [] := by
  obtain ⟨g, zones, manage, slots, mixed, _⟩ := frameMixed_eq chimeFirst frame h
  obtain ⟨lines, prepared, held, _⟩ := framePrepared_eq h
  rw [frameEnded_frame.lines, frameShown_eq, mixed]
  dsimp only
  rw [framePath_frame.lines, prepared]
  exact held

/-- A line after the frame start: its held writes on the marks of the seats, the samples, and the displays. -/
theorem frameEnded_line (chimeFirst : Bool) (frame : List KeptBlock) (atL : h.lines.lines[l]? = some x) : ∃ y m,
    (frameEnded chimeFirst frame h).lines.lines[l]? = some y ∧ marked x m ∧
    y = { lineWritten (lineRecords h.lines.held l) m with slots := y.slots, boxes := y.boxes } ∧
    ∀ b : Nat, y.boxes[b]? = m.boxes[b]?.map
      (showOn h.route.requested.isSome (iconValue l b (frameMixed chimeFirst frame h))) := by
  obtain ⟨g, zones, manage, slots, mixed, _⟩ := frameMixed_eq chimeFirst frame h
  obtain ⟨lines, prepared, _, written⟩ := framePrepared_eq h
  obtain ⟨m, isMarked, atM⟩ := written l x atL
  have filled : (frameMixed chimeFirst frame h).lines.lines[l]? = some { lineWritten (lineRecords h.lines.held l) m with
      slots := slotsTaken (slots.drop (24 * l)) (lineWritten (lineRecords h.lines.held l) m) } := by
    rw [mixed]
    dsimp only
    rw [fillSlots_getElem?, framePath_frame.lines, prepared]
    dsimp only
    rw [atM, Option.map_some]
  have route := (frameMixed_kept chimeFirst frame h).route
  refine ⟨{ lineWritten (lineRecords h.lines.held l) m with
    slots := slotsTaken (slots.drop (24 * l)) (lineWritten (lineRecords h.lines.held l) m)
    boxes := showBoxes (frameMixed chimeFirst frame h) l 0 (lineWritten (lineRecords h.lines.held l) m).boxes },
    m, ?_, isMarked, rfl, fun b => ?_⟩
  · rw [frameEnded_frame.lines, frameShown_eq]
    dsimp only
    rw [showLines_getElem?, filled, Option.map_some, Nat.zero_add]
  · dsimp only
    obtain ⟨_, _, boxes⟩ := lineWritten_fields (lineRecords h.lines.held l) m
    rw [showBoxes_getElem?, boxes, route, Nat.zero_add]

/-! ### Segment and live control (R129, R132) -/

/-- A chime's end or an END may grant a REQUESTED live, after the masks have been cut to the map. -/
theorem frameEnded_granted (chimeFirst : Bool) (frame : List KeptBlock) (h : State) :
    Granted (framePrepared h) (frameEnded chimeFirst frame h) := by
  have path : Granted (framePrepared h) (framePath chimeFirst h) := by
    unfold framePath
    split
    · exact .endChime _
    · exact .inl rfl
  have pathSeats := (framePath_frame (chimeFirst := chimeFirst) (h := h)).seats
  have shown : Granted (framePrepared h) (frameShown chimeFirst frame h) := by
    obtain ⟨g, zones, manage, slots, mixed, _⟩ := frameMixed_eq chimeFirst frame h
    refine path.trans pathSeats (.inl ?_)
    rw [frameShown_eq, mixed]
  have shownSeats : (frameShown chimeFirst frame h).seats = (framePrepared h).seats :=
    (frameShown_kept chimeFirst frame h).seats.trans (framePrepared_kept h).seats.symm
  rw [frameEnded, frameWork_eq]
  split
  · have ended := shown.trans shownSeats (.endChime _)
    exact ended.trans ((endChime_pathFrame _).seats.trans shownSeats) (.endReport _ _)
  · exact shown.trans shownSeats (.endReport _ _)

/-! ### The lamps (R157) -/

theorem endChime_of_tones (sounding : ∀ q, s.mix.generator = some q → q.tones ≠ []) : endChime s = s := by
  have retired : retireChime s = (s, false) := by
    cases generator : s.mix.generator with
    | none => rw [retireChime, generator]
    | some q =>
      cases tones : q.tones with
      | nil => exact absurd tones (sounding q generator)
      | cons tone rest => exact retireChime_of_tone generator tones
  rw [endChime, retired]
  rfl

theorem chimeOver_of_tones (sounding : ∀ q, s.mix.generator = some q → q.tones ≠ []) : chimeOver s = false := by
  unfold chimeOver
  split
  · next use left phase generator => exact absurd rfl (sounding _ generator)
  · rfl

/-- With no chime's end and no END in the frame start, the INDICATOR layer alone may change. -/
theorem frameEnded_relit (sounding : ∀ q, h.mix.generator = some q → q.tones ≠ []) (noEnd : endTicket frame = none) :
    relit h.lighting { h.lighting with indicator := h.route.requested.isSome }
      (frameEnded chimeFirst frame h).lighting := by
  obtain ⟨lines, prepared, _⟩ := framePrepared_eq h
  have sounds : ∀ q, (framePrepared h).mix.generator = some q → q.tones ≠ [] := by
    rw [prepared]
    dsimp only
    rw [(mixFrameWrites_spec h).2.2.2.1]
    exact sounding
  have path : framePath chimeFirst h = framePrepared h := by
    rw [framePath, endChime_of_tones sounds, ite_self]
  have ended : frameEnded chimeFirst frame h = frameShown chimeFirst frame h := by
    rw [frameEnded, noEnd, frameWork_eq, chimeOver_of_tones sounds, Bool.and_false]
    rfl
  obtain ⟨g, zones, manage, slots, mixed, _⟩ := frameMixed_eq chimeFirst frame h
  have lighting : (updateDisplays (frameMixed chimeFirst frame h)).lighting = h.lighting := by
    change (frameMixed chimeFirst frame h).lighting = h.lighting
    rw [mixed, path, prepared]
  have route : (updateDisplays (frameMixed chimeFirst frame h)).route = h.route :=
    (frameMixed_kept chimeFirst frame h).route
  have shown := setIndicator_relit h.route.requested.isSome (updateDisplays (frameMixed chimeFirst frame h))
  rw [ended, frameShown, route, ← lighting]
  exact shown

end Sys2Proof.Machine

/-! A frame start from the state before it: the handover, after the report or before it, and the work behind it (R2). -/

namespace Sys2Proof.Machine

variable {s h e : State} {reportFirst chimeFirst : Bool} {l z : Nat} {x : Line}

/-! ### The state that is handed over -/

/-- The state that the frame's work begins from. -/
def frameHanded (reportFirst : Bool) (s : State) : State := (handOver (frameBegun reportFirst s)).2

/-- The report and the handover keep every block but the buffer, and what the route engine's retry can change. -/
theorem frameHanded_routeFrame (reportFirst : Bool) (s : State) :
    (frameHanded reportFirst s).link = s.link ∧ (frameHanded reportFirst s).seats = s.seats ∧
      (frameHanded reportFirst s).lines = s.lines ∧ (frameHanded reportFirst s).sense = s.sense ∧
      (frameHanded reportFirst s).clockPhase = s.clockPhase ∧
      (frameHanded reportFirst s).manage.requests = s.manage.requests ∧
      (frameHanded reportFirst s).mix = { s.mix with generator := (frameHanded reportFirst s).mix.generator } := by
  have frame := handOver_routeFrame (s := frameBegun reportFirst s)
  obtain ⟨report, replies, notices, eq⟩ := frameBegun_eq reportFirst s
  unfold frameHanded
  refine ⟨frame.link.trans ?_, frame.seats.trans ?_, frame.lines.trans ?_, frame.sense.trans ?_,
    frame.clockPhase.trans ?_, frame.requests.trans ?_, frame.mix.trans ?_⟩ <;> rw [eq]

theorem frameHanded_alike (reportFirst : Bool) (s : State) : PathAlike False (handOver s).2 (frameHanded reportFirst s) :=
  (handOver_begun reportFirst s).2

theorem frameHanded_sense (reportFirst : Bool) (s : State) : (frameHanded reportFirst s).sense = (handOver s).2.sense :=
  (frameHanded_routeFrame reportFirst s).2.2.2.1.trans (handOver_routeFrame (s := s)).sense.symm

/-- The buffer after the handover (R11, R14). -/
theorem frameHanded_playout (reportFirst : Bool) (s : State) {p : Playout} (isP : p = (frameHanded reportFirst s).playout) :
    p.frameTimer = 2 ∧ p.lastSequence = s.playout.lastSequence ∧
      (s.playout.state = .filling → p.state = .filling ∧ p.queue = s.playout.queue ∧
        p.segmentCopy = s.playout.segmentCopy) ∧
      (s.playout.state = .playing → s.playout.queue = [] → p.state = .filling ∧ p.queue = [] ∧
        p.segmentCopy = s.playout.segmentCopy) ∧
      ∀ f rest, s.playout.state = .playing → s.playout.queue = f :: rest → p.state = .playing ∧ p.queue = rest ∧
        p.segmentCopy = f.segment := by
  obtain ⟨timer, last⟩ := handOver_timer (frameBegun reportFirst s)
  obtain ⟨report, replies, notices, eq⟩ := frameBegun_eq reportFirst s
  have begun : (frameBegun reportFirst s).playout = { s.playout with frameTimer := 2 } := by rw [eq]
  rw [begun] at timer last
  subst isP
  unfold frameHanded
  refine ⟨timer, last, fun filling => ?_, fun playing empty => ?_, fun f rest playing queue => ?_⟩
  · rw [handOver_of_filling (by rw [begun]; exact filling), begun]
    exact ⟨filling, rfl, rfl⟩
  · rw [handOver_of_underflow (by rw [begun]; exact playing) (by rw [begun]; exact empty), begun]
    exact ⟨rfl, empty, rfl⟩
  · rw [framed_handOver_playout (f := f) (rest := rest) (by rw [begun]; exact playing) (by rw [begun]; exact queue), begun]
    exact ⟨playing, rfl, rfl⟩

theorem frameHanded_keepsLive (reportFirst : Bool) (s : State) : keepsLive s (frameHanded reportFirst s) := by
  obtain ⟨report, replies, notices, eq⟩ := frameBegun_eq reportFirst s
  have handed := handOver_keepsLive (frameBegun reportFirst s)
  have begun : (frameBegun reportFirst s).segment = s.segment := by rw [eq]
  rw [keepsLive, begun] at handed
  exact handed

/-! ### The work -/

/-- The state after the frame's work, before a report that comes last. -/
def frameWorked (reportFirst chimeFirst : Bool) (s : State) : State :=
  frameEnded chimeFirst (handOver s).1 (frameHanded reportFirst s)

/-- A report that comes last leaves the blocks. -/
theorem frameStart_next (reportFirst chimeFirst : Bool) (s : State) : ∃ t,
    exec (.frameStart reportFirst ⟨chimeFirst, false⟩) s = .next t ∧
      (∃ report replies notices, t = { frameWorked reportFirst chimeFirst s with
        report := report
        manage := { (frameWorked reportFirst chimeFirst s).manage with replies := replies, notices := notices } }) ∧
      ∀ v, v = reportWhen reportFirst { s with playout := { s.playout with frameTimer := 2 } } →
        t = reportWhen (!reportFirst)
          (endReport (endTicket (handOver v).1) (frameWork chimeFirst (handOver v).1 (handOver v).2)) := by
  have worked : endReport (endTicket (handOver (frameBegun reportFirst s)).1)
      (frameWork chimeFirst (handOver (frameBegun reportFirst s)).1 (handOver (frameBegun reportFirst s)).2) =
        frameWorked reportFirst chimeFirst s := by
    rw [(handOver_begun reportFirst s).1]
    rfl
  refine ⟨reportWhen (!reportFirst) (frameWorked reportFirst chimeFirst s), ?_, ?_, fun v isV => ?_⟩
  · rw [exec_frameStart, takeEvent_false]
    exact congrArg (fun w => Host.Outcome.next (reportWhen (!reportFirst) w)) worked
  · obtain ⟨replies, notices, eq⟩ := reportWhen_blocks (!reportFirst) (frameWorked reportFirst chimeFirst s)
    exact ⟨_, replies, notices, eq⟩
  · subst isV
    exact congrArg (reportWhen (!reportFirst)) worked.symm

/-! ### Its blocks -/

theorem frameWorked_kept (isE : e = frameWorked reportFirst chimeFirst s) :
    e.playout = (frameHanded reportFirst s).playout ∧ e.link = s.link ∧ e.sense = s.sense ∧
      e.manage.requests = s.manage.requests ∧ e.lighting.indicator = e.route.requested.isSome ∧
      e.clockPhase = s.clockPhase ∧ e.seats = seatsMoved s.seats ∧ e.lines.held = [] := by
  obtain ⟨link, seats, _, sense, clock, requests, _⟩ := frameHanded_routeFrame reportFirst s
  have kept := frameEnded_kept chimeFirst (handOver s).1 (frameHanded reportFirst s)
  have indicator := frameEnded_indicator chimeFirst (handOver s).1 (frameHanded reportFirst s)
  rw [← kept.route] at indicator
  subst isE
  exact ⟨kept.playout, kept.link.trans link, kept.sense.trans sense, kept.requests.trans requests, indicator,
    kept.clockPhase.trans clock, kept.seats.trans (congrArg seatsMoved seats), frameEnded_lines_held _ _ _⟩

theorem frameWorked_tables (isE : e = frameWorked reportFirst chimeFirst s) {m : MixEngine}
    (isM : m = s.mix.held.foldl mixWritten s.mix) :
    e.mix.curve = m.curve ∧ e.mix.params = m.params ∧ e.mix.classes = m.classes ∧ e.mix.bands = m.bands ∧
      e.mix.chimes = m.chimes ∧ e.mix.zones.map Zone.source = m.zones.map Zone.source ∧
      e.mix.zones.map Zone.clipNotice = m.zones.map Zone.clipNotice ∧ e.mix.held = [] := by
  obtain ⟨_, _, _, _, _, _, mix⟩ := frameHanded_routeFrame reportFirst s
  have written := foldl_mixWritten_apart s.mix.held s.mix (frameHanded reportFirst s).mix.generator s.mix.held
  have tables := frameEnded_tables chimeFirst (handOver s).1 (frameHanded reportFirst s) rfl isE
  rw [mix, written, ← isM] at tables
  exact tables

theorem frameWorked_zoneShown {p : State}
    (isP : p = if chimeFirst then endChime (mixFrameWrites (handOver s).2) else (handOver s).2) :
    zoneShown (framePath chimeFirst (frameHanded reportFirst s)) z ↔ zoneShown p z :=
  framePath_zoneShown (frameHanded_alike reportFirst s) (frameHanded_sense reportFirst s) isP

/-- The ducks (R42). -/
theorem frameWorked_duck (isE : e = frameWorked reportFirst chimeFirst s) {p : State} {zone : Zone}
    (isP : p = if chimeFirst then endChime (mixFrameWrites (handOver s).2) else (handOver s).2)
    (atZ : s.mix.zones[z]? = some zone) : ∃ y, e.mix.zones[z]? = some y ∧
      (zoneShown p z → duckMoves e.mix.params zone.duck (-(e.mix.params.duckDepth : Int)) y.duck) ∧
      (¬ zoneShown p z → duckMoves e.mix.params zone.duck 0 y.duck) := by
  obtain ⟨_, _, _, _, _, _, mix⟩ := frameHanded_routeFrame reportFirst s
  rw [← frameWorked_zoneShown (reportFirst := reportFirst) isP]
  exact frameEnded_duck chimeFirst _ isE (by rw [mix]; exact atZ)

/-! ### A line and its displays (R57, R73, R77) -/

/-- A box's lamp and icon. -/
theorem frameWorked_box (isE : e = frameWorked reportFirst chimeFirst s) {b : Nat} {bx old shown : Box}
    (isOld : old = { bx with displayPending := old.displayPending })
    (stays : bx.displayPending = true → old.displayPending = true)
    (isShown : shown = showOn (frameHanded reportFirst s).route.requested.isSome
      (iconValue l b (frameMixed chimeFirst (handOver s).1 (frameHanded reportFirst s))) old) :
    shown.lamp = e.route.requested.isSome ∧
      (∀ p, p = (if chimeFirst then endChime (mixFrameWrites (handOver s).2) else (handOver s).2) →
        (shown.icon = true ↔ zoneShown p (seatAt e (seatNumber l b 0)).zone ∨
          zoneShown p (seatAt e (seatNumber l b 1)).zone)) ∧
      (bx.displayPending = true ∨ shown.lamp ≠ bx.lamp ∨ shown.icon ≠ bx.icon → shown.displayPending = true) := by
  have mixed := frameMixed_kept chimeFirst (handOver s).1 (frameHanded reportFirst s)
  have ended := frameEnded_kept chimeFirst (handOver s).1 (frameHanded reportFirst s)
  obtain ⟨lamp, icon, pending⟩ := showOn_fields (frameHanded reportFirst s).route.requested.isSome
    (iconValue l b (frameMixed chimeFirst (handOver s).1 (frameHanded reportFirst s))) old
  rw [← isShown] at lamp icon pending
  have seat (n : Nat) : seatAt (frameMixed chimeFirst (handOver s).1 (frameHanded reportFirst s)) n = seatAt e n := by
    rw [seatAt, mixed.seats, seatAt, isE, frameWorked, ended.seats]
  refine ⟨?_, fun p isP => ?_, fun reason => ?_⟩
  · rw [lamp, isE, frameWorked, ended.route]
  · rw [icon, iconValue_iff, frameMixed_zoneShown, frameMixed_zoneShown, seat, seat, frameWorked_zoneShown isP,
      frameWorked_zoneShown isP]
  · rw [← lamp, ← icon] at pending
    refine pending ?_
    rw [isOld]
    rcases reason with marked | differs
    · exact .inl (stays marked)
    · exact .inr differs

theorem frameWorked_line (isE : e = frameWorked reportFirst chimeFirst s) (atL : s.lines.lines[l]? = some x) :
    ∃ y, e.lines.lines[l]? = some y ∧
      y.mode = ((lineRecords s.lines.held l).getLast?.map LineWrite.mode).getD x.mode ∧
      y.sleepEnable = ((lineRecords s.lines.held l).getLast?.map LineWrite.sleepEnable).getD x.sleepEnable ∧
      y.state = (if x.state = .sleeping ∧ ∀ w ∈ lineRecords s.lines.held l, w.sleepEnable = true then .sleeping
                 else .awake) ∧
      (x.state = .sleeping → y.state = .awake →
        y.quiet = some (Config.ms 60000) ∧ y.roundNext = 0 ∧ y.transaction = none) ∧
      ∀ b bx, x.boxes[b]? = some bx → ∃ c, y.boxes[b]? = some c ∧ c.lamp = e.route.requested.isSome ∧
        (∀ p, p = (if chimeFirst then endChime (mixFrameWrites (handOver s).2) else (handOver s).2) →
          (c.icon = true ↔ zoneShown p (seatAt e (seatNumber l b 0)).zone ∨
            zoneShown p (seatAt e (seatNumber l b 1)).zone)) ∧
        (bx.displayPending = true ∨ c.lamp ≠ bx.lamp ∨ c.icon ≠ bx.icon → c.displayPending = true) := by
  obtain ⟨_, _, lines, _⟩ := frameHanded_routeFrame reportFirst s
  obtain ⟨y, m, atY, ⟨isMarked, marks⟩, isY, boxes⟩ := frameEnded_line chimeFirst (handOver s).1
    (h := frameHanded reportFirst s) (l := l) (x := x) (by rw [lines]; exact atL)
  rw [lines] at isY
  obtain ⟨mode, sleep, _⟩ := lineWritten_fields (lineRecords s.lines.held l) m
  have state := lineWritten_state (lineRecords s.lines.held l) m
  have same : m.mode = x.mode ∧ m.sleepEnable = x.sleepEnable ∧ m.state = x.state := by
    rw [isMarked]
    exact ⟨rfl, rfl, rfl⟩
  obtain ⟨sameMode, sameSleep, sameState⟩ := same
  rw [sameMode] at mode
  rw [sameSleep] at sleep
  rw [sameState] at state
  have own : y.mode = (lineWritten (lineRecords s.lines.held l) m).mode ∧
      y.sleepEnable = (lineWritten (lineRecords s.lines.held l) m).sleepEnable ∧
      y.state = (lineWritten (lineRecords s.lines.held l) m).state ∧
      y.quiet = (lineWritten (lineRecords s.lines.held l) m).quiet ∧
      y.roundNext = (lineWritten (lineRecords s.lines.held l) m).roundNext ∧
      y.transaction = (lineWritten (lineRecords s.lines.held l) m).transaction := by
    rw [isY]
    exact ⟨rfl, rfl, rfl, rfl, rfl, rfl⟩
  obtain ⟨ownMode, ownSleep, ownState, ownQuiet, ownNext, ownTransaction⟩ := own
  refine ⟨y, by rw [isE]; exact atY, ownMode.trans mode, ownSleep.trans sleep, ownState.trans state,
    fun asleep awake => ?_, fun b bx atB => ?_⟩
  · obtain ⟨stays, wakes⟩ := lineWritten_asleep (lineRecords s.lines.held l) (sameState.trans asleep)
    have notAll : ¬ ∀ w ∈ lineRecords s.lines.held l, w.sleepEnable = true := fun all => by
      rw [ownState, stays all] at awake
      nomatch awake
    obtain ⟨_, quiet, next, transaction⟩ := wakes notAll
    exact ⟨ownQuiet.trans quiet, ownNext.trans next, ownTransaction.trans transaction⟩
  · obtain ⟨c, atC, isC, stays⟩ := marks b bx atB
    refine ⟨_, by rw [boxes, atC, Option.map_some], frameWorked_box isE isC stays rfl⟩

/-! ### Live control (R129, R132) -/

theorem segmentMasked_live (x : SeatStore) (g : Segment) : (segmentMasked x g).live = g.live := by
  unfold segmentMasked
  split <;> rfl

/-- A held mask that a LANGUAGE write has cut is cut by the same map again at a grant. -/
theorem segmentMasked_heldMask_eligible (x : SeatStore) (g : Segment) :
    (segmentMasked x g).heldMask &&& eligibleIn (mapAfter x.held x.map) =
      g.heldMask &&& eligibleIn (mapAfter x.held x.map) := by
  unfold segmentMasked
  split
  · rw [BitVec.and_assoc, BitVec.and_self]
  · rfl

theorem frameWorked_segment (isE : e = frameWorked reportFirst chimeFirst s) {prepared : Segment}
    (isPrepared : prepared = segmentMasked s.seats (frameHanded reportFirst s).segment) :
    e.segment = prepared ∨ (s.segment.live = .requested ∧ e.segment = { prepared with
      live := .on, liveMask := s.segment.heldMask &&& eligible e, heldMask := 0 }) := by
  obtain ⟨_, seats, _⟩ := frameHanded_routeFrame reportFirst s
  obtain ⟨live, _, heldMask⟩ := frameHanded_keepsLive reportFirst s
  obtain ⟨_, eq, _⟩ := framePrepared_eq (frameHanded reportFirst s)
  have segment : (framePrepared (frameHanded reportFirst s)).segment = prepared := by rw [eq, isPrepared, seats]
  have map : eligible (framePrepared (frameHanded reportFirst s)) = eligibleIn (mapAfter s.seats.held s.seats.map) := by
    rw [eligible_eq, eq, seats]
    rfl
  have mapE : eligible e = eligibleIn (mapAfter s.seats.held s.seats.map) := by
    rw [eligible_eq, (frameWorked_kept isE).2.2.2.2.2.2.1]
    rfl
  have granted := frameEnded_granted chimeFirst (handOver s).1 (frameHanded reportFirst s)
  rw [Granted, segment, map] at granted
  rw [isE]
  refine granted.imp_right fun ⟨requested, grant⟩ => ?_
  rw [isPrepared, segmentMasked_live, live] at requested
  refine ⟨requested, ?_⟩
  rw [← isE, mapE, ← heldMask, ← segmentMasked_heldMask_eligible, ← isPrepared, isE]
  exact grant

/-- Where live control stands, a LANGUAGE write cuts both masks, and nothing else changes one. -/
theorem frameWorked_masks (isE : e = frameWorked reportFirst chimeFirst s) (stands : e.segment.live = s.segment.live) :
    ((∃ first records, .language first records ∈ s.seats.held) →
      e.segment.liveMask = s.segment.liveMask &&& eligible e ∧
        e.segment.heldMask = s.segment.heldMask &&& eligible e) ∧
    ((∀ first records, .language first records ∉ s.seats.held) →
      e.segment.liveMask = s.segment.liveMask ∧ e.segment.heldMask = s.segment.heldMask) := by
  obtain ⟨live, liveMask, heldMask⟩ := frameHanded_keepsLive reportFirst s
  have mapE : eligible e = eligibleIn (mapAfter s.seats.held s.seats.map) := by
    rw [eligible_eq, (frameWorked_kept isE).2.2.2.2.2.2.1]
    rfl
  rcases frameWorked_segment isE rfl with segment | ⟨requested, granted⟩
  · rw [segment, mapE]
    refine ⟨fun written => ?_, fun unwritten => ?_⟩
    · rw [segmentMasked, if_pos (languageHeld_iff.2 written), ← liveMask, ← heldMask]
      exact ⟨rfl, rfl⟩
    · have no : ¬ languageHeld s.seats.held = true := fun yes => by
        obtain ⟨first, records, inside⟩ := languageHeld_iff.1 yes
        exact unwritten first records inside
      rw [segmentMasked, if_neg no]
      exact ⟨liveMask, heldMask⟩
  · rw [granted, requested] at stands
    nomatch stands

/-- Live control changes by a grant alone. -/
theorem frameWorked_granted (isE : e = frameWorked reportFirst chimeFirst s) (changed : e.segment.live ≠ s.segment.live) :
    s.segment.live = .requested ∧ e.segment.live = .on ∧ e.segment.liveMask = s.segment.heldMask &&& eligible e ∧
      e.segment.heldMask = 0 := by
  rcases frameWorked_segment isE rfl with segment | ⟨requested, granted⟩
  · rw [segment, segmentMasked_live] at changed
    exact absurd (frameHanded_keepsLive reportFirst s).1 changed
  · rw [granted]
    exact ⟨requested, rfl, rfl, rfl⟩

/-! ### The lamps (R157) -/

theorem frameWorked_relit (isE : e = frameWorked reportFirst chimeFirst s) {h : State} (isH : h = (handOver s).2)
    (sounding : ∀ q, h.mix.generator = some q → q.tones ≠ []) (noEnd : endTicket (handOver s).1 = none) :
    relit h.lighting { h.lighting with indicator := e.route.requested.isSome } e.lighting := by
  have alike := frameHanded_alike reportFirst s
  rw [← isH] at alike
  have shown := frameEnded_relit (chimeFirst := chimeFirst) (h := frameHanded reportFirst s) (by rw [alike.mix]; exact sounding)
    noEnd
  rw [alike.lighting] at shown
  rw [isE, frameWorked, (frameEnded_kept chimeFirst (handOver s).1 (frameHanded reportFirst s)).route]
  exact shown

end Sys2Proof.Machine

namespace Sys2Proof.Proofs

open Sys2Proof Sys2Proof.Machine

/-- Settles O13: the report and the handover, block by block (`frameHanded_playout`, `frameHanded_routeFrame`), and the
stages of the work behind them (`frameWorked_…`); the report leaves what they made (`frameStart_next`). -/
theorem frameStartHandsOverAndAppliesWrites : Obligations.FrameStartHandsOverAndAppliesWrites := by
  unfold Obligations.FrameStartHandsOverAndAppliesWrites
  refine ⟨fun s reportFirst chimeFirst => ?work, fun s => ?handover, fun frame => ?ticket⟩
  case work =>
    obtain ⟨t, next, ⟨report, replies, notices, blocks⟩, order⟩ := frameStart_next reportFirst chimeFirst s
    refine ⟨t, next, ?_⟩
    obtain ⟨e, isE⟩ : ∃ e, e = frameWorked reportFirst chimeFirst s := ⟨_, rfl⟩
    obtain ⟨playout, link, sense, requests, indicator, clock, seats, linesHeld⟩ := frameWorked_kept isE
    obtain ⟨timer, last, filling, underflow, handed⟩ := frameHanded_playout reportFirst s playout
    obtain ⟨_, _, _, _, _, _, _, mixHeld⟩ := frameWorked_tables isE rfl
    rw [← isE] at blocks
    subst blocks
    refine ⟨timer, last, filling, underflow, handed, congrArg SeatStore.held seats, mixHeld, linesHeld, link, sense,
      requests, indicator, clock, ⟨congrArg SeatStore.map seats, fun full => ?seats⟩, fun m isM => ?tables,
      fun l x atL => ?line, fun p z x isP atZ => ?duck, fun stands => ?masks, fun changed => ?granted,
      fun h isH sounding noEnd => ?lamps, order⟩
    case seats =>
      refine ⟨defaultLanguage (mapAfter s.seats.held s.seats.map), ?_, ?_⟩
      · dsimp only
        rw [seats]
        exact defaultLanguage_defaultOf _
      · dsimp only
        rw [seats]
        exact seatsMoved_movedTo full
    case tables =>
      obtain ⟨curve, params, classes, bands, chimes, sources, notices, _⟩ := frameWorked_tables isE isM
      exact ⟨curve, params, classes, bands, chimes, sources, notices⟩
    case line => exact (frameWorked_line isE atL :)
    case duck => exact (frameWorked_duck isE isP atZ :)
    case masks => exact (frameWorked_masks isE stands :)
    case granted => exact (frameWorked_granted isE changed :)
    case lamps => exact (frameWorked_relit isE isH sounding noEnd :)
  case handover =>
    refine ⟨fun empty => ?_, fun filling => ?_, fun playing empty => ?_, fun f rest u playing queue isU => ?_,
      fun f rest playing queue => ?_⟩
    · cases state : s.playout.state with
      | filling => rw [handOver_of_filling state]
      | playing =>
        rcases empty with filling | noFrame
        · nomatch state.symm.trans filling
        · rw [handOver_of_underflow state noFrame]
    · rw [handOver_of_filling filling]
    · rw [handOver_of_underflow playing empty]
    · rw [handOver_of_frame playing queue, isU]
      rfl
    · rw [handOver_of_frame playing queue]
      refine ⟨List.filter_sublist, fun k inside => ?_⟩
      rw [List.mem_filter, passesHandover_iff]
      exact ⟨fun both => both.2, fun passes => ⟨inside, passes⟩⟩
  case ticket => exact ⟨fun _ => endTicket_eq_some, endTicket_eq_none_iff⟩

end Sys2Proof.Proofs
